-- ==== Sys2Proof/Word.lean ====
section
/-!
DEFINITION. The word types of the model: the 32-bit register word of a page (R33), the byte of memory, and the wide words
of the Olkor cores.
-/
namespace Sys2Proof

/-- A 32-bit register of a peripheral page (R33). -/
abbrev Word := BitVec 32

/-- One byte of memory. -/
abbrev Byte := BitVec 8

/-- The native word of an Olkor core, and one word of its workspace. -/
abbrev Quad := BitVec 128

end Sys2Proof
end

