-- ==== Sys2Proof/Syntax.lean ====
section
/-!
DEFINITION. The commands of the block: one constructor of `Instr` per row of the spec's table of operations and events,
with the operands the row's rule gives it. A command either comes from an initiator of the module (a write or a read of a
register, an instruction of a core) or states an event of the environment (a sample, a timer that ends, a frame on a bus).
-/
namespace Sys2Proof

/-- Who sends an access (R32, R65): a core, a DMA channel, the Bond link, the debug port. -/
inductive Initiator where
  | core (c : Fin 12)
  | dma (n : Fin 64)
  | bond
  | debug
  deriving DecidableEq, Repr

/-- The assigned opcodes of the Olkor cores (R266). -/
inductive Op where
  | nop | trap | eret | done | crd | cwr | rep | repi | br | jmp | call | frn | add | addc | sub | subb | neg | cmp
  | divu | divs | remu | rems | mov | movz | movs | and | or | xor | andn | not | tst | shl | shr | sar | rol | mulu
  | muls | macu | macs | movp | vmulu | vmuls | vmacu | vmacs | vadd | vsub | vadds | vsubs | vaddus | vsubus | vmin
  | vmax | vminu | vmaxu | vceq | vcgt | vcgtu | vshl | vshr | vsar | tas | lr | sc | probe
  deriving DecidableEq, Repr

/-- The head parcel's fields but for the opcode and the count of specifiers (R235). -/
structure Head where
  size : Fin 8
  cond : Fin 8
  rpt : Bool
  deriving DecidableEq, Repr

/-- An operand specifier with its extension parcels, one constructor per addressing mode (R242). -/
inductive Spec where
  | direct (word : Fin 64) (off : Fin 16)
  | imm (v : BitVec 12)
  | long (v : Quad)
  | base (b : Fin 64) (d : BitVec 16)
  | index (b i : Fin 64) (scale : Fin 8) (d : BitVec 13)
  | postInc (p : Fin 64)
  | preDec (p : Fin 64)
  | abs (a : Word)
  | page (f : BitVec 12) (ty inst : Byte)
  deriving DecidableEq, Repr

/-- One instruction of one core (R235): opcode, head fields, specifiers in operand order. -/
structure CoreInstr where
  core : Fin 12
  op : Op
  hd : Head
  specs : List Spec
  deriving DecidableEq, Repr

/-- A CAN frame on the bus (R353, R359): format code, flags, identifier, DLC, payload, the XL fields. -/
structure CanFrame where
  fmt : Nat
  brs : Bool
  esi : Bool
  id : Nat
  dlc : Nat
  data : List Byte
  vcid : Nat
  sec : Bool
  sdt : Nat
  af : Nat
  deriving DecidableEq, Repr

/-- A telegram decoded by the UHF receiver (R520). -/
structure Telegram where
  type : Byte
  tid : Word
  flags : Byte
  aux : Byte
  cnt : BitVec 24
  mac : List Byte
  deriving DecidableEq, Repr


/-- An output with a PWM schedule: a high-side channel (R104) or a half-bridge unit (R144). -/
inductive Output where
  | hsw (n : Fin 96)
  | hbr (n : Fin 24)
  deriving DecidableEq, Repr

/-- How a CAN transmission ends: with success, with the arbitration lost, with an error before its data phase or within or after it (R356,
R370). -/
inductive TxResult where
  | ok | lost | error | dataError
  deriving DecidableEq, Repr

/-- What desaturates: the high-side switch of a half-bridge or its low-side switch, and the drain-source voltage in mV (R148). -/
structure SwitchDrop where
  high : Bool
  mV : Nat
  deriving DecidableEq, Repr

/-- A stall of the unit led by half-bridge `unit`: its current in mA, and for how many ms it has stood (R151). -/
structure StallTime where
  unit : Fin 24
  mA : Nat
  ms : Nat
  deriving DecidableEq, Repr

/-- An armature's travel as the detector sees it: µs from the peak start to the end of travel, the largest current in mA or slope since
blanking, the smallest after it, and the one that confirms (R178). -/
structure Travel where
  us : Nat
  top : Int
  low : Int
  up : Int
  deriving DecidableEq, Repr

/-- The coil current of a valve in mA (R176). -/
structure CoilCurrent where
  valve : Fin 4
  mA : Nat
  deriving DecidableEq, Repr

/-- A sync field on LIN channel `chan`: its measured bit time in cycles of 16 MHz (R391). -/
structure SyncField where
  chan : Fin 16
  t : Nat
  deriving DecidableEq, Repr

/-- The commands of the block, one per row of the table, in the table's order. -/
inductive Instr where
  /-- FRAME_BOUNDARY (R17): When the frame length elapses on the timebase, the module applies boundary commits,
  applies the output image, freezes the snapshots, advances the frame number and releases tasks. -/
  | frameBoundary
  /-- REGISTER_WRITE (R5): A write to a register that has no row of its own stores the value according to its access
  type, subject to the lock, width and unmapped-offset rules. -/
  | registerWrite (ini : Initiator) (a : Word) (k : Fin 5) (v : Quad)
  /-- EV_SET (R47): A write of EV_SET sets the selected EV_STAT bits. -/
  | evSet (ini : Initiator) (ty inst : Byte) (w : Word)
  /-- COMMIT_BOUNDARY (R49): Commit code 0b001 sets PEND so that the staging area applies at the next boundary. -/
  | commitBoundary (ini : Initiator) (ty inst : Byte)
  /-- COMMIT_IMMEDIATE (R51): Commit code 0b010 applies the staging area now; on HSW, HBR and SOL pages it is deferred
  to the boundary and sets IMMDEF. -/
  | commitImmediate (ini : Initiator) (ty inst : Byte)
  /-- COMMIT_CANCEL (R49): Commit code 0b011 clears PEND and ARMED. -/
  | commitCancel (ini : Initiator) (ty inst : Byte)
  /-- COMMIT_RELOAD (R49): Commit code 0b100 copies the applied configuration into the staging area. -/
  | commitReload (ini : Initiator) (ty inst : Byte)
  /-- COMMIT_ARM (R49): Commit code 0b101 sets ARMED so that the page waits for GROUP_COMMIT. -/
  | commitArm (ini : Initiator) (ty inst : Byte)
  /-- COMMIT_BADCODE (R49): A reserved commit code has no effect and sets ERR_STAT.BADCODE. -/
  | commitBadcode (ini : Initiator) (ty inst : Byte) (code : BitVec 3)
  /-- GROUP_COMMIT_GO (R53): A write of GO turns ARMED into PEND on every armed page. -/
  | groupCommitGo (ini : Initiator)
  /-- DOMAIN_REQUEST_ON (R440): A write of REQ = ON for a domain queues an exit to ON, or aborts an entry that is in
  progress. -/
  | domainRequestOn (ini : Initiator) (d : Fin 45)
  /-- DOMAIN_REQUEST_RET (R440): A write of REQ = RET queues an entry of the domain into retention. -/
  | domainRequestRet (ini : Initiator) (d : Fin 45)
  /-- DOMAIN_REQUEST_OFF (R440): A write of REQ = OFF queues an entry of the domain into OFF. -/
  | domainRequestOff (ini : Initiator) (d : Fin 45)
  /-- DOMAIN_ENTRY_START (R442): The sequencer takes the next entry request, checks the refusal conditions and sets
  BUSY, or refuses and counts. -/
  | domainEntryStart
  /-- DOMAIN_ENTRY_COMPLETE (R442): Once pending accesses finish, the domain clamps, stops its clock, switches rails
  and takes the new STATE. -/
  | domainEntryComplete
  /-- DOMAIN_ENTRY_ABORT (R444): A condition, a wake source or a write of ON before the clamp instant returns the
  domain to ON. -/
  | domainEntryAbort
  /-- DOMAIN_EXIT_COMPLETE (R446): An exit to ON restores the rail, the contents or the reset values, the clock and
  the clamps, and releases waiting accesses. -/
  | domainExitComplete
  /-- GROUP_COMMAND (R447): A write of GRP_CMD with GO requests TGT for every masked domain in the fixed group order.
  -/
  | groupCommand (ini : Initiator) (tgt : BitVec 2) (stop : Bool)
  /-- PLINTH_WAKE (R450): A raised Plinth wake source sets WSTAT and requests ON for PD18 and its wake set. -/
  | plinthWake (src : Fin 18)
  /-- LOW_POWER_ENTRY (R458): When every domain other than PD00 is parked, the Plinth regulator enters low-power mode.
  -/
  | lowPowerEntry
  /-- PLINTH_BROWN_OUT (R459): A load above I_LPLIM in low-power mode switches off retention rails, records PBO and
  raises source 17. -/
  | plinthBrownOut (load : Bool) (rail : Option (Byte × Bool))
  /-- RTC_ALARM (R457): The RTC reaching the armed alarm value raises wake source 13 and clears EN. -/
  | rtcAlarm
  /-- WTP_ADDRESS_MATCH (R452): An address byte on the wake target port that matches ADDR is acknowledged, raises
  source 12 and stretches SCL. -/
  | wtpAddressMatch (addr : BitVec 7) (read : Bool)
  /-- WTP_POINTER_WRITE (R451): A pointer byte written over the wake target port sets the register pointer. -/
  | wtpPointerWrite (v : Byte)
  /-- WTP_DATA_WRITE (R453): A data byte written over the port updates WSTAT or WREQ at the pointer and increments the
  pointer. -/
  | wtpDataWrite (v : Byte)
  /-- WTP_DATA_READ (R453): A data byte read over the port returns the byte register at the pointer and increments the
  pointer. -/
  | wtpDataRead
  /-- WTP_STOP (R454): A STOP ends a transfer and turns the WREQ bits written into ON requests. -/
  | wtpStop
  /-- REFUSE_CNT_READ (R46): A read of REFUSE_CNT returns the count and clears it. -/
  | refuseCntRead (ini : Initiator) (d : Fin 45)
  /-- MEAS_RESULT (R69): A decimator output completes; it is calibrated, overlaid and written to RES, and SEQ and
  FRESH advance. -/
  | measResult (g : Fin 4) (k : Fin 48) (d : Int)
  /-- PWM_PERIOD_MEAN (R72): At the end of a PWM period, a channel with PMEAN set yields the mean current of that
  period as a result. -/
  | pwmPeriodMean (g : Fin 4) (k : Fin 48) (d : Int)
  /-- RES_READ (R75): A read of RES returns the result word and clears FRESH. -/
  | resRead (ini : Initiator) (g : Fin 4) (k : Fin 48)
  /-- INJECTION_WINDOW_START (R81): The calibration round reaches a channel and starts an injection window when the
  channel is idle, or skips it. -/
  | injectionWindowStart (g : Fin 4) (lsb : Nat)
  /-- INJECTION_WINDOW_END (R84): An injection window ends and its coefficients are accepted or rejected, with CALFAIL
  set on rejection. -/
  | injectionWindowEnd (g : Fin 4) (gain : Nat) (ofs : Int)
  /-- CAL_ROUND_END (R85): At the end of a 250 ms round, the references are checked, REF_OK is updated and CAL_AGE
  advances. -/
  | calRoundEnd (g : Fin 4) (refOk : Bool)
  /-- CAL_REQ_GO (R88): A write of CAL_REQ with GO registers a calibration request for IDX at the next boundary. -/
  | calReqGo (ini : Initiator) (g : Fin 4) (idx : BitVec 6)
  /-- CAL_REQ_IDLE (R88): The requested channel becomes idle within t_IW and its injection window runs at once. -/
  | calReqIdle (g : Fin 4) (lsb : Nat)
  /-- CAL_REQ_IDLE_TIMEOUT (R88): t_IW passes without the channel becoming idle; the request is dropped with RESULT
  0b10. -/
  | calReqIdleTimeout (g : Fin 4)
  /-- HSW_CMD_OFF (R100): A write of CTL with CMD OFF stores the OFF command for the next boundary. -/
  | hswCmdOff (ini : Initiator) (n : Fin 96) (duty : BitVec 16)
  /-- HSW_CMD_ON (R100): A write of CTL with CMD ON stores the ON command for the next boundary. -/
  | hswCmdOn (ini : Initiator) (n : Fin 96) (duty : BitVec 16)
  /-- HSW_CMD_PWM (R100): A write of CTL with CMD PWM stores the PWM command and DUTY for the next boundary. -/
  | hswCmdPwm (ini : Initiator) (n : Fin 96) (duty : BitVec 16)
  /-- HSW_CMD_RESERVED (R101): A CTL write with CMD 0b11 is ignored and sets CMDRSV. -/
  | hswCmdReserved (ini : Initiator) (n : Fin 96) (duty : BitVec 16)
  /-- HSW_EDGE_START (R102): The delayed gate drive of an ON or OFF change starts after PHOFF or t_OA, and PEND
  clears. -/
  | hswEdgeStart (n : Fin 96)
  /-- PWM_PERIOD_START (R106): A PWM period starts on the epoch schedule; the channel switches on unless CLIP
  suppresses it. -/
  | pwmPeriodStart (out : Output) (k tOa : Nat)
  /-- PWM_ON_PHASE_END (R105): The on-time of a PWM period ends and the output switches off for the rest of the
  period. -/
  | pwmOnPhaseEnd (out : Output)
  /-- CURRENT_LIMIT_ENTRY (R111): The channel current reaches the active limit; the channel regulates, enters LIMIT
  and runs its accumulator. -/
  | currentLimitEntry (n : Fin 96) (mA : Nat)
  /-- CURRENT_LIMIT_EXIT (R113): The current falls below the active limit and the channel returns from LIMIT to ON. -/
  | currentLimitExit (n : Fin 96)
  /-- INRUSH_WINDOW_END (R111): INR_T ends after a switch-on and the active limit changes from LIM_INR to LIM_RUN. -/
  | inrushWindowEnd (n : Fin 96)
  /-- LIMIT_ACC_CLEAR (R113): After t_LIMRST of driving without limiting, the limit-time accumulator returns to 0. -/
  | limitAccClear (n : Fin 96)
  /-- SHORT_CIRCUIT (R112): Current above 1.5 times the active limit switches the channel off within t_SC and it
  enters RETRY or LOCKOUT. -/
  | shortCircuit (n : Fin 96) (mA : Nat)
  /-- LIMQ (R113): The limit-time accumulator reaches the LIMQ time; the channel switches off and enters RETRY or
  LOCKOUT. -/
  | limq (n : Fin 96)
  /-- HSW_THERMAL_LATCH_SET (R114): The switch junction reaches T_TL; the channel turns off, its latch sets and it
  enters THERM. -/
  | hswThermalLatchSet (n : Fin 96) (degC : Nat)
  /-- HSW_THERMAL_LATCH_RELEASE (R116): The latch releases; the channel enters RETRY, LOCKOUT or OFF according to its
  command and RETRY_LEFT. -/
  | hswThermalLatchRelease (n : Fin 96) (degC : Nat)
  /-- RETRY_DELAY_END (R115): The retry delay ends; RETRY_LEFT decrements and the channel switches on again or enters
  UVOFF. -/
  | retryDelayEnd (n : Fin 96)
  /-- WIRE_MODEL_UPDATE (R118): Every t_WM the wire model updates θ, and it trips, warns or releases WIRE against the
  allowed rise. -/
  | wireModelUpdate (n : Fin 96) (i2 : Nat)
  /-- OPEN_LOAD_DETECT (R122): The current stays below OL_THR for OL_QT of evaluated time; STATE.OL becomes 1. -/
  | openLoadDetect (n : Fin 96) (mA : Nat)
  /-- OPEN_LOAD_CLEAR (R122): The current stays above 1.125 × OL_THR for OL_QT of evaluated time; STATE.OL returns to
  0. -/
  | openLoadClear (n : Fin 96) (mA : Nat)
  /-- REVERSE_CURRENT_TRIP (R638): Reverse current above 1.5 times nominal for 10 µs switches the channel off as after
  a short circuit. -/
  | reverseCurrentTrip (n : Fin 96) (mA : Nat)
  /-- FEED_VOLTAGE_DROP (R126): The feed falls below UV_THR and the under-voltage filter starts, or the running
  restart delay starts again. -/
  | feedVoltageDrop (g : Fin 4) (mV : Nat)
  /-- FEED_UNDER_VOLTAGE (R126): The UV filter time expires; the group enters under-voltage and its conducting HSW,
  HBR and SOL outputs switch off. -/
  | feedUnderVoltage (g : Fin 4)
  /-- FEED_VOLTAGE_RECOVERY (R126): The feed rises to UV_THR plus the hysteresis and the restart delay starts. -/
  | feedVoltageRecovery (g : Fin 4) (mV : Nat)
  /-- FEED_GROUP_RESTART (R127): The restart delay ends; UVOFF channels take up their commands, units follow UVRES and
  valves are re-admitted. -/
  | feedGroupRestart (g : Fin 4)
  /-- POWER_DIE_SUPPLY_LOSS (R128): The feed falls below V_PDMIN; the die loses its supply and protection state, and
  an under-voltage entry is counted. -/
  | powerDieSupplyLoss (g : Fin 4)
  /-- POWER_DIE_SUPPLY_START (R128): The feed returns; the die loads the applied configuration, resets θ, the latches
  and the retries, and stays in under-voltage. -/
  | powerDieSupplyStart (g : Fin 4)
  /-- HSW_TRIP_CNT_READ (R46): A read of HSW TRIP_CNT returns the count and clears it. -/
  | hswTripCntRead (ini : Initiator) (n : Fin 96)
  /-- UV_CNT_READ (R46): A read of FEED_STAT returns UV_CNT and clears it. -/
  | uvCntRead (ini : Initiator) (g : Fin 4)
  /-- HBR_CMD_OFF_COAST (R141): A CTL write with CMD 0b000 on the lead page stores OFF or COAST. -/
  | hbrCmdOffCoast (ini : Initiator) (n : Fin 24) (duty : BitVec 16)
  /-- HBR_CMD_HIGH_FWD (R141): A CTL write with CMD 0b001 stores HIGH or FWD. -/
  | hbrCmdHighFwd (ini : Initiator) (n : Fin 24) (duty : BitVec 16)
  /-- HBR_CMD_LOW_REV (R141): A CTL write with CMD 0b010 stores LOW or REV. -/
  | hbrCmdLowRev (ini : Initiator) (n : Fin 24) (duty : BitVec 16)
  /-- HBR_CMD_PWM_BRAKE (R141): A CTL write with CMD 0b011 stores PWM or BRAKE. -/
  | hbrCmdPwmBrake (ini : Initiator) (n : Fin 24) (duty : BitVec 16)
  /-- HBR_CMD_BRAKEH (R141): A CTL write with CMD 0b100 stores BRAKEH for an H-bridge or paralleled pair. -/
  | hbrCmdBrakeh (ini : Initiator) (n : Fin 24) (duty : BitVec 16)
  /-- HBR_CMD_FPWM (R141): A CTL write with CMD 0b101 stores FPWM. -/
  | hbrCmdFpwm (ini : Initiator) (n : Fin 24) (duty : BitVec 16)
  /-- HBR_CMD_RPWM (R141): A CTL write with CMD 0b110 stores RPWM. -/
  | hbrCmdRpwm (ini : Initiator) (n : Fin 24) (duty : BitVec 16)
  /-- HBR_CMD_RESERVED (R141): A CTL write with a reserved code for the topology is ignored and sets CMDRSV. -/
  | hbrCmdReserved (ini : Initiator) (n : Fin 24) (code : BitVec 3) (duty : BitVec 16)
  /-- HBR_MEMBER_WRITE (R139): A CTL write on a member page is ignored and sets MEMBER. -/
  | hbrMemberWrite (ini : Initiator) (n : Fin 24) (w : Word)
  /-- HBR_SWITCH_CHANGE (R143): A unit's applied switch change starts after PHOFF or t_OA, with dead time between its
  switches. -/
  | hbrSwitchChange (n : Fin 24)
  /-- REVDLY_END (R145): REV_T ends and the unit drives the new direction. -/
  | revdlyEnd (n : Fin 24)
  /-- REGULATION_DECAY (R146): I_BR rises above IREG during a drive phase and the unit enters decay for TOFF. -/
  | regulationDecay (n : Fin 24) (mA : Nat)
  /-- REGULATION_OFF_TIME_END (R146): The regulation off-time ends and the unit drives again unless the on-phase has
  ended. -/
  | regulationOffTimeEnd (n : Fin 24)
  /-- HBR_OVERCURRENT (R147): A half-bridge current above OC_LVL turns every switch of the unit off, and the unit
  enters TRIP. -/
  | hbrOvercurrent (n : Fin 24) (mA : Nat)
  /-- HBR_DESATURATION (R148): A switch desaturates beyond t_DSAT; the unit turns off and enters TRIP with CAUSE SCG
  or SCB. -/
  | hbrDesaturation (n : Fin 24) (d : SwitchDrop)
  /-- HBR_THERMAL_LATCH_SET (R150): A half-bridge latch sets; the unit turns off and enters THERM. -/
  | hbrThermalLatchSet (n : Fin 24) (degC : Nat)
  /-- HBR_THERMAL_LATCH_RELEASE (R150): The last latch of a unit releases and the unit enters TRIP or OFF. -/
  | hbrThermalLatchRelease (n : Fin 24) (degC : Nat)
  /-- STALL (R151): The stall accumulator reaches QT; CAUSE STALL is set and the unit halts or reports as ACT selects.
  -/
  | stall (e : StallTime)
  /-- STALL_ACC_RESET (R151): |I_BR| stays below THR for 10 ms and the stall accumulator returns to 0. -/
  | stallAccReset (n : Fin 24)
  /-- POS_CNT_WRITE (R152): A software write of POS_CNT sets the position count, with a simultaneous edge counted on
  top. -/
  | posCntWrite (ini : Initiator) (n : Fin 24) (v : BitVec 16)
  /-- HBR_TRIP_CNT_READ (R46): A read of HBR TRIP_CNT returns the count and clears it. -/
  | hbrTripCntRead (ini : Initiator) (n : Fin 24)
  /-- SOL_CMD_FIRE (R170): A CTL[v] write with FIRE marks a new FIRE for the valve at the next boundary. -/
  | solCmdFire (ini : Initiator) (g v : Fin 4)
  /-- SOL_CMD_OFF (R170): A CTL[v] write with OFF stores OFF for the next boundary. -/
  | solCmdOff (ini : Initiator) (g v : Fin 4)
  /-- SOL_CMD_RESERVED (R171): A CTL[v] write with CMD 0b10 or 0b11 is ignored and sets CMDRSV. -/
  | solCmdReserved (ini : Initiator) (g v : Fin 4) (code : Fin 2)
  /-- VALVE_START_INSTANT (R172): SOFF after the boundary, the valve's start instant arrives and the bank switch turns
  on when needed. -/
  | valveStartInstant (g v : Fin 4)
  /-- PEAK_START (R172): t_BSET after the start instant the low side turns on and PEAK begins, or the valve is
  deferred. -/
  | peakStart (g v : Fin 4)
  /-- DEFERRED_PEAK_START (R183): t_PKGAP after a peak ends, the earliest deferred valve starts its peak and DEFER_T
  is recorded. -/
  | deferredPeakStart (g : Fin 4)
  /-- PEAK_REGULATION_CROSSING (R173): The coil current crosses I_PEAK or I_PEAK − PK_HYS and the low side turns off
  or on again. -/
  | peakRegulationCrossing (g v : Fin 4) (mA : Nat)
  /-- ARMATURE_DETECTED (R179): The detector confirms end of travel; ARM_T is written, ACNT increases and ARM[v] is
  set. -/
  | armatureDetected (g v : Fin 4) (e : Travel)
  /-- PEAK_END (R173): T_PEAK elapses, or ARM_EXT after a confirmed detection elapses; the valve enters HOLD,
  recording a miss or an open coil. -/
  | peakEnd (g v : Fin 4) (maxMa : Nat)
  /-- HOLD_PERIOD (R174): Each hold period the regulator sets the on-time from the previous mean current. -/
  | holdPeriod (g v : Fin 4) (onT meanMa : Nat)
  /-- HOLD_END (R175): The timed hold end is reached; the low side turns off and the valve enters REL. -/
  | holdEnd (g v : Fin 4)
  /-- VALVE_RELEASED (R176): The coil current falls below I_REL and the valve enters IDLE; the bank switch turns off
  when none is active. -/
  | valveReleased (g : Fin 4) (e : CoilCurrent)
  /-- DEFER_TIMEOUT (R184): A deferred valve has waited DMAX; it returns to IDLE with REJC 0b100. -/
  | deferTimeout (g v : Fin 4)
  /-- DUTY_BIN_ADVANCE (R185): A duty bin ends and the window sum slides to the next bin. -/
  | dutyBinAdvance (g v : Fin 4)
  /-- VALVE_OVERCURRENT (R186): The coil current exceeds I_VOC and the valve trips with CAUSE VOC. -/
  | valveOvercurrent (g v : Fin 4) (mA : Nat)
  /-- VALVE_LOW_SIDE_DESAT (R186): The low side desaturates and the valve trips with CAUSE SCB. -/
  | valveLowSideDesat (g v : Fin 4) (mV : Nat)
  /-- OPEN_COIL_IN_HOLD (R186): The current stays below 50 % of I_HOLD for t_OPH at the upper on-time limit and the
  valve trips with OPEN. -/
  | openCoilInHold (g v : Fin 4) (mA : Nat)
  /-- HOLD_TOO_LOW (R186): The current stays below 97 % of I_HOLD for t_OPH; HOLDLOW is set while it lasts. -/
  | holdTooLow (g v : Fin 4) (mA : Nat)
  /-- BANK_OVERCURRENT (R186): The bank switch current exceeds I_BOC; the bank enters BTRIP and its active valves
  trip. -/
  | bankOvercurrent (g : Fin 4) (mA : Nat)
  /-- BANK_RAIL_SHORT (R186): The bank switch desaturates; the bank enters BTRIP with BCAUSE SC. -/
  | bankRailShort (g : Fin 4) (mV : Nat)
  /-- VALVE_CONTACT_TO_GROUND (R186): An inactive valve's node stays below half the feed for t_LSG; the bank switch
  turns off with BCAUSE LSG. -/
  | valveContactToGround (g v : Fin 4)
  /-- LOW_SIDE_THERMAL_LATCH (R186): A valve low-side latch sets; the valve turns off and enters THERM. -/
  | lowSideThermalLatch (g v : Fin 4) (degC : Nat)
  /-- BANK_THERMAL_LATCH (R187): The bank switch latch sets; the bank enters BTHERM and its active valves enter THERM.
  -/
  | bankThermalLatch (g : Fin 4) (degC : Nat)
  /-- SOL_THERMAL_LATCH_RELEASE (R187): A valve's own latch and the bank latch are both released; the valve enters
  TRIP or IDLE, and the bank leaves BTHERM. -/
  | solThermalLatchRelease (g : Fin 4) (v : Option (Fin 4)) (degC : Nat)
  /-- SOL_TRIP_CNT_READ (R46): A read of SOL TRIP_CNT returns the four counts and clears them. -/
  | solTripCntRead (ini : Initiator) (g : Fin 4)
  /-- SWI_SAMPLE (R208): At each sample instant, the inputs of a page are compared with their thresholds and
  debounced. -/
  | swiSample (g : Fin 4) (mvs : List Int)
  /-- INPUT_OVERVOLTAGE (R207): The input passes V_OVH or V_OVL; its wetting disconnects and its OVR bit sets. -/
  | inputOvervoltage (n : Fin 128) (mV : Int)
  /-- WETTING_RECONNECT (R207): The input stays within range for 1 ms and its wetting source reconnects. -/
  | wettingReconnect (n : Fin 128)
  /-- WETTING_OVERTEMP (R206): The page's wetting sources reach T_WT and turn off, and WTHERM is set. -/
  | wettingOvertemp (g : Fin 4) (degC : Nat)
  /-- WETTING_OVERTEMP_CLEAR (R206): The temperature falls by T_WHYS and the wetting sources resume. -/
  | wettingOvertempClear (g : Fin 4) (degC : Nat)
  /-- PARK_POLL (R215): The Plinth polls each enabled slot with a 1 mA pulse and compares the input with the slot's
  reference. -/
  | parkPoll (mvs : List Int)
  /-- CAP_SAMPLE (R218): A regular capacitive sample updates the raw value, the baseline, release, fault and touch
  start. -/
  | capSample (raw : BitVec 16) (raws : List (BitVec 16))
  /-- CAP_CONFIRM_SAMPLE (R220): A confirming sample taken t_CQ after the last one continues touch qualification. -/
  | capConfirmSample (raw : BitVec 16) (raws : List (BitVec 16))
  /-- STUCK_TOUCH (R222): A touch lasts TMAX; the baseline takes the raw value, STUCK sets and the touch is released.
  -/
  | stuckTouch (c : Fin 8)
  /-- CORE_INTERRUPT (R264): An asserted core interrupt input is taken at an instruction boundary while IE = 1 and EXL
  = 0. -/
  | coreInterrupt (c : Fin 12)
  /-- NOP (R271): No operation. -/
  | nop (c : Fin 12) (hd : Head) (specs : List Spec)
  /-- TRAP (R271): Enters supervisor mode with CAUSE 0x06 and EADDR set to the immediate. -/
  | trap (c : Fin 12) (hd : Head) (specs : List Spec)
  /-- ERET (R262): Returns from an entry, restoring the mode, IE and flags; on a free core it acts as a yield. -/
  | eret (c : Fin 12) (hd : Head) (specs : List Spec)
  /-- DONE (R304): Ends the task activation after its far writes are accepted, returning pages under AGIVE. -/
  | done (c : Fin 12) (hd : Head) (specs : List Spec)
  /-- CRD (R258): Reads a core control register. -/
  | crd (c : Fin 12) (hd : Head) (specs : List Spec)
  /-- CWR (R274): Writes a core control register. -/
  | cwr (c : Fin 12) (hd : Head) (specs : List Spec)
  /-- REP (R275): An uninterruptible prefix that repeats its body an immediate number of times. -/
  | rep (c : Fin 12) (hd : Head) (specs : List Spec)
  /-- REPI (R276): An interruptible prefix that repeats its body while the count word is non-zero. -/
  | repi (c : Fin 12) (hd : Head) (specs : List Spec)
  /-- BR (R273): Branches relative to the instruction's own address. -/
  | br (c : Fin 12) (hd : Head) (specs : List Spec)
  /-- JMP (R273): Jumps to the operand address. -/
  | jmp (c : Fin 12) (hd : Head) (specs : List Spec)
  /-- CALL (R273): Stores the return address in d and jumps to the operand address. -/
  | call (c : Fin 12) (hd : Head) (specs : List Spec)
  /-- FRN (R289): Writes the release frame or the live frame number. -/
  | frn (c : Fin 12) (hd : Head) (specs : List Spec)
  /-- ADD (R271): d ← a + b, setting arithmetic flags. -/
  | add (c : Fin 12) (hd : Head) (specs : List Spec)
  /-- ADDC (R271): d ← a + b + C. -/
  | addc (c : Fin 12) (hd : Head) (specs : List Spec)
  /-- SUB (R271): d ← a − b. -/
  | sub (c : Fin 12) (hd : Head) (specs : List Spec)
  /-- SUBB (R271): d ← a − b − C. -/
  | subb (c : Fin 12) (hd : Head) (specs : List Spec)
  /-- NEG (R271): d ← 0 − a. -/
  | neg (c : Fin 12) (hd : Head) (specs : List Spec)
  /-- CMP (R271): Sets the flags of a − b. -/
  | cmp (c : Fin 12) (hd : Head) (specs : List Spec)
  /-- DIVU (R272): Unsigned division, faulting on division by zero. -/
  | divu (c : Fin 12) (hd : Head) (specs : List Spec)
  /-- DIVS (R272): Signed division toward zero, with overflow setting V. -/
  | divs (c : Fin 12) (hd : Head) (specs : List Spec)
  /-- REMU (R272): Unsigned remainder. -/
  | remu (c : Fin 12) (hd : Head) (specs : List Spec)
  /-- REMS (R272): Signed remainder with the sign of a. -/
  | rems (c : Fin 12) (hd : Head) (specs : List Spec)
  /-- MOV (R271): d ← a. -/
  | mov (c : Fin 12) (hd : Head) (specs : List Spec)
  /-- MOVZ (R271): Zero-extends a into a quadword. -/
  | movz (c : Fin 12) (hd : Head) (specs : List Spec)
  /-- MOVS (R271): Sign-extends a into a quadword. -/
  | movs (c : Fin 12) (hd : Head) (specs : List Spec)
  /-- AND (R271): Bitwise AND. -/
  | and (c : Fin 12) (hd : Head) (specs : List Spec)
  /-- OR (R271): Bitwise OR. -/
  | or (c : Fin 12) (hd : Head) (specs : List Spec)
  /-- XOR (R271): Bitwise XOR. -/
  | xor (c : Fin 12) (hd : Head) (specs : List Spec)
  /-- ANDN (R271): a AND NOT b. -/
  | andn (c : Fin 12) (hd : Head) (specs : List Spec)
  /-- NOT (R271): Bitwise NOT. -/
  | not (c : Fin 12) (hd : Head) (specs : List Spec)
  /-- TST (R271): Sets the flags of a AND b. -/
  | tst (c : Fin 12) (hd : Head) (specs : List Spec)
  /-- SHL (R272): Shift left. -/
  | shl (c : Fin 12) (hd : Head) (specs : List Spec)
  /-- SHR (R272): Logical shift right. -/
  | shr (c : Fin 12) (hd : Head) (specs : List Spec)
  /-- SAR (R272): Arithmetic shift right. -/
  | sar (c : Fin 12) (hd : Head) (specs : List Spec)
  /-- ROL (R272): Rotate left. -/
  | rol (c : Fin 12) (hd : Head) (specs : List Spec)
  /-- MULU (R279): Unsigned multiply into a product register. -/
  | mulu (c : Fin 12) (hd : Head) (specs : List Spec)
  /-- MULS (R279): Signed multiply into a product register. -/
  | muls (c : Fin 12) (hd : Head) (specs : List Spec)
  /-- MACU (R279): Unsigned multiply-accumulate into a product register. -/
  | macu (c : Fin 12) (hd : Head) (specs : List Spec)
  /-- MACS (R279): Signed multiply-accumulate into a product register. -/
  | macs (c : Fin 12) (hd : Head) (specs : List Spec)
  /-- MOVP (R281): Moves a shifted, selected or saturated product into d. -/
  | movp (c : Fin 12) (hd : Head) (specs : List Spec)
  /-- VMULU (R280): Unsigned lane products into a product register. -/
  | vmulu (c : Fin 12) (hd : Head) (specs : List Spec)
  /-- VMULS (R280): Signed lane products into a product register. -/
  | vmuls (c : Fin 12) (hd : Head) (specs : List Spec)
  /-- VMACU (R280): Unsigned lane products accumulated into a product register. -/
  | vmacu (c : Fin 12) (hd : Head) (specs : List Spec)
  /-- VMACS (R280): Signed lane products accumulated into a product register. -/
  | vmacs (c : Fin 12) (hd : Head) (specs : List Spec)
  /-- VADD (R282): Lane add. -/
  | vadd (c : Fin 12) (hd : Head) (specs : List Spec)
  /-- VSUB (R282): Lane subtract. -/
  | vsub (c : Fin 12) (hd : Head) (specs : List Spec)
  /-- VADDS (R282): Lane add, saturated to the signed range. -/
  | vadds (c : Fin 12) (hd : Head) (specs : List Spec)
  /-- VSUBS (R282): Lane subtract, saturated to the signed range. -/
  | vsubs (c : Fin 12) (hd : Head) (specs : List Spec)
  /-- VADDUS (R282): Lane add, saturated to the unsigned range. -/
  | vaddus (c : Fin 12) (hd : Head) (specs : List Spec)
  /-- VSUBUS (R282): Lane subtract, floored at 0. -/
  | vsubus (c : Fin 12) (hd : Head) (specs : List Spec)
  /-- VMIN (R282): Lane signed minimum. -/
  | vmin (c : Fin 12) (hd : Head) (specs : List Spec)
  /-- VMAX (R282): Lane signed maximum. -/
  | vmax (c : Fin 12) (hd : Head) (specs : List Spec)
  /-- VMINU (R282): Lane unsigned minimum. -/
  | vminu (c : Fin 12) (hd : Head) (specs : List Spec)
  /-- VMAXU (R282): Lane unsigned maximum. -/
  | vmaxu (c : Fin 12) (hd : Head) (specs : List Spec)
  /-- VCEQ (R282): Lane compare for equality. -/
  | vceq (c : Fin 12) (hd : Head) (specs : List Spec)
  /-- VCGT (R282): Lane signed greater-than compare. -/
  | vcgt (c : Fin 12) (hd : Head) (specs : List Spec)
  /-- VCGTU (R282): Lane unsigned greater-than compare. -/
  | vcgtu (c : Fin 12) (hd : Head) (specs : List Spec)
  /-- VSHL (R282): Lane shift left. -/
  | vshl (c : Fin 12) (hd : Head) (specs : List Spec)
  /-- VSHR (R282): Lane logical shift right. -/
  | vshr (c : Fin 12) (hd : Head) (specs : List Spec)
  /-- VSAR (R282): Lane arithmetic shift right. -/
  | vsar (c : Fin 12) (hd : Head) (specs : List Spec)
  /-- TAS (R283): Atomically reads a word and sets it to 1. -/
  | tas (c : Fin 12) (hd : Head) (specs : List Spec)
  /-- LR (R283): Loads a quadword and takes a reservation on it. -/
  | lr (c : Fin 12) (hd : Head) (specs : List Spec)
  /-- SC (R284): Stores a quadword when the reservation holds, and clears the reservation. -/
  | sc (c : Fin 12) (hd : Head) (specs : List Spec)
  /-- PROBE (R286): Searches an open-addressed hash table for a key and returns its value or DEFAULT. -/
  | probe (c : Fin 12) (hd : Head) (specs : List Spec)
  /-- CTX_ENABLE (R293): CTX_CMD ENABLE checks and loads the record and puts the context in IDLE, or refuses it. -/
  | ctxEnable (ini : Initiator) (n : Byte)
  /-- CTX_DISABLE (R305): CTX_CMD DISABLE removes the context at once, stores its record and frees its pages. -/
  | ctxDisable (ini : Initiator) (n : Byte)
  /-- CTX_ACTIVATE (R296): CTX_CMD ACTIVATE gives the context a KIND 0b10 cause, refused for DET contexts in
  deterministic mode. -/
  | ctxActivate (ini : Initiator) (n : Byte)
  /-- CTX_ABORT (R305): CTX_CMD ABORT ends the present activation and returns the context to IDLE. -/
  | ctxAbort (ini : Initiator) (n : Byte)
  /-- CTX_CMD_REFUSED (R326): A CTX_CMD with an undefined OP, or with a task-mode OP other than ACTIVATE, is refused
  with CMDREF. -/
  | ctxCmdRefused (ini : Initiator) (op : BitVec 4) (n : Byte)
  /-- YIELD (R303): A write of YIELD.GO makes the interrupted context READY and the writing core free. -/
  | yield (ini : Initiator)
  /-- EVL_WR (R310): A write of EVL_WR changes one event line's target. -/
  | evlWr (ini : Initiator) (w : Word)
  /-- EVSW (R308): A write of EVSW sets or clears an event line's software latch. -/
  | evsw (ini : Initiator) (w : Word)
  /-- EVENT_LINE_CAUSE (R309): An event line targeting a context becomes 1 and gives the context a KIND 0b01 cause. -/
  | eventLineCause (l : Fin 1024)
  /-- DISPATCH (R301): A free core takes the highest-priority READY context, loading its state and delivering its
  pages and activation words. -/
  | dispatch (c : Fin 12)
  /-- PREEMPT (R302): After the waits end, a lower-priority task is removed from a core so that a newly READY context
  can run. -/
  | preempt (n : Byte)
  /-- DEADLINE (R306): The activation's deadline passes before DONE; an overrun is counted and OVRACT acts. -/
  | deadline (n : Byte)
  /-- OVR_CNT_READ (R46): A read of OVR_CNT returns the count and clears it. -/
  | ovrCntRead (ini : Initiator)
  /-- SKIP_CNT_READ (R46): A read of SKIP_CNT returns the count and clears it. -/
  | skipCntRead (ini : Initiator)
  /-- TAKE (R316): A read of MSG.TAKE claims one free page and returns its reference, or returns 0. -/
  | take (ini : Initiator)
  /-- GIVE (R317): A write of MSG.GIVE returns an owned page and its chain to the free pool. -/
  | give (ini : Initiator) (w : Word)
  /-- PUT (R318): A write of MSG.PUT moves an owned chain to a queue's tail, or is refused. -/
  | put (ini : Initiator) (w : Word)
  /-- PQ_LINK (R318): A write of PQ_LINK by the page's owner sets or clears the page's link. -/
  | pqLink (ini : Initiator) (w : Word)
  /-- QSTAT_DROP_READ (R46): A read of QSTAT returns DROP and clears it. -/
  | qstatDropRead (ini : Initiator) (q : Fin 64)
  /-- DMA_START (R338): CMD START loads CUR from HEAD and the channel enters ARMED or RUN. -/
  | dmaStart (ini : Initiator) (n : Fin 64)
  /-- DMA_STOP (R338): CMD STOP returns the channel to IDLE after the present descriptor, or at once from ARMED. -/
  | dmaStop (ini : Initiator) (n : Fin 64)
  /-- DMA_ABORT (R338): CMD ABORT returns the channel to IDLE after the present access. -/
  | dmaAbort (ini : Initiator) (n : Fin 64)
  /-- DMA_RESUME (R338): CMD RESUME continues a halted channel with the failing access. -/
  | dmaResume (ini : Initiator) (n : Fin 64)
  /-- DMA_CMD_REFUSED (R338): An OP not allowed in the present state is ignored and sets CMDREF. -/
  | dmaCmdRefused (ini : Initiator) (n : Fin 64) (op : BitVec 3)
  /-- DESCRIPTOR_START (R335): The channel reads the next descriptor and checks it, halting on ALIGN, DESC or REGION.
  -/
  | descriptorStart (n : Fin 64)
  /-- DMA_UNIT (R332): A transfer unit completes; at the descriptor's last unit DESC pulses, and END pulses when the
  chain ends. -/
  | dmaUnit (n : Fin 64)
  /-- DMA_RETRY (R337): t_RTY after a bus error the access is repeated, and the channel halts with BUS when retries
  run out. -/
  | dmaRetry (n : Fin 64)
  /-- PACING_GATE_EVAL (R339): A change of the pacing queue's FILL re-evaluates the gate, moving the channel between
  WAIT and RUN. -/
  | pacingGateEval (n : Fin 64)
  /-- DMA_DROP_CNT_READ (R46): A read of DROP_CNT returns the count and clears it. -/
  | dmaDropCntRead (ini : Initiator) (n : Fin 64)
  /-- CAN_MODE_INIT (R358): A CTL.MODE write requesting INIT. -/
  | canModeInit (ini : Initiator) (n : Fin 8)
  /-- CAN_MODE_NORMAL (R358): A CTL.MODE write requesting NORMAL. -/
  | canModeNormal (ini : Initiator) (n : Fin 8)
  /-- CAN_MODE_MONITOR (R358): A CTL.MODE write requesting MONITOR. -/
  | canModeMonitor (ini : Initiator) (n : Fin 8)
  /-- CAN_MODE_RESTRICTED (R358): A CTL.MODE write requesting RESTRICTED. -/
  | canModeRestricted (ini : Initiator) (n : Fin 8)
  /-- CAN_MODE_LOOPBACK (R358): A CTL.MODE write requesting LOOPBACK. -/
  | canModeLoopback (ini : Initiator) (n : Fin 8)
  /-- CAN_MODE_REFUSED (R358): A CTL.MODE code 0b101…0b111 is refused with CMDREF. -/
  | canModeRefused (ini : Initiator) (n : Fin 8) (code : Fin 3)
  /-- CAN_BUS_IDLE_APPLY (R357): At the next bus-idle instant a requested mode, transceiver sleep or committed bit
  timing takes effect. -/
  | canBusIdleApply (n : Fin 8)
  /-- CAN_INTEGRATION_DONE (R358): 11 consecutive recessive bits end integration and the channel joins the bus. -/
  | canIntegrationDone (n : Fin 8)
  /-- BOREQ (R373): A CTL.BOREQ write in bus-off starts bus-off recovery. -/
  | boreq (ini : Initiator) (n : Fin 8) (mode : Fin 5)
  /-- BUS_OFF_RECOVERY_DONE (R373): 128 occurrences of 11 recessive bits clear TEC and REC, and the channel is error-
  active. -/
  | busOffRecoveryDone (n : Fin 8)
  /-- CAN_FRAME_RECEIVED (R362): A valid frame reaches its validity point and is stored as a ring entry, or overwrites
  or drops. -/
  | canFrameReceived (n : Fin 8) (f : CanFrame)
  /-- CAN_ERROR_DETECTED (R372): The channel detects a bus error, updates TEC, REC, LEC, the error state and the
  duplicate monitor. -/
  | canErrorDetected (n : Fin 8) (lec : Fin 8) (cls : Fin 4) (after : Bool)
  /-- TXB_LOAD (R365): A write of TXB_LOAD hands a page to a transmit buffer, or is refused. -/
  | txbLoad (ini : Initiator) (n : Fin 8) (b : Fin 3) (w : Word)
  /-- CAN_TXQ_PUT (R365): A write of TXQ_PUT adds a page to the fallback queue, or is refused. -/
  | canTxqPut (ini : Initiator) (n : Fin 8) (w : Word)
  /-- TX_ABORT_BUFFER (R369): A TX_ABORT write with bit b aborts TXB b. -/
  | txAbortBuffer (ini : Initiator) (n : Fin 8) (b : Fin 3)
  /-- TX_ABORT_QUEUE (R369): A TX_ABORT write with bit 3 aborts every fallback queue entry. -/
  | txAbortQueue (ini : Initiator) (n : Fin 8)
  /-- TX_SELECTION (R367): At the end of intermission, or on bus idle, the channel selects the next candidate frame to
  send. -/
  | txSelection (n : Fin 8)
  /-- CAN_TX_END (R370): A transmission ends OK, lost or in error; RES is recorded and the page returns. -/
  | canTxEnd (n : Fin 8) (r : TxResult) (tdcv : Byte)
  /-- CAN_TRX_NORMAL (R377): A TRX_CTL write requesting NORMAL. -/
  | canTrxNormal (ini : Initiator) (n : Fin 8)
  /-- CAN_TRX_SILENT (R377): A TRX_CTL write requesting SILENT. -/
  | canTrxSilent (ini : Initiator) (n : Fin 8)
  /-- CAN_TRX_SLEEP (R377): A TRX_CTL write requesting SLEEP at the next bus idle. -/
  | canTrxSleep (ini : Initiator) (n : Fin 8)
  /-- CAN_MODE_SWITCH_END (R377): The transceiver's mode switch window ends and the new mode is in force. -/
  | canModeSwitchEnd (n : Fin 8)
  /-- WUP (R378): A dominant phase longer than the filter time in SLEEP sets WUP and raises the channel's wake source.
  -/
  | wup (n : Fin 4) (ns : Nat)
  /-- WUF (R379): A matching wake frame in SLEEP sets WUF and raises the channel's wake source. -/
  | wuf (n : Fin 4) (ide : Bool) (id dlc data : Nat)
  /-- FECW (R380): The wake decoder's frame error counter exceeds 31 and wakes with FECW. -/
  | fecw (n : Fin 4)
  /-- PERR_READ (R46): A read of PERR returns BOCNT and ERRS and clears them. -/
  | perrRead (ini : Initiator) (n : Fin 8)
  /-- CAN_RX_STAT_READ (R46): A read of CAN RX_STAT returns OVW_CNT and clears it. -/
  | canRxStatRead (ini : Initiator) (n : Fin 8)
  /-- LIN_MODE_INIT (R392): A CTL.MODE write requesting INIT. -/
  | linModeInit (ini : Initiator) (n : Fin 16)
  /-- LIN_MODE_COMMANDER (R392): A CTL.MODE write requesting COMMANDER. -/
  | linModeCommander (ini : Initiator) (n : Fin 16)
  /-- LIN_MODE_RESPONDER (R392): A CTL.MODE write requesting RESPONDER. -/
  | linModeResponder (ini : Initiator) (n : Fin 16)
  /-- LIN_MODE_MONITOR (R392): A CTL.MODE write requesting MONITOR. -/
  | linModeMonitor (ini : Initiator) (n : Fin 16)
  /-- LIN_MODE_REFUSED (R392): A CTL.MODE code 0b100…0b111 is refused with CMDREF. -/
  | linModeRefused (ini : Initiator) (n : Fin 16) (code : Fin 4)
  /-- LIN_BUS_IDLE_APPLY (R392): At the next bus-idle instant a LIN mode, sleep request or CFG commit takes effect. -/
  | linBusIdleApply (n : Fin 16)
  /-- LIN_SLOT_START (R394): A schedule slot starts; the entry is read and its break begins, or the schedule stops on
  a bad entry. -/
  | linSlotStart (n : Fin 16)
  /-- LIN_HEADER (R396): At the end of a header's identifier field, the channel reads its response entry and publishes
  or listens. -/
  | linHeader (n : Fin 16) (pid : Byte)
  /-- LIN_RESPONSE_TIMEOUT (R397): The response time-out after a break elapses and completes the entry with no or an
  incomplete response. -/
  | linResponseTimeout (n : Fin 16) (l : List Byte)
  /-- LIN_ENTRY_COMPLETE (R397): A header with its response completes at the checksum stop bit or a parity error and
  is stored. -/
  | linEntryComplete (n : Fin 16) (l : List Byte) (sum : Byte) (bitErr framing : Bool)
  /-- LIN_WAKE_PULSE (R401): A CTL.WAKE write sends a dominant wake pulse, or is refused. -/
  | linWakePulse (ini : Initiator) (n : Fin 16) (mode : Fin 4)
  /-- LIN_SLEEP_REQUEST (R399): A write of TRX_CTL.SLEEP = 1 requests SLEEP. -/
  | linSleepRequest (ini : Initiator) (n : Fin 16)
  /-- LIN_SLEEP_RELEASE (R400): A write of TRX_CTL.SLEEP = 0 takes the transceiver out of SLEEP. -/
  | linSleepRelease (ini : Initiator) (n : Fin 16)
  /-- TXDTO (R399): The transmitter stays dominant for t_TXDTO and the transceiver releases the bus. -/
  | txdto (n : Fin 16)
  /-- LIN_WAKE_DETECT (R400): A dominant phase longer than t_LWK in SLEEP sets WUP and raises the Plinth wake source.
  -/
  | linWakeDetect (n : Fin 4)
  /-- LIN_RX_STAT_READ (R46): A read of LIN RX_STAT returns ERRS and clears it. -/
  | linRxStatRead (ini : Initiator) (n : Fin 16)
  /-- ETH_FRAME_RECEIVED (R407): A received frame passes its FCS and length checks and is stored, sent to the Bond
  link, or dropped. -/
  | ethFrameReceived (n : Fin 2) (l : List Byte) (fcsOk full : Bool) (ns : Int)
  /-- ETH_TXQ_PUT (R409): A write of TXQ_PUT adds a frame to a transmit queue, or is refused. -/
  | ethTxqPut (ini : Initiator) (n : Fin 2) (q : Fin 2) (w : Word)
  /-- ETH_TX_ABORT (R409): A write of TX_ABORT ends the queue's waiting entries with ABORTED. -/
  | ethTxAbort (ini : Initiator) (n : Fin 2) (w : BitVec 2)
  /-- ETH_TX_END (R409): A frame transmission ends; the page returns, LASTRES updates and an egress timestamp may be
  recorded. -/
  | ethTxEnd (n : Fin 2) (ns : Int)
  /-- ETH_MODE_OFF (R412): A CTL.MODE write of OFF powers the PHY down into SLEEP. -/
  | ethModeOff (ini : Initiator) (n : Fin 2)
  /-- ETH_MODE_RUN (R412): A CTL.MODE write of RUN, from SLEEP, starts waking. -/
  | ethModeRun (ini : Initiator) (n : Fin 2)
  /-- ETH_MODE_LOOPBACK (R415): A CTL.MODE write of LOOPBACK selects MAC loopback. -/
  | ethModeLoopback (ini : Initiator) (n : Fin 2)
  /-- ETH_MODE_REFUSED (R415): A CTL.MODE write of 0b11 is refused with CMDREF. -/
  | ethModeRefused (ini : Initiator) (n : Fin 2)
  /-- TC10_REQ_SLEEP (R412): TC_CTL.REQ SLEEP sends a sleep request, or sets SLPFAIL. -/
  | tc10ReqSleep (ini : Initiator) (n : Fin 2)
  /-- TC10_REQ_WAKE (R412): TC_CTL.REQ WAKE sends WUP from SLEEP or WUR in NORMAL. -/
  | tc10ReqWake (ini : Initiator) (n : Fin 2)
  /-- TC10_REQ_ACCEPT (R412): TC_CTL.REQ ACCEPT acknowledges the partner's sleep request. -/
  | tc10ReqAccept (ini : Initiator) (n : Fin 2)
  /-- TC10_REQ_REJECT (R412): TC_CTL.REQ REJECT rejects the partner's sleep request. -/
  | tc10ReqReject (ini : Initiator) (n : Fin 2)
  /-- TC10_REQ_REFUSED (R412): A code that is undefined or not accepted in the present state is refused with CMDREF.
  -/
  | tc10ReqRefused (ini : Initiator) (n : Fin 2) (code : BitVec 3)
  /-- TC10_PARTNER_SLEEP_REQUEST (R412): The partner's sleep request sets PREQ, or is accepted at once under AUTOACC.
  -/
  | tc10PartnerSleepRequest (n : Fin 2)
  /-- TC10_HANDSHAKE_DONE (R412): The sleep handshake completes and the port enters SLEEP. -/
  | tc10HandshakeDone (n : Fin 2)
  /-- TC10_HANDSHAKE_FAIL (R412): The partner rejects, or a WUP, WUR or link loss arrives in SLPNEG; the port returns
  to NORMAL with SLPFAIL. -/
  | tc10HandshakeFail (n : Fin 2)
  /-- TC10_SLEEP_TIMEOUT (R412): t_SLPTO passes in SLPNEG or with PREQ pending; the port stays or returns to NORMAL.
  -/
  | tc10SleepTimeout (n : Fin 2)
  /-- TC10_WUP_RECEIVED (R412): A WUP received in SLEEP sets WAKE_STAT.WUP and, on ETH0, raises the wake source. -/
  | tc10WupReceived (n : Fin 2)
  /-- TC10_WUR_RECEIVED (R412): A WUR received in NORMAL sets TC_STAT.WUR. -/
  | tc10WurReceived (n : Fin 2)
  /-- ETH_LINK_UP (R412): The PHY link comes up, ending WAKING. -/
  | ethLinkUp (n : Fin 2) (sqi : BitVec 3)
  /-- ETH_LINK_LOSS (R412): The link is lost; LINK becomes 0, in-flight frames abort and the PHY retrains. -/
  | ethLinkLoss (n : Fin 2)
  /-- ETH_RX_STAT_READ (R46): A read of ETH RX_STAT returns RATE_DROP and clears it. -/
  | ethRxStatRead (ini : Initiator) (n : Fin 2)
  /-- RX_ERR_READ (R46): A read of RX_ERR returns LENERR and FCSERR and clears them. -/
  | rxErrRead (ini : Initiator) (n : Fin 2)
  /-- NEED_SET (R419): A write of NEED_SET sets local need bits. -/
  | needSet (ini : Initiator) (w : BitVec 16)
  /-- NEED_CLR (R419): A write of NEED_CLR clears local need bits. -/
  | needClr (ini : Initiator) (w : BitVec 16)
  /-- KEEP (R420): A write of KEEP records a remote keep-awake request when it is honoured. -/
  | keep (ini : Initiator) (w : Word)
  /-- NSC_HOLD_EXPIRY (R422): HOLD_T elapses after the hold instant with NEED = 0 and the NSC enters PREP. -/
  | nscHoldExpiry
  /-- COMMIT_POINT (R423): PREP_T ends; the members are checked and the NSC enters SWITCH and makes the sleep
  requests, or aborts. -/
  | commitPoint
  /-- NSC_WAKE (R426): A wake source reaches the NSC and aborts, latches or re-wakes according to the window. -/
  | nscWake (src : Fin 16)
  /-- NSC_SWITCH_END (R422): Every member is in SLEEP; the NSC enters ASLEEP with domain requests, or re-wakes when a
  latch is set. -/
  | nscSwitchEnd
  /-- AWAKE_T_TICK (R430): Each second AWAKE_T advances, and LIMIT and KEEPER are set when it reaches MAXAWAKE. -/
  | awakeTTick
  /-- FS_KICK (R431): A write of FS_KICK with KEY 0xA5 reloads the fail-safe count, or sets BADKICK. -/
  | fsKick (ini : Initiator) (key : Byte)
  /-- FAIL_SAFE_EXPIRY (R432): The fail-safe count reaches 0 and every transceiver is forced into SLEEP. -/
  | failSafeExpiry
  /-- COUNTS_READ (R46): A read of COUNTS returns REWAKE and ABORT and clears them. -/
  | countsRead (ini : Initiator)
  /-- PLL_LOSS_OF_LOCK (R471): A PLL loses lock for t_LOL; REFOK falls and a clock-fail controller reset is raised. -/
  | pllLossOfLock
  /-- LPO_CALIBRATION (R473): At the end of each run of 1024 CK_LPO cycles, LPO_CAL is written and VALID is set. -/
  | lpoCalibration (us256 : BitVec 24)
  /-- WDG_KICK (R485): A write of WDG_KICK with 0x5A reloads the writing core's watchdog, or sets BADKICK. -/
  | wdgKick (ini : Initiator) (key : Byte)
  /-- WATCHDOG_EXPIRY (R486): A core's watchdog reaches 0; the core is reset, or the controller is reset under
  escalation. -/
  | watchdogExpiry (c : Fin 12)
  /-- DEBUG_PORT_RESET (R646): The debug host resets the debug port, withdrawing a hung debug access. -/
  | debugPortReset
  /-- POWER_ON_RESET (R491): The supply rises through V_PORH, or the Plinth rail browns out; everything resets and
  startup runs. -/
  | powerOnReset (straps : Byte) (rail trimOk : Bool)
  /-- CONTROLLER_RESET (R500): A controller reset resets PD01…PD44, puts the dies in HOLD, opens IMMO_RLY and reruns
  startup steps 3…7. -/
  | controllerReset (trimOk : Bool)
  /-- CORE_RESET (R495): A core reset stops the held context and restarts the core at BOOT_ENTRY in supervisor mode.
  -/
  | coreReset (c : Fin 12)
  /-- RST_CTL_CONTROLLER (R492): A write of RST_CTL with KEY 0xC3 and CTRL requests a controller reset. -/
  | rstCtlController (ini : Initiator)
  /-- RST_CTL_CORE (R492): A write of RST_CTL with KEY 0xC3 and CORE bits requests core resets. -/
  | rstCtlCore (ini : Initiator) (mask : BitVec 12)
  /-- DEBUG_RESET_REQUEST (R492): A reset request from the debug host causes a controller reset. -/
  | debugResetRequest
  /-- IMAGE_VERIFICATION_DONE (R506): Step 6 ends; BOOT_ENTRY is written and the cores leave reset, or RESULT reads
  failed. -/
  | imageVerificationDone
  /-- OUTPUT_HOLD_END (R502): t_HOLD ends; each die enters FALLBACK and applies the fallback pattern. -/
  | outputHoldEnd
  /-- FALLBACK_FLASH_TOGGLE (R502): A FLASH channel's on-phase or off-phase ends and it switches. -/
  | fallbackFlashToggle
  /-- OUT_REL (R504): A write of OUT_REL with KEY 0x3C and GO releases HOLD or FALLBACK at the next boundary. -/
  | outRel (ini : Initiator)
  /-- CRST_READ (R46): A read of CRST returns CNT and clears it. -/
  | crstRead (ini : Initiator) (c : Fin 12)
  /-- POLL_CMD (R522): A write of POLL_CMD with GO starts a poll of SLOTS on ANT, or is ignored. -/
  | pollCmd (ini : Initiator) (slots ant : Byte) (pas : Bool)
  /-- TOUCH_POLL_START (R522): With PD42 ON and no poll running, the front end starts a poll for the lowest pending
  CAPREQ. -/
  | touchPollStart
  /-- POLL_ATTEMPT_START (R523): An attempt draws a new CHAL and sends the LF challenge telegram. -/
  | pollAttemptStart
  /-- RESPONSE_WINDOW_END (R524): A response window ends and the attempt's outcome is decided, with retries or the
  next slot following. -/
  | responseWindowEnd (l : List Telegram) (cs : Bool)
  /-- ANTENNA_FAULT (R515): An open or shorted antenna stops its driver for the telegram and sets ANT_STAT. -/
  | antennaFault (a : Fin 8) (short : Bool)
  /-- BUTTON_TELEGRAM (R526): A decoded button telegram is checked and accepted with a report, or logged. -/
  | buttonTelegram (t : Telegram)
  /-- UHF_WAKE (R535): The sniffing wake detector finds the wake word and raises wake source 16. -/
  | uhfWake
  /-- AUTH_WINDOW_END (R533): The authorisation window expires and AUTH clears. -/
  | authWindowEnd
  /-- LEARN_CTL (R531): A write of LEARN_CTL with KEY 0x9E and GO starts a learn. -/
  | learnCtl (ini : Initiator)
  /-- LEARN_DONE (R531): The learn finishes its checks and writes the slot store, or ends with a failure RESULT. -/
  | learnDone
  /-- IMMO_CLOSE (R533): IMMO_CTL CLOSE switches the relay driver on while AUTH is 1, or sets NOAUTH. -/
  | immoClose (ini : Initiator)
  /-- IMMO_OPEN (R534): IMMO_CTL OPEN switches the relay driver off. -/
  | immoOpen (ini : Initiator)
  /-- RELAY_OVERCURRENT (R534): A relay driver current above I_RLYOC for t_RLYQ opens the relay and sets FAULT. -/
  | relayOvercurrent (mA : Nat)
  /-- INV_INFO_READ (R46): A read of INV_INFO returns CNT and clears it. -/
  | invInfoRead (ini : Initiator)
  /-- HASH (R556): Crypto operation 0x01 computes SHA-384 of a buffer. -/
  | hash (ini : Initiator)
  /-- VERIFY (R556): Crypto operation 0x02 verifies an ECDSA signature. -/
  | verify (ini : Initiator)
  /-- QUOTE (R554): Crypto operation 0x03 writes a signed attestation quote. -/
  | quote (ini : Initiator)
  /-- IDEXPORT (R543): Crypto operation 0x04 writes the device certificate. -/
  | idexport (ini : Initiator)
  /-- KTEXPORT (R555): Crypto operation 0x05 exports KT encrypted to the LTK and signed. -/
  | ktexport (ini : Initiator)
  /-- KEYSET (R545): Crypto operation 0x06 checks and writes a new key record. -/
  | keyset (ini : Initiator)
  /-- ERASE (R549): Crypto operation 0x07 erases blocks of the non-running image slot. -/
  | erase (ini : Initiator)
  /-- PROGRAM (R549): Crypto operation 0x08 programs erased bytes of the non-running slot. -/
  | program (ini : Initiator)
  /-- COMMIT (R550): Crypto operation 0x09 verifies a slot, writes a boot record preferring it and clears
  BOOT_ENTRY.VALID. -/
  | commit (ini : Initiator)
  /-- ROLLFWD (R551): Crypto operation 0x0A raises MINVER to the running image's VERSION. -/
  | rollfwd (ini : Initiator)
  /-- UCFG (R553): Crypto operation 0x0B writes a new user configuration record. -/
  | ucfg (ini : Initiator)
  /-- RAND (R556): Crypto operation 0x0C writes random bytes. -/
  | rand (ini : Initiator)
  /-- BADOP (R556): A CMD with an undefined OP ends with BADOP. -/
  | badop (ini : Initiator) (op : Byte)
  /-- CRYPTO_CMD_REFUSED (R557): A CMD with the wrong KEY, or while BUSY, is ignored and sets BADKEY or BUSY. -/
  | cryptoCmdRefused (ini : Initiator) (w : Word)
  /-- CRYPTO_OPERATION_DONE (R560): A running crypto operation completes, writes RESULT and pulses DONE or FAIL. -/
  | cryptoOperationDone (nvFail : Bool)
  /-- BEACON_RECEIVED (R574): A beacon updates the heard set and the lead, and detects an address clash. -/
  | beaconReceived (src : Fin 512) (tag : Word) (len : Nat)
  /-- HEARD_SET_EXPIRY (R574): An address not heard for LOSS_N boundaries leaves the heard set, possibly changing the
  lead. -/
  | heardSetExpiry (a : Fin 512)
  /-- SYNC_RECEIVED (R569): An 802.1AS Sync and Follow_Up from the lead updates the time, the rate trim and the time
  state. -/
  | syncReceived (sysNs trim : Int)
  /-- PDELAY_EXCHANGE (R567): A Pdelay exchange completes and measures the link delay. -/
  | pdelayExchange
  /-- SYNC_TIMEOUT (R572): No Sync from the lead for 4 intervals returns TSTATE to UNSYNC. -/
  | syncTimeout
  /-- REMOTE_READ_REQUEST (R575): RQ_CTL GO with WR = 0 sends an RDREQ, or ends at once with UNREACH. -/
  | remoteReadRequest (ini : Initiator) (dst : Fin 512)
  /-- REMOTE_WRITE_REQUEST (R575): RQ_CTL GO with WR = 1 sends a WRREQ, or ends at once with UNREACH. -/
  | remoteWriteRequest (ini : Initiator) (dst : Fin 512)
  /-- RESP_RECEIVED (R575): A matching RESP ends the outstanding request with its RES and data. -/
  | respReceived (reqSeq res : Nat) (data : Word)
  /-- REQUEST_TIMEOUT (R575): t_RTO passes without a RESP and the request ends with TIMEOUT. -/
  | requestTimeout
  /-- RDREQ_RECEIVED (R576): The remote engine performs a permitted read and answers with RESP, or answers DENIED or
  TBUSY. -/
  | rdreqReceived (src : Fin 512) (reqSeq : Nat) (a : Word)
  /-- WRREQ_RECEIVED (R576): The remote engine performs a permitted write and answers with RESP. -/
  | wrreqReceived (src : Fin 512) (reqSeq : Nat) (a w : Word)
  /-- BOND_MSG_SEND (R577): The Bond link takes a chain from its transmit queue and sends it as a MSG frame. -/
  | bondMsgSend
  /-- MSG_RECEIVED (R578): A received MSG frame is stored in its destination queue, or dropped. -/
  | msgReceived (src : Fin 512) (dq : Fin 64) (sfn : Nat) (l : List Byte)
  /-- MIRIN_RECEIVED (R579): The partner's MIRIN is stored in the mirror ring and updates the partner presence. -/
  | mirinReceived (src : Fin 512) (sfn : Nat) (aligned : Bool) (l : List Byte)
  /-- MIROUT_RECEIVED (R583): Both MIROUTs of one SFN are compared into MATCH, MARGIN, MISMATCH or SKIP. -/
  | miroutReceived (src : Fin 512) (sfn : Nat) (l : List Byte)
  /-- MIRROR_WINDOW_END (R586): t_MIRW after a boundary passes without the partner's mirrors, counting toward partner
  loss or a SKIP. -/
  | mirrorWindowEnd
  /-- QKICK (R584): A write of QKICK with 0x9D arms the Quoin toggle at the next boundary, or sets BADKEY. -/
  | qkick (ini : Initiator) (key : Byte)
  /-- QUOIN_EDGE (R585): An edge on QUOIN_IN sets QALIVE. -/
  | quoinEdge
  /-- QUOIN_TIMEOUT (R585): QTO passes without an edge; QALIVE becomes 0. -/
  | quoinTimeout
  /-- TAKEOVER_DELAY_END (R586): The junior's takeover delay ends; it enters TAKEOVER or SPLIT according to QALIVE. -/
  | takeoverDelayEnd
  /-- GATE (R586): A write of GATE with KEY 0x6B and OPEN leaves DIVERGED. -/
  | gate (ini : Initiator) (key : Byte) (open_ : Bool)
  /-- CMP_CNT_READ (R46): A read of CMP_CNT returns MISMATCH and MARGIN and clears them. -/
  | cmpCntRead (ini : Initiator)
  /-- LINK_CNT_READ (R46): A read of LINK_CNT returns LOSS and ALNFRM and clears them. -/
  | linkCntRead (ini : Initiator)
  /-- MSG_STAT_READ (R46): A read of MSG_STAT returns RXDROP and TXERR and clears them. -/
  | msgStatRead (ini : Initiator)
  /-- ILLEGAL_INSTRUCTION (R236): A core issues an instruction whose opcode, CNT, SIZE, reserved bits, specifier modes
  or RPT break the encoding rules, and it takes the illegal instruction exception with CAUSE 0x01. -/
  | illegalInstruction (c : Fin 12)
  /-- REGACT_EXPIRY (R146): 1 ms after regulation last acted, STATE.REGACT and the level source REG fall to 0 and the
  unit moves from REG back to DRIVE. -/
  | regactExpiry (n : Fin 24)
  /-- WAKE_DECODER_FRAME (R380): In SLEEP, the CAN wake decoder ends a frame that does not match, or meets a decoding
  error, and lowers or raises WAKE_STAT.FEC. -/
  | wakeDecoderFrame (n : Fin 4) (error fd : Bool)
  /-- LIN_SYNC_FRAMING_ERROR (R391): A measured sync field departs from nominal by more than ±15 %, and the header
  ends as a framing error entry with STAT 0b101. -/
  | linSyncFramingError (f : SyncField)
  /-- LIN_MODE_SWITCH_END (R399): A LIN transceiver's mode switch window t_MSW ends, so MSWIN returns to 0 and
  STATUS.TRX reads SLEEP. -/
  | linModeSwitchEnd (n : Fin 16)
  /-- ETH_MODE_SWITCH_END (R412): After the TC10 handshake the MDI falls silent, the mode switch window ends and MSWIN
  returns to 0. -/
  | ethModeSwitchEnd (n : Fin 2)
  /-- UHF_LISTEN_END (R526): t_UL after PD42 entered ON because of wake source 16, the receiver stops listening on the
  UW_CFG band, and button telegrams are no longer accepted outside windows. -/
  | uhfListenEnd
  /-- MODULE_SUPPLY_LOSS (R633): The supply at the battery sense inputs and feed studs falls below V_PORL, so the
  whole module stops, and a learn, erase, program or record write in progress is cut short. -/
  | moduleSupplyLoss
  deriving DecidableEq, Repr

end Sys2Proof
end

