-- ==== Sys2Proof/Decode.lean ====
section
/-!
DEFINITION. The commands that a word of the table's bits spells. The table gives no row any bits: a command of this block is a register
access or an event with its operands, never a word, so no word spells one.
-/
namespace Sys2Proof

/-- The command that the `nbits` low bits of `w` spell. -/
def decodeTableWord (_nbits _w : Nat) : Option Instr := none

end Sys2Proof
end

