-- ==== Sys2Proof/Config.lean ====
section
/-!
DEFINITION. What an implementation fixes and the manual leaves open: the free values. None of them has a body, so no
proof can see a value of one; a claim about the model holds whatever they are. Each is named in the assumption log.
-/
namespace Sys2Proof

/-- The byte an address of a memory reads after the memory's domain came back from its `n`-th loss of contents (R438:
"memory contents are undefined"); log entry 5. -/
opaque Config.lostByte : (n : Nat) → (addr : Nat) → Byte

/-- The shortest on-phase or off-phase, in CK_PWM cycles, that a channel of slew step `slew` switches (t_MINON, t_MINOFF of
R110, which gives only a largest value); log entry 6. -/
opaque Config.minPhase : (slew : Nat) → Nat

/-- The shortest on-phase or off-phase of a valve's low side at slew step `slew`, in CK_SOL cycles (t_MINON, t_MINOFF of R201, which gives only a
largest value); log entry 78. -/
opaque Config.solMinTime : (slew : Nat) → Nat

/-- The phase of the hold periods of valve 0 of bank `g`, in CK_SOL cycles (R174 gives only the lags between valves); log entry 78. -/
opaque Config.holdGrid : (g : Nat) → Nat

/-- The time in µs from a window's end or a feed's return to the next result of a channel of kind `k`: 0 high-side, 1 half-bridge or valve,
2 voltage (t_SETL of R97, which gives only a largest value); log entry 70. -/
opaque Config.settleTime : (k : Nat) → Nat

/-- The time in µs in which channel `n` regulates from LIM_INR down to LIM_RUN (t_LIMON of R136, which gives only a largest value); log
entry 70. -/
opaque Config.limOnTime : (n : Nat) → Nat

/-- The byte of the factory trim region at an address: R19 makes its layout no software interface; log entry 7. -/
opaque Config.trimByte : (addr : Nat) → Byte

/-- The factory trim a T-coded field holds: the register at `addr` (R7, R508); log entry 7. -/
opaque Config.trimWord : (addr : Nat) → Word

/-- A word to which the spec gives no value: EADDR after an entry whose cause has no address (R258, R262); log entry 8. -/
opaque Config.openWord : (n : Nat) → Word

/-- Which page of the free pool the `n`-th claim takes: "Ashlar hands out pages in an order that depends on timing" (R313);
log entry 9. -/
opaque Config.pagePick : (n : Nat) → Nat

/-- The receive error counter after a valid reception from above 127, within 119 … 127 (ISO 11898-1, R372); log entry 11. -/
opaque Config.recPick : (rec : Nat) → Nat

/-- Channel `n` is receiving the frame of another node at instant `t`: no command tells when such a frame starts (R386, log entry 80). -/
opaque Config.rxBusy : (n t : Nat) → Bool

/-- Byte `i` of the `n`-th draw of a random source: challenges, RAND, ephemeral keys (R514, R555, R556); log entry 15. -/
opaque Config.randByte : (n i : Nat) → Byte

/-- Byte `i` of the module's transport key KT (R517); log entry 15. -/
opaque Config.ktByte : (i : Nat) → Byte

/-- The private half of the device identity key (R542); log entry 15. -/
opaque Config.dikKey : Nat

/-- Byte `i` of the module serial number (R543); log entry 15. -/
opaque Config.serialByte : (i : Nat) → Byte

/-- Byte `i` of the fields of the device certificate that the factory made: ISSUED, CAID and SIG in turn (R543); log entry 15. -/
opaque Config.certByte : (i : Nat) → Byte

/-- The byte an NV address reads after an interrupted or failed erase or program (R552); log entry 15. -/
opaque Config.nvByte : (n addr : Nat) → Byte

/-- SYS.DEV_REV.MINOR of the module (R8: an INFO field that the spec gives no value; MAJOR is 0x01 by R1); log entry 17. -/
opaque Config.devMinor : Byte

/-- Whether the `n`-th learn that a reset or supply loss cuts short had begun to erase the slot store (R532); log entry 16. -/
opaque Config.learnCut : (n : Nat) → Bool

end Sys2Proof
end

