-- ==== Sys2Proof/Machine/Crypto.lean ====
section
/-!
DEFINITION. The cryptographic functions that the spec names by their standards: SHA-384 (FIPS 180-4), AES-128 and CMAC of one
block (FIPS 197, NIST SP 800-38B), ECDSA on brainpoolP384r1 (RFC 5639), CRC-32 (IEEE 802.3). PRESUMED from those standards, log
entry 14. Numbers are naturals; byte strings are lists.
-/
namespace Sys2Proof.Machine

/-- The big-endian number of a byte string. -/
def beNat (l : List Byte) : Nat := l.foldl (fun a b => a * 256 + b.toNat) 0

/-- The `n` bytes of a number, most significant first. -/
def beBytes : Nat → Nat → List Byte
  | 0, _ => []
  | n + 1, v => beBytes n (v / 256) ++ [BitVec.ofNat 8 v]

/-- The `n` bytes of a number, least significant first. -/
def leBytes : Nat → Nat → List Byte
  | 0, _ => []
  | n + 1, v => BitVec.ofNat 8 v :: leBytes n (v / 256)

/-- The little-endian number of a byte string. -/
def leNat : List Byte → Nat
  | [] => 0
  | b :: r => b.toNat + 256 * leNat r

/-! ## CRC-32 (R541) -/

/-- One bit of the reflected CRC-32. -/
def crcBit (c : Nat) : Nat := if c % 2 = 1 then Nat.xor 0xEDB88320 (c / 2) else c / 2

/-- One byte of the reflected CRC-32. -/
def crcByte (c : Nat) (b : Byte) : Nat := (List.range 8).foldl (fun x _ => crcBit x) (Nat.xor c b.toNat)

/-- CRC-32 with initial value and final XOR 0xFFFF_FFFF (R541). -/
def crc32 (l : List Byte) : Nat := Nat.xor 0xFFFFFFFF (l.foldl crcByte 0xFFFFFFFF)

/-! ## SHA-384 -/

/-- The eight 64-bit words of a number, most significant first. -/
def eightWords (v : Nat) : List Nat := (List.range 8).map (fun i => v / 2 ^ (64 * (7 - i)) % 2 ^ 64)

/-- The round constants of SHA-384, eight to a number: the first 64 bits of the fractional parts of the cube roots of the first eighty
primes. -/
def shaK : List Nat :=
  [0x428a2f98d728ae227137449123ef65cdb5c0fbcfec4d3b2fe9b5dba58189dbbc3956c25bf348b53859f111f1b605d019923f82a4af194f9bab1c5ed5da6d8118,
   0xd807aa98a303024212835b0145706fbe243185be4ee4b28c550c7dc3d5ffb4e272be5d74f27b896f80deb1fe3b1696b19bdc06a725c71235c19bf174cf692694,
   0xe49b69c19ef14ad2efbe4786384f25e30fc19dc68b8cd5b5240ca1cc77ac9c652de92c6f592b02754a7484aa6ea6e4835cb0a9dcbd41fbd476f988da831153b5,
   0x983e5152ee66dfaba831c66d2db43210b00327c898fb213fbf597fc7beef0ee4c6e00bf33da88fc2d5a79147930aa72506ca6351e003826f142929670a0e6e70,
   0x27b70a8546d22ffc2e1b21385c26c9264d2c6dfc5ac42aed53380d139d95b3df650a73548baf63de766a0abb3c77b2a881c2c92e47edaee692722c851482353b,
   0xa2bfe8a14cf10364a81a664bbc423001c24b8b70d0f89791c76c51a30654be30d192e819d6ef5218d69906245565a910f40e35855771202a106aa07032bbd1b8,
   0x19a4c116b8d2d0c81e376c085141ab532748774cdf8eeb9934b0bcb5e19b48a8391c0cb3c5c95a634ed8aa4ae3418acb5b9cca4f7763e373682e6ff3d6b2b8a3,
   0x748f82ee5defb2fc78a5636f43172f6084c87814a1f0ab728cc702081a6439ec90befffa23631e28a4506cebde82bde9bef9a3f7b2c67915c67178f2e372532b,
   0xca273eceea26619cd186b8c721c0c207eada7dd6cde0eb1ef57d4f7fee6ed17806f067aa72176fba0a637dc5a2c898a6113f9804bef90dae1b710b35131c471b,
   0x28db77f523047d8432caab7b40c724933c9ebe0a15c9bebc431d67c49c100d4c4cc5d4becb3e42b6597f299cfc657e2a5fcb6fab3ad6faec6c44198c4a475817].flatMap eightWords

/-- The initial hash value of SHA-384: the same bits of the square roots of the ninth to the sixteenth prime. -/
def shaH : List Nat :=
  eightWords 0xcbbb9d5dc1059ed8629a292a367cd5079159015a3070dd17152fecd8f70e593967332667ffc00b318eb44a8768581511db0c2e0d64f98fa747b5481dbefa4fa4

/-- Rotation right of a 64-bit word. -/
def rotr (n x : Nat) : Nat := Nat.lor (x / 2 ^ n) (x * 2 ^ (64 - n) % 2 ^ 64)

/-- The working variables. -/
structure Sha where
  a : Nat
  b : Nat
  c : Nat
  d : Nat
  e : Nat
  f : Nat
  g : Nat
  h : Nat

/-- One round with constant `k` and schedule word `w`. -/
def shaRound (s : Sha) (k w : Nat) : Sha :=
  let s1 := Nat.xor (rotr 14 s.e) (Nat.xor (rotr 18 s.e) (rotr 41 s.e))
  let ch := Nat.xor (Nat.land s.e s.f) (Nat.land (2 ^ 64 - 1 - s.e) s.g)
  let t1 := s.h + s1 + ch + k + w
  let s0 := Nat.xor (rotr 28 s.a) (Nat.xor (rotr 34 s.a) (rotr 39 s.a))
  let maj := Nat.xor (Nat.land s.a s.b) (Nat.xor (Nat.land s.a s.c) (Nat.land s.b s.c))
  ⟨(t1 + s0 + maj) % 2 ^ 64, s.a, s.b, s.c, (s.d + t1) % 2 ^ 64, s.e, s.f, s.g⟩

/-- The schedule word that follows a window of sixteen. -/
def shaNext (w : List Nat) : Nat :=
  let x := w.getD 1 0
  let y := w.getD 14 0
  let s0 := Nat.xor (rotr 1 x) (Nat.xor (rotr 8 x) (x / 2 ^ 7))
  let s1 := Nat.xor (rotr 19 y) (Nat.xor (rotr 61 y) (y / 2 ^ 6))
  (w.getD 0 0 + s0 + w.getD 9 0 + s1) % 2 ^ 64

/-- The rounds of one block over the window of schedule words. -/
def shaRounds : List Nat → List Nat → Sha → Sha
  | [], _, s => s
  | k :: r, w, s => shaRounds r (w.drop 1 ++ [shaNext w]) (shaRound s k (w.headD 0))

/-- The compression of one block of sixteen words. -/
def shaBlock (s : Sha) (w : List Nat) : Sha :=
  let t := shaRounds shaK w s
  let add (x y : Nat) : Nat := (x + y) % 2 ^ 64
  ⟨add s.a t.a, add s.b t.b, add s.c t.c, add s.d t.d, add s.e t.e, add s.f t.f, add s.g t.g, add s.h t.h⟩

/-- Cut a list of bytes into big-endian words of eight. -/
def words64 : Nat → List Byte → List Nat
  | 0, _ => []
  | n + 1, l => beNat (l.take 8) :: words64 n (l.drop 8)

/-- The blocks of a padded message. -/
def shaBlocks : Nat → List Byte → Sha → Sha
  | 0, _, s => s
  | n + 1, l, s => shaBlocks n (l.drop 128) (shaBlock s (words64 16 (l.take 128)))

/-- The digest of a message: 48 bytes. -/
def sha384 (m : List Byte) : List Byte :=
  let n := m.length
  let zeros := (239 - n % 128) % 128
  let p := m ++ [0x80] ++ List.replicate zeros 0 ++ beBytes 16 (8 * n)
  let i (k : Nat) : Nat := shaH.getD k 0
  let s := shaBlocks (p.length / 128) p ⟨i 0, i 1, i 2, i 3, i 4, i 5, i 6, i 7⟩
  [s.a, s.b, s.c, s.d, s.e, s.f].flatMap (beBytes 8)

/-! ## AES-128 and CMAC -/

/-- The S-box of AES, part 0. -/
def aesS0 : List Nat :=
  [0x63, 0x7c, 0x77, 0x7b, 0xf2, 0x6b, 0x6f, 0xc5, 0x30, 0x01, 0x67, 0x2b, 0xfe, 0xd7, 0xab, 0x76,
   0xca, 0x82, 0xc9, 0x7d, 0xfa, 0x59, 0x47, 0xf0, 0xad, 0xd4, 0xa2, 0xaf, 0x9c, 0xa4, 0x72, 0xc0,
   0xb7, 0xfd, 0x93, 0x26, 0x36, 0x3f, 0xf7, 0xcc, 0x34, 0xa5, 0xe5, 0xf1, 0x71, 0xd8, 0x31, 0x15,
   0x04, 0xc7, 0x23, 0xc3, 0x18, 0x96, 0x05, 0x9a, 0x07, 0x12, 0x80, 0xe2, 0xeb, 0x27, 0xb2, 0x75,
   0x09, 0x83, 0x2c, 0x1a, 0x1b, 0x6e, 0x5a, 0xa0, 0x52, 0x3b, 0xd6, 0xb3, 0x29, 0xe3, 0x2f, 0x84,
   0x53, 0xd1, 0x00, 0xed, 0x20, 0xfc, 0xb1, 0x5b, 0x6a, 0xcb, 0xbe, 0x39, 0x4a, 0x4c, 0x58, 0xcf,
   0xd0, 0xef, 0xaa, 0xfb, 0x43, 0x4d, 0x33, 0x85, 0x45, 0xf9, 0x02, 0x7f, 0x50, 0x3c, 0x9f, 0xa8,
   0x51, 0xa3, 0x40, 0x8f, 0x92, 0x9d, 0x38, 0xf5, 0xbc, 0xb6, 0xda, 0x21, 0x10, 0xff, 0xf3, 0xd2,
   0xcd, 0x0c, 0x13, 0xec, 0x5f, 0x97, 0x44, 0x17, 0xc4, 0xa7, 0x7e, 0x3d, 0x64, 0x5d, 0x19, 0x73,
   0x60, 0x81, 0x4f, 0xdc, 0x22, 0x2a, 0x90, 0x88, 0x46, 0xee, 0xb8, 0x14, 0xde, 0x5e, 0x0b, 0xdb]

/-- The S-box of AES, part 1. -/
def aesS1 : List Nat :=
  [0xe0, 0x32, 0x3a, 0x0a, 0x49, 0x06, 0x24, 0x5c, 0xc2, 0xd3, 0xac, 0x62, 0x91, 0x95, 0xe4, 0x79,
   0xe7, 0xc8, 0x37, 0x6d, 0x8d, 0xd5, 0x4e, 0xa9, 0x6c, 0x56, 0xf4, 0xea, 0x65, 0x7a, 0xae, 0x08,
   0xba, 0x78, 0x25, 0x2e, 0x1c, 0xa6, 0xb4, 0xc6, 0xe8, 0xdd, 0x74, 0x1f, 0x4b, 0xbd, 0x8b, 0x8a,
   0x70, 0x3e, 0xb5, 0x66, 0x48, 0x03, 0xf6, 0x0e, 0x61, 0x35, 0x57, 0xb9, 0x86, 0xc1, 0x1d, 0x9e,
   0xe1, 0xf8, 0x98, 0x11, 0x69, 0xd9, 0x8e, 0x94, 0x9b, 0x1e, 0x87, 0xe9, 0xce, 0x55, 0x28, 0xdf,
   0x8c, 0xa1, 0x89, 0x0d, 0xbf, 0xe6, 0x42, 0x68, 0x41, 0x99, 0x2d, 0x0f, 0xb0, 0x54, 0xbb, 0x16]

/-- The S-box of AES. -/
def aesS : List Nat := aesS0 ++ aesS1

/-- The inverse S-box of AES, part 0. -/
def aesInvS0 : List Nat :=
  [0x52, 0x09, 0x6a, 0xd5, 0x30, 0x36, 0xa5, 0x38, 0xbf, 0x40, 0xa3, 0x9e, 0x81, 0xf3, 0xd7, 0xfb,
   0x7c, 0xe3, 0x39, 0x82, 0x9b, 0x2f, 0xff, 0x87, 0x34, 0x8e, 0x43, 0x44, 0xc4, 0xde, 0xe9, 0xcb,
   0x54, 0x7b, 0x94, 0x32, 0xa6, 0xc2, 0x23, 0x3d, 0xee, 0x4c, 0x95, 0x0b, 0x42, 0xfa, 0xc3, 0x4e,
   0x08, 0x2e, 0xa1, 0x66, 0x28, 0xd9, 0x24, 0xb2, 0x76, 0x5b, 0xa2, 0x49, 0x6d, 0x8b, 0xd1, 0x25,
   0x72, 0xf8, 0xf6, 0x64, 0x86, 0x68, 0x98, 0x16, 0xd4, 0xa4, 0x5c, 0xcc, 0x5d, 0x65, 0xb6, 0x92,
   0x6c, 0x70, 0x48, 0x50, 0xfd, 0xed, 0xb9, 0xda, 0x5e, 0x15, 0x46, 0x57, 0xa7, 0x8d, 0x9d, 0x84,
   0x90, 0xd8, 0xab, 0x00, 0x8c, 0xbc, 0xd3, 0x0a, 0xf7, 0xe4, 0x58, 0x05, 0xb8, 0xb3, 0x45, 0x06,
   0xd0, 0x2c, 0x1e, 0x8f, 0xca, 0x3f, 0x0f, 0x02, 0xc1, 0xaf, 0xbd, 0x03, 0x01, 0x13, 0x8a, 0x6b,
   0x3a, 0x91, 0x11, 0x41, 0x4f, 0x67, 0xdc, 0xea, 0x97, 0xf2, 0xcf, 0xce, 0xf0, 0xb4, 0xe6, 0x73,
   0x96, 0xac, 0x74, 0x22, 0xe7, 0xad, 0x35, 0x85, 0xe2, 0xf9, 0x37, 0xe8, 0x1c, 0x75, 0xdf, 0x6e]

/-- The inverse S-box of AES, part 1. -/
def aesInvS1 : List Nat :=
  [0x47, 0xf1, 0x1a, 0x71, 0x1d, 0x29, 0xc5, 0x89, 0x6f, 0xb7, 0x62, 0x0e, 0xaa, 0x18, 0xbe, 0x1b,
   0xfc, 0x56, 0x3e, 0x4b, 0xc6, 0xd2, 0x79, 0x20, 0x9a, 0xdb, 0xc0, 0xfe, 0x78, 0xcd, 0x5a, 0xf4,
   0x1f, 0xdd, 0xa8, 0x33, 0x88, 0x07, 0xc7, 0x31, 0xb1, 0x12, 0x10, 0x59, 0x27, 0x80, 0xec, 0x5f,
   0x60, 0x51, 0x7f, 0xa9, 0x19, 0xb5, 0x4a, 0x0d, 0x2d, 0xe5, 0x7a, 0x9f, 0x93, 0xc9, 0x9c, 0xef,
   0xa0, 0xe0, 0x3b, 0x4d, 0xae, 0x2a, 0xf5, 0xb0, 0xc8, 0xeb, 0xbb, 0x3c, 0x83, 0x53, 0x99, 0x61,
   0x17, 0x2b, 0x04, 0x7e, 0xba, 0x77, 0xd6, 0x26, 0xe1, 0x69, 0x14, 0x63, 0x55, 0x21, 0x0c, 0x7d]

/-- The inverse S-box of AES. -/
def aesInvS : List Nat := aesInvS0 ++ aesInvS1

/-- Multiplication by x in the field of AES. -/
def xtime (a : Nat) : Nat := if 128 ≤ a then Nat.xor (a * 2 % 256) 0x1B else a * 2

/-- Multiplication in the field of AES by a constant below 16. -/
def gmul (c a : Nat) : Nat :=
  let a2 := xtime a
  let a4 := xtime a2
  let a8 := xtime a4
  let p (k v : Nat) : Nat := if c.testBit k then v else 0
  Nat.xor (Nat.xor (p 0 a) (p 1 a2)) (Nat.xor (p 2 a4) (p 3 a8))

/-- Bytewise exclusive or of two blocks. -/
def xorL : List Nat → List Nat → List Nat
  | a :: r, b :: s => Nat.xor a b :: xorL r s
  | _, _ => []

/-- The next round key. -/
def aesKeyStep (k : List Nat) (rcon : Nat) : List Nat :=
  let sub (i : Nat) : Nat := aesS.getD (k.getD i 0) 0
  let w0 := xorL (k.take 4) [Nat.xor (sub 13) rcon, sub 14, sub 15, sub 12]
  let w1 := xorL ((k.drop 4).take 4) w0
  let w2 := xorL ((k.drop 8).take 4) w1
  w0 ++ w1 ++ w2 ++ xorL ((k.drop 12).take 4) w2

/-- The round keys after key `k`, for the given round constants. -/
def aesKeys (k : List Nat) : List Nat → List (List Nat)
  | [] => [k]
  | c :: r => k :: aesKeys (aesKeyStep k c) r

/-- The eleven round keys of a key. -/
def aesSchedule (k : List Nat) : List (List Nat) := aesKeys k [1, 2, 4, 8, 16, 32, 64, 128, 27, 54]

/-- Take bytes of a block by position. -/
def permute (p : List Nat) (s : List Nat) : List Nat := p.map (fun i => s.getD i 0)

/-- One column through the circulant matrix of `c`. -/
def mixCol (c : List Nat) (s : List Nat) (j : Nat) : List Nat :=
  (List.range 4).map (fun i =>
    (List.range 4).foldl (fun a k => Nat.xor a (gmul (c.getD ((k + 4 - i) % 4) 0) (s.getD (4 * j + k) 0))) 0)

/-- Every column through the circulant matrix of `c`. -/
def mixCols (c s : List Nat) : List Nat := (List.range 4).flatMap (mixCol c s)

/-- ShiftRows and its inverse as positions. -/
def shiftP : List Nat := [0, 5, 10, 15, 4, 9, 14, 3, 8, 13, 2, 7, 12, 1, 6, 11]
def shiftInvP : List Nat := [0, 13, 10, 7, 4, 1, 14, 11, 8, 5, 2, 15, 12, 9, 6, 3]

/-- The rounds of the cipher after the first key. -/
def aesRounds : List (List Nat) → List Nat → List Nat
  | [], s => s
  | [k], s => xorL (permute shiftP (s.map (fun b => aesS.getD b 0))) k
  | k :: r, s => aesRounds r (xorL (mixCols [2, 3, 1, 1] (permute shiftP (s.map (fun b => aesS.getD b 0)))) k)

/-- AES-128 of one block. -/
def aesEnc (key blk : List Byte) : List Byte :=
  let ks := aesSchedule (key.map (·.toNat))
  (aesRounds ks.tail (xorL (blk.map (·.toNat)) (ks.headD []))).map (BitVec.ofNat 8)

/-- The rounds of the inverse cipher, keys from the last but one down. -/
def aesInvRounds : List (List Nat) → List Nat → List Nat
  | [], s => s
  | [k], s => xorL ((permute shiftInvP s).map (fun b => aesInvS.getD b 0)) k
  | k :: r, s => aesInvRounds r (mixCols [14, 11, 13, 9] (xorL ((permute shiftInvP s).map (fun b => aesInvS.getD b 0)) k))

/-- Inverse AES-128 of one block. -/
def aesDec (key blk : List Byte) : List Byte :=
  let ks := (aesSchedule (key.map (·.toNat))).reverse
  (aesInvRounds ks.tail (xorL (blk.map (·.toNat)) (ks.headD []))).map (BitVec.ofNat 8)

/-- CMAC of a message of one full block. -/
def cmac16 (key m : List Byte) : List Byte :=
  let l := beNat (aesEnc key (List.replicate 16 0))
  let k1 := Nat.xor (l * 2 % 2 ^ 128) (if l < 2 ^ 127 then 0 else 0x87)
  aesEnc key (beBytes 16 (Nat.xor (beNat m) k1))

/-! ## ECDSA on brainpoolP384r1 -/

/-- The field prime. -/
def bpP : Nat := 0x8CB91E82A3386D280F5D6F7E50E641DF152F7109ED5456B412B1DA197FB71123ACD3A729901D1A71874700133107EC53
/-- The curve coefficient a. -/
def bpA : Nat := 0x7BC382C63D8C150C3C72080ACE05AFA0C2BEA28E4FB22787139165EFBA91F90F8AA5814A503AD4EB04A8C7DD22CE2826
/-- The curve coefficient b. -/
def bpB : Nat := 0x04A8C7DD22CE28268B39B55416F0447C2FB77DE107DCD2A62E880EA53EEB62D57CB4390295DBC9943AB78696FA504C11
/-- The base point. -/
def bpG : Nat × Nat :=
  (0x1D1C64F068CF45FFA2A63A81B7C13F6B8847A3E77EF14FE3DB7FCAFE0CBD10E8E826E03436D646AAEF87B2E247D4AF1E,
   0x8ABE1D7520F9C2A45CB1EB8E95CFD55262B70B29FEEC5864E19C054FF99129280E4646217791811142820341263C5315)
/-- The group order. -/
def bpQ : Nat := 0x8CB91E82A3386D280F5D6F7E50E641DF152F7109ED5456B31F166E6CAC0425A7CF3AB6AF6B7FC3103B883202E9046565

/-- `b ^ e` modulo `m`, for exponents below `2 ^ fuel`. -/
def powMod (m : Nat) : Nat → Nat → Nat → Nat
  | 0, _, _ => 1
  | f + 1, b, e => (if e % 2 = 1 then b else 1) * powMod m f (b * b % m) (e / 2) % m

/-- The inverse modulo a prime. -/
def invMod (m a : Nat) : Nat := powMod m 384 (a % m) (m - 2)

/-- The affine point lies on the curve. -/
def onCurve (x y : Nat) : Bool :=
  decide (x < bpP) && decide (y < bpP) && decide (y * y % bpP = (x * x * x + bpA * x + bpB) % bpP)

/-- The sum of two points; none is the point at infinity. -/
def ecAdd : Option (Nat × Nat) → Option (Nat × Nat) → Option (Nat × Nat)
  | none, q => q
  | p, none => p
  | some (x1, y1), some (x2, y2) =>
    if x1 = x2 ∧ (y1 + y2) % bpP = 0 then none
    else
      let l := if x1 = x2 then (3 * x1 * x1 + bpA) * invMod bpP (2 * y1) % bpP
        else (y2 + bpP - y1) * invMod bpP (x2 + bpP - x1) % bpP
      let x := (l * l + 2 * bpP - x1 - x2) % bpP
      some (x, (l * (x1 + bpP - x) + bpP - y1) % bpP)

/-- `k` times a point, for `k` below `2 ^ fuel`. -/
def ecMul : Nat → Nat → Option (Nat × Nat) → Option (Nat × Nat)
  | 0, _, _ => none
  | f + 1, k, p => ecAdd (if k % 2 = 1 then p else none) (ecMul f (k / 2) (ecAdd p p))

/-- A public key of 96 bytes as a point. -/
def pubPoint (k : List Byte) : Nat × Nat := (beNat (k.take 48), beNat ((k.drop 48).take 48))

/-- A public key of 96 bytes is a point on the curve. -/
def pubOk (k : List Byte) : Bool := onCurve (pubPoint k).1 (pubPoint k).2

/-- A signature of 96 bytes verifies over a 48-byte digest under a public key of 96 bytes. -/
def ecdsaOk (digest key sig : List Byte) : Bool :=
  let r := beNat (sig.take 48)
  let s := beNat ((sig.drop 48).take 48)
  let w := invMod bpQ s
  let e := beNat digest
  pubOk key && decide (0 < r) && decide (r < bpQ) && decide (0 < s) && decide (s < bpQ) &&
    match ecAdd (ecMul 384 (e * w % bpQ) (some bpG)) (ecMul 384 (r * w % bpQ) (some (pubPoint key))) with
    | some (x, _) => decide (x % bpQ = r)
    | none => false

/-- The signature of a 48-byte digest under private key `d` with nonce `k`. -/
def ecdsaSign (digest : List Byte) (d k : Nat) : List Byte :=
  let r := match ecMul 384 k (some bpG) with | some (x, _) => x % bpQ | none => 0
  beBytes 48 r ++ beBytes 48 (invMod bpQ k * (beNat digest + r * d) % bpQ)

end Sys2Proof.Machine
end

