-- ==== Sys2Proof/Machine/RegMap.lean ====
section
/-!
DEFINITION. The register map of the peripheral pages: for every register its offset, how many elements it has and how far
apart, the bits that a write stores (RW, RWS), the bits that a write of 1 clears (W1C), the bits that a read clears (RC),
and its reset value (chapters 02 … 20). A register whose every bit is RO or WO has no bit in the three masks.
-/
namespace Sys2Proof.Machine

/-- One register of a page layout, or an array of them. -/
structure Reg where
  off : Nat
  n : Nat
  step : Nat
  rw : Word
  w1c : Word
  rc : Word
  rst : Word

/-- The common header (R38, R40). -/
def regHeader : List Reg := [
  ⟨0, 1, 4, 0, 0, 0, 0⟩,
  ⟨8, 1, 4, 0, 0, 0, 0⟩,
  ⟨0xC, 1, 4, 0, 0, 0, 0⟩,
  ⟨0x10, 1, 4, 0, 0, 0, 0⟩,
  ⟨0x14, 1, 4, 0, 0xFFFFFFFF, 0, 0⟩,
  ⟨0x18, 1, 4, 0xFFFFFFFF, 0, 0, 0⟩,
  ⟨0x1C, 1, 4, 0, 0, 0, 0⟩,
  ⟨0x20, 1, 4, 0, 0xFFFF001F, 0, 0⟩,
  ⟨0x24, 1, 4, 0xFF13, 0, 0, 0⟩,
  ⟨0x28, 1, 4, 0x800003FF, 0, 0, 0⟩,
  ⟨0x2C, 1, 4, 0, 0, 0, 0⟩]

/-- The registers of the SYS page, type 1 (R65, R512). -/
def regSYS : List Reg := [
  ⟨0x40, 1, 4, 0, 0, 0, 0xC51A9640⟩,
  ⟨0x44, 1, 4, 0, 0, 0, 0⟩,
  ⟨0x50, 4, 4, 0, 0, 0, 0⟩,
  ⟨0x60, 1, 4, 0, 0, 0, 0⟩,
  ⟨0x64, 1, 4, 0, 0x80000000, 0, 0⟩,
  ⟨0x70, 1, 4, 0, 0, 0, 0⟩,
  ⟨0x80, 1, 4, 0, 0x1F3, 0, 1⟩,
  ⟨0x84, 1, 4, 0, 0, 0, 0⟩,
  ⟨0x88, 1, 4, 0, 0, 0, 0⟩,
  ⟨0x8C, 1, 4, 0, 0, 0, 0⟩,
  ⟨0x90, 1, 4, 0, 0, 0, 0⟩,
  ⟨0x94, 1, 4, 0, 0, 0, 0⟩,
  ⟨0x98, 1, 4, 0, 0, 0, 0⟩,
  ⟨0x9C, 1, 4, 0, 0, 0, 0⟩,
  ⟨0xA0, 0xC, 4, 0, 0, 0xFF00, 0⟩,
  ⟨0x400, 1, 4, 0x3FFF, 0, 0, 0x3E8⟩,
  ⟨0x404, 1, 4, 1, 0, 0, 0⟩]

/-- The registers of the PWR page, type 2 (R463, R464). -/
def regPWR : List Reg := [
  ⟨0x40, 1, 4, 0, 0, 0, 0⟩,
  ⟨0x44, 1, 4, 0xFFFFFFFF, 0, 0, 0⟩,
  ⟨0x48, 1, 4, 0x1FFF, 0, 0, 0⟩,
  ⟨0x4C, 1, 4, 0, 0, 0, 0⟩,
  ⟨0x50, 1, 4, 0, 0x3FFFF, 0, 0⟩,
  ⟨0x54, 1, 4, 0, 0x80000000, 0, 0⟩,
  ⟨0x58, 1, 4, 0, 0, 0, 0⟩,
  ⟨0x60, 2, 4, 0, 0, 0, 0⟩,
  ⟨0x68, 1, 4, 0xFFFFFFFF, 0, 0, 0⟩,
  ⟨0x6C, 1, 4, 0x8000FFFF, 0, 0, 0⟩,
  ⟨0x400, 1, 4, 1, 0, 0, 1⟩,
  ⟨0x404, 1, 4, 0x13DFF, 0, 0, 0x33DFF⟩,
  ⟨0x408, 1, 4, 0x8000007F, 0, 0, 0x80000050⟩,
  ⟨0x480, 0x12, 8, 0xFFFFFFFF, 0, 0, 0⟩,
  ⟨0x484, 0x12, 8, 0x1FFF, 0, 0, 0⟩,
  ⟨0x800, 0x2D, 4, 0, 0, 0, 0⟩,
  ⟨0x900, 0x2D, 4, 0, 0, 0xFFFF, 0⟩,
  ⟨0xA00, 0x2D, 4, 0, 0, 0, 0⟩]

/-- The registers of the CLK page, type 3 (R488). -/
def regCLK : List Reg := [
  ⟨0x40, 1, 4, 0, 0, 0, 0x10000⟩,
  ⟨0x44, 1, 4, 0, 0, 0, 0x7A1200⟩,
  ⟨0x48, 1, 4, 0, 0x3FF, 0, 0⟩,
  ⟨0x50, 1, 4, 0, 0, 0, 0⟩,
  ⟨0x54, 1, 4, 0, 0xFFF, 0, 0⟩,
  ⟨0x400, 1, 4, 1, 0, 0, 1⟩,
  ⟨0x404, 1, 4, 0x3FF, 0, 0, 0x3BC⟩,
  ⟨0x440, 0xC, 4, 0x8000FFFF, 0, 0, 0x800007D0⟩]

/-- The registers of the HSW page, type 0x10 (R133). -/
def regHSW : List Reg := [
  ⟨0x40, 1, 4, 0xFFFF0003, 0, 0, 0⟩,
  ⟨0x44, 1, 4, 0, 0, 0, 0⟩,
  ⟨0x48, 1, 4, 0, 0, 0, 0⟩,
  ⟨0x4C, 1, 4, 0, 0, 0xFFFF, 0⟩,
  ⟨0x50, 1, 4, 0, 0, 0, 0⟩,
  ⟨0x54, 1, 4, 0, 0, 0, 0⟩,
  ⟨0x58, 1, 4, 0, 0, 0xFFFF0000, 0⟩,
  ⟨0x400, 1, 4, 0x7FFFFF, 0, 0, 0xFA00⟩,
  ⟨0x404, 1, 4, 0xFFFFF, 0, 0, 0⟩,
  ⟨0x408, 1, 4, 3, 0, 0, 1⟩,
  ⟨0x40C, 1, 4, 0x7FF33, 0, 0, 0x20A31⟩,
  ⟨0x410, 1, 4, 0x7F, 0, 0, 0x33⟩,
  ⟨0x414, 1, 4, 0xFF0FFF, 0, 0, 0x320000⟩,
  ⟨0x418, 1, 4, 0xFFFFFF3F, 0, 0, 0x55510⟩,
  ⟨0x41C, 1, 4, 0xFFFFFF, 0, 0, 0⟩,
  ⟨0x420, 1, 4, 0xFFFF, 0, 0, 0⟩,
  ⟨0x424, 1, 4, 0x3F, 0, 0, 0x15⟩]

/-- The registers of the HBR page, type 0x11 (R164). -/
def regHBR : List Reg := [
  ⟨0x40, 1, 4, 0xFFFF0007, 0, 0, 0⟩,
  ⟨0x44, 1, 4, 0, 0, 0, 0⟩,
  ⟨0x48, 1, 4, 0, 0, 0, 0⟩,
  ⟨0x4C, 1, 4, 0, 0, 0xFFFF, 0⟩,
  ⟨0x50, 1, 4, 0xFFFF, 0, 0, 0⟩,
  ⟨0x54, 1, 4, 0, 0, 0, 0⟩,
  ⟨0x58, 1, 4, 0, 0, 0, 0⟩,
  ⟨0x400, 1, 4, 0xFFFFF, 0, 0, 0xC80⟩,
  ⟨0x404, 1, 4, 0xFFFFF, 0, 0, 0⟩,
  ⟨0x408, 1, 4, 0xFF3113, 0, 0, 0xA1000⟩,
  ⟨0x40C, 1, 4, 0x33000FFF, 0, 0, 0x11000000⟩,
  ⟨0x410, 1, 4, 0xFFFF0FFF, 0, 0, 0x5000000⟩,
  ⟨0x414, 1, 4, 0xF07FFFFF, 0, 0, 0⟩]

/-- The registers of the SOL page, type 0x12 (R198). -/
def regSOL : List Reg := [
  ⟨0x40, 4, 4, 3, 0, 0, 0⟩,
  ⟨0x50, 4, 4, 0, 0, 0, 0⟩,
  ⟨0x60, 4, 4, 0, 0, 0, 0⟩,
  ⟨0x70, 4, 4, 0, 0, 0, 0xFFFF⟩,
  ⟨0x80, 4, 4, 0, 0, 0, 0xFFFF⟩,
  ⟨0x90, 4, 4, 0, 0, 0, 0⟩,
  ⟨0xA0, 4, 4, 0, 0, 0, 0⟩,
  ⟨0xB0, 1, 4, 0, 0, 0, 0⟩,
  ⟨0xB4, 1, 4, 0, 0, 0xFFFFFFFF, 0⟩,
  ⟨0xB8, 1, 4, 0, 0, 0, 0⟩,
  ⟨0x400, 1, 4, 0xFF0FFF35, 0, 0, 0xC8110⟩,
  ⟨0x440, 4, 0x20, 0xFF07FF, 0, 0, 0xA00C8⟩,
  ⟨0x444, 4, 0x20, 0xFFFFFFFF, 0, 0, 0x27100000⟩,
  ⟨0x448, 4, 0x20, 0xFFFF0FFF, 0, 0, 0x1F4⟩,
  ⟨0x44C, 4, 0x20, 0xE0FFFFFF, 0, 0, 0xA1405⟩,
  ⟨0x450, 4, 0x20, 0x7F03FF, 0, 0, 0x64000A⟩]

/-- The registers of the SWI page, type 0x13 (R224). -/
def regSWI : List Reg := [
  ⟨0x40, 1, 4, 0, 0, 0, 0⟩,
  ⟨0x44, 1, 4, 0, 0, 0, 0⟩,
  ⟨0x48, 1, 4, 0, 0xFFFFFFFF, 0, 0⟩,
  ⟨0x4C, 1, 4, 0xFFFFFFFF, 0, 0, 0⟩,
  ⟨0x50, 1, 4, 0, 0xFFFFFFFF, 0, 0⟩,
  ⟨0x54, 1, 4, 0, 0, 0, 0⟩,
  ⟨0x58, 1, 4, 0, 0, 0, 0⟩,
  ⟨0x5C, 1, 4, 0, 0, 0, 0⟩,
  ⟨0x60, 1, 4, 0, 0xFFFF, 0, 0⟩,
  ⟨0x64, 1, 4, 0, 0xFF00, 0, 0⟩,
  ⟨0x80, 8, 4, 0, 0, 0, 0⟩,
  ⟨0x400, 1, 4, 0xF, 0, 0, 6⟩,
  ⟨0x404, 1, 4, 0x8000003F, 0, 0, 0x19⟩,
  ⟨0x408, 4, 4, 0xFFFFFFFF, 0, 0, 0⟩,
  ⟨0x418, 1, 4, 0xFFFF73FF, 0, 0, 0x3C0F2000⟩,
  ⟨0x420, 8, 4, 0x1FF, 0, 0, 0x32⟩,
  ⟨0x480, 0x20, 4, 0xF73F, 0, 0, 0x14⟩]

/-- The registers of the MEAS page, type 0x14 (R94). -/
def regMEAS : List Reg := [
  ⟨0x40, 1, 4, 0, 0, 0, 2⟩,
  ⟨0x44, 1, 4, 0, 0, 0, 0⟩,
  ⟨0x48, 1, 4, 0x3F, 0, 0, 0⟩,
  ⟨0x50, 1, 4, 0, 0xFFFFFFFF, 0, 0⟩,
  ⟨0x54, 1, 4, 0, 0xFFFF, 0, 0⟩,
  ⟨0x58, 1, 4, 0, 0xFFFFFFFF, 0, 0⟩,
  ⟨0x5C, 1, 4, 0, 0xFFFF, 0, 0⟩,
  ⟨0x60, 2, 4, 0, 0, 0, 0⟩,
  ⟨0x100, 0x30, 4, 0, 0, 0x80000000, 0⟩,
  ⟨0x400, 1, 4, 1, 0, 0, 1⟩,
  ⟨0x404, 1, 4, 0xFFFF, 0, 0, 0xF0⟩,
  ⟨0x408, 1, 4, 0xFFFFFFFF, 0, 0, 0⟩,
  ⟨0x40C, 1, 4, 3, 0, 0, 0⟩,
  ⟨0x500, 0x30, 4, 0x3FFFFF, 0, 0, 0x100000⟩,
  ⟨0x600, 0x30, 4, 0xFFFFFF, 0, 0, 0⟩,
  ⟨0x800, 0x30, 4, 0, 0, 0, 0⟩,
  ⟨0x900, 0x30, 4, 0, 0, 0, 0⟩,
  ⟨0xA00, 0x30, 4, 0, 0, 0, 0⟩,
  ⟨0xB00, 0x30, 4, 0, 0, 0, 0x100000⟩,
  ⟨0xC00, 0x30, 4, 0, 0, 0, 0⟩,
  ⟨0xD00, 0x30, 4, 0, 0, 0, 0xFFFF⟩]

/-- The registers of the CAN page, type 0x20 (R386). -/
def regCAN : List Reg := [
  ⟨0x40, 1, 4, 0, 0, 0, 0⟩,
  ⟨0x44, 1, 4, 0, 0, 0, 0⟩,
  ⟨0x48, 1, 4, 0, 0, 0, 0⟩,
  ⟨0x4C, 1, 4, 0, 0, 0xFFFFFFFF, 0⟩,
  ⟨0x50, 1, 4, 0, 0, 0xFFFF0000, 0⟩,
  ⟨0x60, 3, 4, 0, 0, 0, 0⟩,
  ⟨0x70, 3, 4, 0, 0, 0, 0⟩,
  ⟨0x7C, 1, 4, 0, 0, 0, 0⟩,
  ⟨0x80, 1, 4, 0, 0, 0, 0⟩,
  ⟨0x84, 1, 4, 0, 0, 0, 0⟩,
  ⟨0x88, 1, 4, 0, 0x80000000, 0, 0⟩,
  ⟨0x8C, 1, 4, 0, 0, 0, 0⟩,
  ⟨0x90, 1, 4, 0, 0, 0, 0⟩,
  ⟨0x94, 1, 4, 0, 0, 0, 2⟩,
  ⟨0x98, 1, 4, 0, 7, 0, 0⟩,
  ⟨0x400, 1, 4, 0x777, 0, 0, 0x411⟩,
  ⟨0x404, 1, 4, 0xFFFFFCFF, 0, 0, 0x44122401⟩,
  ⟨0x408, 1, 4, 0xFFFFFCFF, 0, 0, 0x1E0E1C00⟩,
  ⟨0x40C, 1, 4, 0xFFFFFCFF, 0, 0, 0x4020400⟩,
  ⟨0x410, 1, 4, 0xFF, 0, 0, 0xA0⟩,
  ⟨0x414, 1, 4, 0x1FF, 0, 0, 0⟩,
  ⟨0x418, 1, 4, 0x3F33, 0, 0, 0x2021⟩,
  ⟨0x41C, 1, 4, 0x3FFFFFFF, 0, 0, 0⟩,
  ⟨0x420, 1, 4, 0x1FFFFFFF, 0, 0, 0x1FFFFFFF⟩,
  ⟨0x424, 2, 4, 0xFFFFFFFF, 0, 0, 0⟩]

/-- The registers of the LIN page, type 0x21 (R403). -/
def regLIN : List Reg := [
  ⟨0x40, 1, 4, 0, 0, 0, 0⟩,
  ⟨0x44, 1, 4, 0, 0, 0, 0⟩,
  ⟨0x48, 1, 4, 0, 0, 0xFFFF0000, 0⟩,
  ⟨0x4C, 1, 4, 0, 0, 0, 1⟩,
  ⟨0x50, 1, 4, 0, 1, 0, 0⟩,
  ⟨0x400, 1, 4, 0xFFFF0007, 0, 0, 0x3410001⟩,
  ⟨0x404, 1, 4, 0xFF, 0, 0, 0⟩,
  ⟨0x408, 1, 4, 0xFFFFFFF0, 0, 0, 0x20000000⟩,
  ⟨0x40C, 1, 4, 0xFFFFFC00, 0, 0, 0x20000000⟩,
  ⟨0x410, 1, 4, 0xFF, 0, 0, 0xA⟩]

/-- The registers of the ETH page, type 0x22 (R415). -/
def regETH : List Reg := [
  ⟨0x40, 1, 4, 0, 0, 0, 0⟩,
  ⟨0x44, 1, 4, 0, 0, 0, 0⟩,
  ⟨0x48, 1, 4, 0, 0, 0xFFFF0000, 0⟩,
  ⟨0x4C, 1, 4, 0, 0, 0xFFFFFFFF, 0⟩,
  ⟨0x50, 2, 4, 0, 0, 0, 0⟩,
  ⟨0x58, 1, 4, 0, 0, 0, 0⟩,
  ⟨0x5C, 1, 4, 0, 0, 0, 0⟩,
  ⟨0x60, 2, 4, 0, 0, 0, 0⟩,
  ⟨0x68, 1, 4, 0, 0, 0, 0⟩,
  ⟨0x6C, 1, 4, 0, 0, 0, 0⟩,
  ⟨0x70, 1, 4, 0, 0xC, 0, 0⟩,
  ⟨0x74, 1, 4, 0, 1, 0, 0⟩,
  ⟨0x400, 1, 4, 0xFFF0003, 0, 0, 0x5EE0001⟩,
  ⟨0x404, 1, 4, 0x71, 0, 0, 0⟩,
  ⟨0x408, 1, 4, 3, 0, 0, 2⟩]

/-- The registers of the NSC page, type 0x23 (R434). -/
def regNSC : List Reg := [
  ⟨0x40, 1, 4, 0, 0, 0, 0⟩,
  ⟨0x44, 1, 4, 0, 0, 0, 0⟩,
  ⟨0x48, 1, 4, 0, 0, 0, 0⟩,
  ⟨0x4C, 1, 4, 0, 0, 0, 0⟩,
  ⟨0x50, 1, 4, 0, 0x80000000, 0, 0⟩,
  ⟨0x54, 1, 4, 0, 0, 0, 0⟩,
  ⟨0x58, 1, 4, 0, 0x80000000, 0, 0⟩,
  ⟨0x5C, 1, 4, 0, 0, 0xFFFFFFFF, 0⟩,
  ⟨0x60, 1, 4, 0, 0, 0, 0⟩,
  ⟨0x64, 1, 4, 0, 1, 0, 0⟩,
  ⟨0x400, 1, 4, 0x33, 0, 0, 2⟩,
  ⟨0x404, 1, 4, 0x3FFFFFF, 0, 0, 0⟩,
  ⟨0x408, 1, 4, 0xFF00FFFF, 0, 0, 0x320007D0⟩,
  ⟨0x40C, 1, 4, 0xFFFF, 0, 0, 0x708⟩,
  ⟨0x410, 1, 4, 0x3FFF, 0, 0, 0x3FFF⟩,
  ⟨0x414, 1, 4, 0x7F, 0, 0, 2⟩,
  ⟨0x418, 1, 4, 0x800000FF, 0, 0, 0x80000064⟩]

/-- The registers of the KEY page, type 0x30 (R325). -/
def regKEY : List Reg := [
  ⟨0x40, 1, 4, 0, 0, 0, 0⟩,
  ⟨0x44, 1, 4, 0, 0, 0, 0⟩,
  ⟨0x48, 1, 4, 0, 0, 0, 0⟩,
  ⟨0x4C, 1, 4, 0x3FF, 0, 0, 0⟩,
  ⟨0x50, 1, 4, 0, 0, 0, 0⟩,
  ⟨0x54, 1, 4, 0, 0, 0, 0⟩,
  ⟨0x58, 1, 4, 0, 0, 0, 0⟩,
  ⟨0x5C, 1, 4, 0, 0, 0, 0⟩,
  ⟨0x60, 1, 4, 0, 0, 0xFFFF, 0⟩,
  ⟨0x64, 1, 4, 0, 0, 0xFFFF, 0⟩,
  ⟨0x80, 0xC, 4, 0, 0, 0, 0⟩,
  ⟨0x400, 1, 4, 1, 0, 0, 0⟩,
  ⟨0x404, 1, 4, 0xFFFFF000, 0, 0, 0x20000000⟩,
  ⟨0x800, 0x20, 4, 0, 0, 0, 0⟩,
  ⟨0x900, 0x100, 4, 0, 0, 0, 0⟩]

/-- The registers of the DMA page, type 0x31 (R349). -/
def regDMA : List Reg := [
  ⟨0x40, 1, 4, 0, 0, 0, 0⟩,
  ⟨0x44, 1, 4, 0, 0x200, 0, 0⟩,
  ⟨0x48, 1, 4, 0xFFFFFFF0, 0, 0, 0⟩,
  ⟨0x4C, 1, 4, 0, 0, 0, 0⟩,
  ⟨0x50, 1, 4, 0, 0, 0, 0⟩,
  ⟨0x54, 1, 4, 0, 0, 0, 0⟩,
  ⟨0x58, 1, 4, 0, 0, 0, 0⟩,
  ⟨0x5C, 1, 4, 0, 0, 0, 0⟩,
  ⟨0x60, 1, 4, 0, 0, 0xFFFF, 0⟩,
  ⟨0x400, 1, 4, 0xC0000F30, 0, 0, 0x300⟩,
  ⟨0x404, 1, 4, 0x7FFFFFFF, 0, 0, 0x10004⟩]

/-- The registers of the MSG page, type 0x32 (R327). -/
def regMSG : List Reg := [
  ⟨0x40, 1, 4, 0, 0, 0, 0⟩,
  ⟨0x44, 1, 4, 0, 0, 0, 0⟩,
  ⟨0x48, 1, 4, 0, 0, 0, 0⟩,
  ⟨0x4C, 1, 4, 0, 0, 0, 0⟩,
  ⟨0x50, 1, 4, 0, 0, 0, 0⟩,
  ⟨0x54, 1, 4, 0, 0x80000000, 0, 0⟩,
  ⟨0x58, 1, 4, 0xFFF, 0, 0, 0⟩,
  ⟨0x5C, 1, 4, 0, 0, 0, 0⟩,
  ⟨0x60, 1, 4, 0, 0, 0, 0⟩,
  ⟨0x400, 0x40, 4, 0xFFFFFFFF, 0, 0, 0⟩,
  ⟨0x500, 1, 4, 0x1FFF, 0, 0, 0⟩,
  ⟨0x800, 0x40, 4, 0, 0, 0xFFFF0000, 0⟩]

/-- The registers of the ACC page, type 0x40 (R536). -/
def regACC : List Reg := [
  ⟨0x40, 1, 4, 0, 0, 0, 0⟩,
  ⟨0x44, 1, 4, 0, 0, 0, 0⟩,
  ⟨0x48, 1, 4, 0, 0, 0, 0⟩,
  ⟨0x4C, 1, 4, 0, 0, 0, 0⟩,
  ⟨0x50, 2, 4, 0, 0, 0, 0⟩,
  ⟨0x58, 1, 4, 0, 0, 0, 0⟩,
  ⟨0x5C, 1, 4, 0, 0, 0xFFFF0000, 0⟩,
  ⟨0x60, 1, 4, 0, 0, 0, 0⟩,
  ⟨0x64, 1, 4, 0xFFFFFFF0, 0, 0, 0⟩,
  ⟨0x68, 1, 4, 0, 0, 0, 0⟩,
  ⟨0x6C, 1, 4, 0, 0, 0, 0⟩,
  ⟨0x70, 1, 4, 0, 0x60, 0, 0⟩,
  ⟨0x74, 1, 4, 0, 0xFFFF, 0, 0⟩,
  ⟨0x78, 1, 4, 0, 0, 0, 0⟩,
  ⟨0x7C, 1, 4, 0, 0, 0, 0⟩,
  ⟨0x80, 8, 4, 0, 0, 0, 0⟩,
  ⟨0xA0, 8, 4, 0, 0, 0, 0⟩,
  ⟨0x400, 1, 4, 0xF0F, 0, 0, 0x40A⟩,
  ⟨0x404, 1, 4, 0xFF0F, 0, 0, 0x1C05⟩,
  ⟨0x408, 1, 4, 0xFFF13, 0, 0, 0x10003⟩,
  ⟨0x40C, 1, 4, 0x80FF00FF, 0, 0, 0xFF0000⟩,
  ⟨0x410, 2, 4, 0xFFFFFFFF, 0, 0, 0⟩,
  ⟨0x418, 1, 4, 0x8037FFFF, 0, 0, 0x250000⟩,
  ⟨0x41C, 1, 4, 0xFF, 0, 0, 0x32⟩]

/-- The registers of the CRY page, type 0x41 (R560). -/
def regCRY : List Reg := [
  ⟨0x40, 1, 4, 0, 0, 0, 0⟩,
  ⟨0x44, 1, 4, 0, 0, 0, 0⟩,
  ⟨0x48, 1, 4, 0xFFFFFFFF, 0, 0, 0⟩,
  ⟨0x4C, 1, 4, 0xFFFFFFFF, 0, 0, 0⟩,
  ⟨0x50, 1, 4, 0xFFFFFFFF, 0, 0, 0⟩,
  ⟨0x54, 1, 4, 0xFFFFFFFF, 0, 0, 0⟩,
  ⟨0x58, 1, 4, 0, 0, 0, 0⟩,
  ⟨0x5C, 1, 4, 0, 0, 0, 0⟩]

/-- The registers of the BOND page, type 0x50 (R591). -/
def regBOND : List Reg := [
  ⟨0x40, 1, 4, 0, 0, 0, 0⟩,
  ⟨0x44, 1, 4, 0, 0, 0, 0⟩,
  ⟨0x48, 1, 4, 0, 0, 0, 0⟩,
  ⟨0x4C, 1, 4, 0, 0, 0, 0⟩,
  ⟨0x50, 2, 4, 0, 0, 0, 0⟩,
  ⟨0x58, 2, 4, 0, 0, 0, 0⟩,
  ⟨0x60, 1, 4, 0, 0, 0, 0⟩,
  ⟨0x64, 1, 4, 0, 0, 0xFFFFFFFF, 0⟩,
  ⟨0x68, 1, 4, 0, 0, 0xFFFFFFFF, 0⟩,
  ⟨0x6C, 1, 4, 0, 0, 0, 0⟩,
  ⟨0x70, 1, 4, 0, 0, 0, 0⟩,
  ⟨0x74, 1, 4, 0xFFFFFFFF, 0, 0, 0⟩,
  ⟨0x78, 1, 4, 0xFFFFFFFF, 0, 0, 0⟩,
  ⟨0x7C, 1, 4, 0, 0, 0, 0⟩,
  ⟨0x80, 1, 4, 0, 0, 0, 0⟩,
  ⟨0x84, 1, 4, 0, 0, 0xFFFFFFFF, 0⟩,
  ⟨0xC0, 0xC, 4, 0xFFFFFFFF, 0, 0, 0⟩,
  ⟨0x400, 1, 4, 0xFF00FC01, 0, 0, 0x3000000⟩,
  ⟨0x404, 1, 4, 0xFFFFFFFF, 0, 0, 0x2086414⟩,
  ⟨0x408, 1, 4, 0xFFFC01FF, 0, 0, 0xC900000⟩,
  ⟨0x40C, 1, 4, 0xFF01, 0, 0, 0xA00⟩,
  ⟨0x410, 1, 4, 0x3FFFFFF, 0, 0, 0⟩,
  ⟨0x414, 3, 4, 0xFFFFFFFF, 0, 0, 0⟩,
  ⟨0x420, 1, 4, 0xBF000000, 0, 0, 0⟩,
  ⟨0x424, 2, 4, 0xFFFFFFFF, 0, 0, 0⟩,
  ⟨0x430, 4, 4, 0xFFFFF07F, 0, 0, 0⟩]

/-- The layout of a page type. -/
def regTable (ty : Nat) : List Reg :=
  if ty = 0x01 then regSYS
  else if ty = 0x02 then regPWR
  else if ty = 0x03 then regCLK
  else if ty = 0x10 then regHSW
  else if ty = 0x11 then regHBR
  else if ty = 0x12 then regSOL
  else if ty = 0x13 then regSWI
  else if ty = 0x14 then regMEAS
  else if ty = 0x20 then regCAN
  else if ty = 0x21 then regLIN
  else if ty = 0x22 then regETH
  else if ty = 0x23 then regNSC
  else if ty = 0x30 then regKEY
  else if ty = 0x31 then regDMA
  else if ty = 0x32 then regMSG
  else if ty = 0x40 then regACC
  else if ty = 0x41 then regCRY
  else if ty = 0x50 then regBOND
  else []

/-- The element of an array at an offset. -/
def Reg.has (r : Reg) (off : Nat) : Bool := decide (r.off ≤ off ∧ off < r.off + r.n * r.step ∧ (off - r.off) % r.step = 0)

/-- The register is present on instance `i` of its page type: lead pages, SWI[0], CAN0 … CAN3, LIN0 … LIN3, unassigned WSETs. -/
def regPresent (ty i off : Nat) : Bool :=
  if ty = 0x10 then !(decide (off = 0x058 ∨ off = 0x424)) || (decide (i % 12 = 0) && decide (i < 48))
  else if ty = 0x13 then decide (i = 0) || !(decide (0x060 ≤ off ∧ off < 0x0A0 ∨ 0x404 ≤ off ∧ off < 0x440))
  else if ty = 0x20 then
    if off = 0x40C then decide (i < 2) else if off = 0x098 ∨ 0x418 ≤ off then decide (i < 4) else true
  else if ty = 0x21 then !(decide (off = 0x050 ∨ off = 0x410)) || decide (i < 4)
  else if ty = 0x02 then !(decide (off = 0x4C8 ∨ off = 0x4CC ∨ (0x4F0 ≤ off ∧ off < 0x500)))
  else true

/-- The register at offset `off` of page (`ty`, `i`), if the map assigns one. -/
def findReg (ty i off : Nat) : Option Reg :=
  if off < 0x40 then regHeader.find? (fun r => r.has off)
  else if regPresent ty i off then (regTable ty).find? (fun r => r.has off) else none

/-- The reset values of the wake sets (R450). -/
def wsetReset (off : Nat) : Word :=
  match (off - 0x480) / 8, off % 8 with
  | 0, 0 => 0x000C2002 | 1, 0 => 0x00142002 | 2, 0 => 0x00242002 | 3, 0 => 0x00442002
  | 4, 0 => 0x08042002 | 5, 0 => 0x08042002 | 6, 0 => 0x08042002 | 7, 0 => 0x08042002
  | 8, 0 => 0x20042002 | 10, 0 => 0x00042002 | 11, 0 => 0x00042002 | 12, 0 => 0x00040000
  | 13, 0 => 0x00042002 | 16, 0 => 0x00042002 | 17, 0 => 0x00042002
  | 10, 4 => 0x1200 | 11, 4 => 0x1600 | 12, 4 => 0 | 16, 4 => 0x1400
  | s, 4 => if s = 9 ∨ s = 14 ∨ s = 15 then 0 else 0x1000
  | _, _ => 0

/-- The Profile K preset of SOL[3] (R194). -/
def solPreset (off : Nat) : Option Word :=
  if off = 0x400 then some 0xC8032114
  else match (off - 0x440) % 0x20 with
    | 0x00 => some 0x00050096
    | 0x04 => some 0x9C400000
    | 0x08 => some 0x0000015E
    | 0x0C => some 0xA00A1E03
    | _ => none

/-- The reset value of register `off` of page (`ty`, `i`) under straps `straps`: the table's, or where it depends on the
instance (V), the straps (S) or the class of a channel, the value its chapter gives. -/
def pageReset (straps : Word) (ty i off : Nat) : Word :=
  let t : Word := match findReg ty i off with | some r => r.rst | none => 0
  let profK := straps.getLsbD 1
  if ty = 0x10 then
    let cls := if i < 48 then 0 else if i < 80 then 1 else 2
    if off = 0x414 then t ||| (match cls with | 0 => 0x014 | 1 => 0x032 | _ => 0x064)
    else if off = 0x418 then t ||| (match cls with | 0 => 0x2 | 1 => 0x5 | _ => 0x7)
    else t
  else if ty = 0x12 then (if i = 3 ∧ profK = true ∧ 0x400 ≤ off then (solPreset off).getD t else t)
  else if ty = 0x20 then
    if i = 0 ∧ profK = true then (if off = 0x400 then 0x401 else if off = 0x404 then 0x44122403 else t) else t
  else if ty = 0x22 then (if i = 1 then (if off = 0x400 then t ||| 2 else if off = 0x404 then 1 else t) else t)
  else if ty = 0x02 then
    if off = 0x408 then t ||| ((straps >>> (5 : Nat)) &&& 7)
    else if 0x480 ≤ off ∧ off < 0x510 then wsetReset off else t
  else t

/-- The reset value of the register at an address (R7). -/
def regReset (straps : Word) (a : Nat) : Word :=
  if a < 0x40000000 then 0
  else pageReset straps ((a - 0x40000000) / 0x100000) (a / 0x1000 % 0x100) (a % 0x1000)

/-- The registers held in PD00 although their page lies in another domain (R217, R381, R400, R413, R429, R431, R463, R488, R512,
R535): an exit from OFF leaves them and their staging areas as they stand. -/
def heldPd00 (ty i off : Nat) : Bool :=
  if ty = 0x01 then decide (0x080 ≤ off ∧ off < 0x0D0) || decide (off = 0x404)
  else if ty = 0x02 then decide (0x050 ≤ off)
  else if ty = 0x03 then decide (off = 0x044 ∨ off = 0x050 ∨ off = 0x054 ∨ 0x440 ≤ off)
  else if ty = 0x13 then decide (i = 0) && decide (off = 0x060 ∨ off = 0x064 ∨ (0x404 ≤ off ∧ off < 0x440))
  else if ty = 0x20 then decide (i < 4) && decide (off = 0x098 ∨ 0x418 ≤ off)
  else if ty = 0x21 then decide (i < 4) && decide (off = 0x050 ∨ off = 0x410)
  else if ty = 0x22 then decide (i = 0) && decide (off = 0x074 ∨ off = 0x408)
  else if ty = 0x23 then decide (off = 0x064 ∨ off = 0x414 ∨ off = 0x418)
  else if ty = 0x40 then decide (off = 0x06C ∨ off = 0x070 ∨ off = 0x07C ∨ 0x40C ≤ off)
  else false

/-- The event sources a page type defines, with source 31 (R42). -/
def evDefined (ty : Nat) : Word :=
  0x80000000 ||| (match ty with
  | 0x01 => 0x1 | 0x02 => 0xF | 0x03 => 0x7 | 0x10 => 0xFFF | 0x11 => 0x1FFF | 0x12 => 0x1FFFFFFF | 0x13 => 0x7F | 0x14 => 0x7F
  | 0x20 => 0x1FF | 0x21 => 0x7F | 0x22 => 0x3FF | 0x23 => 0x7F | 0x30 => 0xF | 0x31 => 0x3F | 0x32 => 0xF | 0x40 => 0x1FF
  | 0x41 => 0x7 | 0x50 => 0xFFF | _ => 0)

/-- The bits of a staged register that a write stores on this instance; XLEN exists on CAN0 and CAN1 only (R386). -/
def rwMask (ty i off : Nat) (r : Reg) : Word := if ty = 0x20 ∧ off = 0x400 ∧ 2 ≤ i then 0x757 else r.rw

end Sys2Proof.Machine
end

