-- ==== Sys2Proof/Machine/State.lean ====
section
/-!
DEFINITION. The state of the module as plain data, the reasons it may stop, and the state right after power-on reset.
Sparse maps are lists of key and value with keys strictly rising and no entry equal to its default; an instance that a
map does not list is at its reset values, which are the defaults of its record's fields.
-/
namespace Sys2Proof.Machine

/-! ## Power domains (chapter 15) -/

/-- The state of a power domain (R438). -/
inductive PwrState where
  | on | ret | off
  deriving DecidableEq, Repr

/-- One power domain: the fields that PG_PWR and PWR.DOM share (R40, R41). -/
structure Dom where
  state : PwrState := .on
  req : PwrState := .on
  busy : Bool := false
  refused : Bool := false
  deriving DecidableEq, Repr

/-- One domain change: its target, and whether a group or wake set asked for it (R441). -/
structure SeqChange where
  dom : Nat
  tgt : PwrState
  fromSet : Bool
  deriving DecidableEq, Repr

/-- A group command or a wake set: the domains still to come (R447, R450). -/
structure SeqSet where
  doms : List Nat
  tgt : PwrState
  group : Bool
  stop : Bool
  deriving DecidableEq, Repr

/-- The Plinth: the sequencer and its queue, the regulator mode, the wake target port, the RTC, and what the Plinth keeps
of the timebase (R441, R447, R451 … R458, R474). -/
structure Pwr where
  cur : Option SeqChange := none
  singles : List SeqChange := []
  sets : List SeqSet := []
  gdom : Nat := 0
  gres : Nat := 0
  lp : Bool := false
  wtpPtr : Nat := 0
  wtpSel : Bool := false
  wtpRead : Bool := false
  wreqLo : Word := 0
  wreqHi : Word := 0
  rtc : Nat := 0
  rtcFrac : Nat := 0
  t0 : Nat := 0
  c0 : Nat := 0
  deriving DecidableEq, Repr

/-! ## Feed groups and high-side channels (chapter 04) -/

/-- The supply of a power die from its feed: not yet started since power-on reset, present, or lost (R128). -/
inductive Supply where
  | por | on | lost
  deriving DecidableEq, Repr

/-- The behaviour of a power die across a controller reset (R500). -/
inductive DieMode where
  | normal | hold | fallback
  deriving DecidableEq, Repr

/-- One feed group and its power die: supply, under-voltage, restart delay, the filter running, the die's mode, and the instants at which the
filter and the delay started (R126). -/
structure Feed where
  supply : Supply := .por
  uv : Bool := false
  rstPend : Bool := false
  low : Bool := false
  mode : DieMode := .normal
  lowAt : Nat := 0
  rstAt : Nat := 0
  deriving DecidableEq, Repr

/-- The state of a high-side channel (R123). -/
inductive HswSt where
  | off | on | limit | retry | therm | lockout | wire | uvoff
  deriving DecidableEq, Repr

/-- The PWM schedule of a channel or unit (R105 … R107): the duty applied and the one before it, the instants at which PWM and the duty
were applied, the end of the present period, the channel's own epoch (all in CK_PWM cycles), whether the present period keeps its output
on to its end, and whether another period, offset or group was applied in it. -/
structure Pwm where
  duty : Nat := 0
  dutyWas : Nat := 0
  onAt : Nat := 0
  dutyAt : Nat := 0
  perEnd : Nat := 0
  epoch : Nat := 0
  stay : Bool := false
  moved : Bool := false
  deriving DecidableEq, Repr

/-- One high-side channel in its power die (R100 … R124): the command and duty in force, its state, the pending edge, the
output, the protection state and the PWM schedule; `edgeAt` is in µs; `limAt` the instant at which an inrush window ended while limiting
(R111), `ran` that the output conducted since the last update of the wire model and `allow` the allowed rise in K that update took (R118,
R121). -/
structure HswCh where
  cmd : Nat := 0
  pwm : Pwm := {}
  st : HswSt := .off
  pend : Bool := false
  edgeAt : Nat := 0
  pwmOld : Bool := false
  out : Bool := false
  retryLeft : Nat := 3
  tl : Bool := false
  thetaX : Nat := 0
  modelOff : Bool := false
  ol : Bool := false
  offSeen : Bool := false
  inrush : Bool := false
  acc : Bool := false
  fresh : Bool := false
  supplied : Bool := false
  flashOff : Bool := false
  limAt : Option Nat := none
  ran : Bool := false
  allow : Int := 0
  deriving DecidableEq, Repr

/-- The timers of a high-side channel in µs: the instant of their last accounting, the limit-time accumulator, the time driven without limiting
since the last limiting (R113), and the instants at which the retry delay (R115) and the inrush window (R111) started. -/
structure HswTime where
  since : Nat := 0
  limited : Nat := 0
  free : Nat := 0
  retryAt : Nat := 0
  inrAt : Nat := 0
  deriving DecidableEq, Repr

/-! ## Measurement groups (chapter 03) -/

/-- One measurement group: the round's index, the injection window (its channel, and whether a request runs it), the
request written and the request waiting for idle, whether the last boundary took a snapshot, and the channels that settle: the instant in
µs at which each began, plus 1 (R78, R82, R85, R88). -/
structure MeasG where
  idx : Nat := 0
  win : Option (Nat × Bool) := none
  reqNew : Option Nat := none
  reqWait : Option Nat := none
  prevSnap : Bool := false
  settle : List (Nat × Nat) := []
  deriving DecidableEq, Repr

/-! ## Half-bridges (chapter 05) -/

/-- The state of a half-bridge unit (R156); a unit's record holds every state but REG, which `regAct` makes of DRIVE, BRAKE and OFF. -/
inductive HbrSt where
  | off | drive | reg | brake | revdly | halt | trip | therm | uvoff | uvlock
  deriving DecidableEq, Repr

/-- What the switches of a unit do: all off; output A high and B low (a single half-bridge: high); A low and B high (single:
low); every low side on; every high side on. -/
inductive Sw where
  | open | fwd | rev | lows | highs
  deriving DecidableEq, Repr

/-- One half-bridge unit in its power die, kept under its lead half-bridge (R139 … R158): command applied, the command its switches
follow, state, cause, last driven direction (0 none, 1 FWD, 2 REV), pending switch change with its instant in µs, switches, the command at
a halt, regulation with the instant at which it last acted, PWM phase, the instants at which a reversal delay ends and the last drive
started, the stall accumulator in ms and the instant up to which it has counted. -/
structure HbrU where
  cmd : Nat := 0
  act : Nat := 0
  pwm : Pwm := {}
  st : HbrSt := .off
  cause : Nat := 0
  dir : Nat := 0
  pend : Bool := false
  edgeAt : Nat := 0
  sw : Sw := .open
  halted : Bool := false
  haltCmd : Nat := 0
  haltBrake : Bool := false
  regAct : Bool := false
  regAt : Nat := 0
  decay : Bool := false
  onPh : Bool := false
  revAt : Nat := 0
  driveAt : Nat := 0
  stallAcc : Nat := 0
  stallAt : Nat := 0
  deriving DecidableEq, Repr

/-! ## Valves and banks (chapter 06) -/

/-- The state of a valve (R189). -/
inductive ValveSt where
  | idle | wait | peak | hold | rel | trip | therm | uvoff
  deriving DecidableEq, Repr

/-- One valve in its power die (R170 … R191), instants in µs of `now`: command in force, the page's new FIRE of this frame, state, causes,
low side of a peak and its last edge, admission with its order, planned start of a deferred peak, peak start with the values it began
with, detection with its instant, peak passed; hold end of the peak, hold end kept across an under-voltage, last extension; on-time of the
present hold period in CK_SOL cycles and its start; ARM_T, DEFER_T; duty bins (the present one first), the instant up to which they count,
the instant at which their grid begins. -/
structure Valve where
  cmd : Nat := 0
  newFire : Bool := false
  st : ValveSt := .idle
  rejc : Nat := 0
  cause : Nat := 0
  queued : Bool := false
  holdLow : Bool := false
  tl : Bool := false
  ls : Bool := false
  lsAt : Nat := 0
  admitAt : Nat := 0
  planAt : Nat := 0
  ord : Nat := 0
  peakAt : Nat := 0
  iPeak : Nat := 0
  pkHys : Nat := 0
  tPeak : Nat := 0
  armCfg : Word := 0
  det : Bool := false
  detAt : Nat := 0
  passed : Bool := false
  holdEnd : Option Nat := none
  keepEnd : Option Nat := none
  extEnd : Option Nat := none
  holdOn : Nat := 0
  holdAt : Nat := 0
  armT : Word := 0xFFFF
  deferT : Nat := 0
  bins : List Nat := []
  binFrom : Nat := 0
  binOrg : Nat := 0
  deriving DecidableEq, Repr

/-- One solenoid bank (R169, R182, R187): the bank switch, its trip states and cause, the admission counter, the end of the
last peak. -/
structure Bank where
  sw : Bool := false
  trip : Bool := false
  therm : Bool := false
  cause : Nat := 0
  valve : Nat := 0
  ordNext : Nat := 0
  lastPeak : Option Nat := none
  deriving DecidableEq, Repr

/-! ## Switch inputs, parking poll, capacitive channels (chapter 07) -/

/-- One switch input (R207 … R213): debounced level, level and count of the agreeing samples, no debounced level yet since
PD41 came ON and the state kept until then, wetting source disconnected. -/
structure SwiIn where
  deb : Bool := false
  kept : Bool := false
  cl : Bool := false
  cnt : Nat := 0
  first : Bool := true
  disc : Bool := false
  deriving DecidableEq, Repr

/-- The copies that the Plinth keeps for a parking slot, and its count of differing polls, and that it has met the wake rule (R214, R216). -/
structure ParkSlot where
  tsel : Nat := 0
  wdir : Bool := false
  inv : Bool := false
  cnt : Nat := 0
  met : Bool := false
  deriving DecidableEq, Repr

/-- One capacitive channel (R219 … R223): baseline, last raw value, baseline set, confirming samples to come, samples since
the last drift step, consecutive values out of and within range. -/
structure Cap where
  base : Nat := 0
  raw : Nat := 0
  based : Bool := false
  confirm : Nat := 0
  drift : Nat := 0
  bad : Nat := 0
  good : Nat := 0
  deriving DecidableEq, Repr

/-! ## Olkor cores (chapters 08, 09) -/

/-- The four flags (R240). -/
structure Flags where
  n : Bool := false
  z : Bool := false
  v : Bool := false
  c : Bool := false
  deriving DecidableEq, Repr

/-- What a core does: held in reset, running code, free (R303), or halted (R263). -/
inductive CorePhase where
  | reset | run | free | halted
  deriving DecidableEq, Repr

/-- A late write of a far-sourced instruction: instructions still to end before it lands, the bytes, the flags (R245, R269). -/
structure Late where
  left : Nat
  addr : Nat
  size : Nat
  data : Nat
  flags : Option Flags
  deriving DecidableEq, Repr

/-- A product on its way to `P_k` (R251). -/
structure LateP where
  left : Nat
  k : Nat
  val : BitVec 256
  deriving DecidableEq, Repr

/-- A repeat prefix in progress: interruptible, the prefix's address, iterations left (REP) or the count word (REPI), the
prefix was skipped, an iteration has run (R275 … R278). -/
structure Rep where
  irq : Bool
  pc : Word
  left : Nat
  word : Nat
  skip : Bool
  deriving DecidableEq, Repr

/-- One Olkor core: program counter, flags, the control registers of R258, the products, what is still to land, the
reservation, the repeat in progress, the context it holds, the entries since one that found it free, the access it hangs on, the
instant from which its watchdog counts. -/
structure Olk where
  phase : CorePhase := .reset
  pc : Word := 0
  flags : Flags := {}
  sup : Bool := true
  ie : Bool := false
  exl : Bool := false
  pmode : Bool := true
  pie : Bool := false
  vbase : Word := 0
  swslot : Nat := 0xFF
  wslot : Nat := 0
  epc : Word := 0
  ecause : Word := 0
  eaddr : Word := 0
  eflags : Flags := {}
  prods : List (Nat × BitVec 256) := []
  late : List Late := []
  lateP : List LateP := []
  resv : Option Nat := none
  rep : Option Rep := none
  ctx : Option Nat := none
  nest : Nat := 0
  hang : Option CoreInstr := none
  wdgAt : Nat := 0
  deriving DecidableEq, Repr

/-! ## Keystone (chapter 10) -/

/-- The state of a task context (R300). -/
inductive CtxSt where
  | disabled | idle | held | ready | running | stopped
  deriving DecidableEq, Repr

/-- One access grant (R291). -/
structure Grant where
  base : Nat
  k : Nat
  rd : Bool
  wr : Bool
  ex : Bool
  deriving DecidableEq, Repr

/-- One task context: its state, what ENABLE loaded from the record, its pc and release frame while it is on no core, its
activation (kind and line of its cause, predecessors still awaited, first dispatch done, pages delivered, MORE), the
cause kept, the deadline in µs of the timebase (R291 … R307). -/
structure Ctx where
  st : CtxSt := .disabled
  core : Nat := 0
  act : Nat := 0
  desc : Nat := 0
  grants : List Grant := []
  pc : Word := 0
  rel : Nat := 0
  kind : Nat := 0
  line : Nat := 0
  waits : List Nat := []
  begun : Bool := false
  got : List Nat := []
  more : Bool := false
  kept : Option (Nat × Nat) := none
  deadline : Option Nat := none
  dlFrame : Nat := 0
  late : Bool := false
  ovrAt : Option Nat := none
  deriving DecidableEq, Repr

/-- The target and the software latch of an event line (R308, R309). -/
structure EvLine where
  tk : Nat := 0
  tgt : Nat := 0
  sw : Bool := false
  deriving DecidableEq, Repr

/-- What Keystone gathers for the mark of the present frame (R312): an overrun of a deterministic context, the first context to overrun in
it, a context that still runs after an earlier overrun, a TAKE or PUT that failed for one, and deterministic mode applied at the boundary
that began the frame. -/
structure KeyG where
  ovr : Bool := false
  first : Option Nat := none
  ovrCtx : Nat := 0
  page : Bool := false
  mode : Bool := false
  deriving DecidableEq, Repr

/-! ## Ashlar (chapter 10) -/

/-- The owner of a page (R315). -/
inductive Owner where
  | free
  | queue (q : Nat)
  | ctx (n : Nat)
  | front (ty inst : Nat)
  | dma (n : Nat)
  | sup (core : Nat)
  | bond
  deriving DecidableEq, Repr

/-- One Ashlar page: owner and link (R315). -/
structure Page where
  own : Owner := .free
  next : Option Nat := none
  deriving DecidableEq, Repr

/-- One chain in a queue: its first page, the frame at which it joined, the putting context (256 for others), and the
release frame of that context's activation (R318, R320). -/
structure QItem where
  page : Nat
  stamp : Nat
  who : Nat
  whoRel : Nat
  deriving DecidableEq, Repr

/-! ## DMA channels (chapter 11) -/

/-- The state of a DMA channel (R338). -/
inductive DmaSt where
  | idle | armed | run | wait | halt
  deriving DecidableEq, Repr

/-- One DMA channel: state, cause of the last halt, the descriptor in progress (its two quadwords as read), bytes left of the unit in
progress, chains left to drain, data read and not yet written, repetitions left of a failed access, the pages of the chain it drains
(the present one first) or builds, the item it drains, gate, STOP accepted, hung, ABORT and START that wait for the hang's end;
`restart` of an armed channel: CFG.EVERY armed it (R331 … R347). -/
structure DmaCh where
  st : DmaSt := .idle
  cause : Nat := 0
  desc : Option (Nat × Nat) := none
  unit : Nat := 0
  cnt : Nat := 0
  hold : Option Nat := none
  retry : Option Nat := none
  pages : List Nat := []
  item : Option QItem := none
  gate : Bool := false
  stop : Bool := false
  hung : Bool := false
  abort : Bool := false
  restart : Bool := false
  deriving DecidableEq, Repr

/-! ## CAN channels (chapter 12) -/

/-- A transmit entry: its first page and the header words as read at the load (R365). -/
structure TxEntry where
  page : Nat
  hdr : List Nat
  deriving DecidableEq, Repr

/-- One transmit buffer: its entry, in transmission, last outcome, attempts, abort requested (R365 … R370). -/
structure Txb where
  ent : Option TxEntry := none
  act : Bool := false
  res : Nat := 0
  att : Nat := 0
  abort : Bool := false
  deriving DecidableEq, Repr

/-- One CAN channel: mode and transceiver mode in force, the mode a running switch window leads to, SLEEP waits for bus idle,
integrating, bus idle, error counters, bus-off and its recovery, last error, entry count, buffers, fallback queue, duplicate
monitor, a frame won by another node is being received, the configuration set that waits for bus idle (R357 … R385). -/
structure CanCh where
  mode : Nat := 0
  trx : Nat := 2
  mswin : Option Nat := none
  slpReq : Bool := false
  integ : Bool := false
  idle : Bool := false
  tec : Nat := 0
  rxc : Nat := 0
  boff : Bool := false
  recov : Bool := false
  lec : Nat := 0
  seq : Nat := 0
  txb : List (Nat × Txb) := []
  queue : List TxEntry := []
  qAct : Bool := false
  qAbort : Bool := false
  lastRes : Nat := 0
  dupId : Option (Nat × Nat) := none
  dupCnt : Nat := 0
  dupHit : Bool := false
  rxAct : Bool := false
  defer : Option (List (Nat × Word)) := none
  deriving DecidableEq, Repr

/-! ## LIN channels and Ethernet ports (chapter 13) -/

/-- A LIN header in progress: sent by this channel, the table entry that applies, the protected identifier received and whether
its parity is right, the channel publishes the response, the identifier on the bus is not the one it sent. -/
structure LinCur where
  own : Bool
  entry : Nat
  pid : Option Nat
  parity : Bool
  pub : Bool
  bit : Bool
  deriving DecidableEq, Repr

/-- One LIN channel: mode in force, transceiver in SLEEP, the state a running switch window leads to (true SLEEP), SLEEP waits for bus
idle, entry count, schedule running, stopped by a bad entry, its index, entry 0 comes next, the instant of the next slot in µs, that slot
waits for the end of a frame, the header in progress, the configuration set that waits, and whether for the end of the round rather than for
bus idle, length of the last wake pulse in 100 µs (R390 … R402). -/
structure LinCh where
  mode : Nat := 0
  sleep : Bool := true
  mswin : Option Bool := none
  slpReq : Bool := false
  seq : Nat := 0
  run : Bool := false
  bad : Bool := false
  idx : Nat := 0
  first : Bool := false
  slotAt : Nat := 0
  slip : Bool := false
  cur : Option LinCur := none
  defer : Option (List (Nat × Word)) := none
  deferRound : Bool := false
  pulse : Nat := 0
  deriving DecidableEq, Repr

/-- A frame that the Bond link sends (R565, R566): type, flags, source, destination, count, system frame number, destination queue of a MSG
(the header has no place for it, log entry 79), payload. -/
structure BondTx where
  typ : Nat
  flags : Nat
  src : Nat
  dst : Nat
  seq : Nat
  sfn : Nat
  dq : Nat
  data : List Byte
  deriving DecidableEq, Repr

/-- One Ethernet port: TC10 state (0 NORMAL, 1 SLPNEG, 2 SLEEP, 3 WAKING), link, role, signal quality, switch window, partner's sleep
request, queues, frame in transmission (queue 0, 1, or 2 the Bond link), Bond frames that wait, last outcome, entry count,
the last TC10 signal sent (1 sleep request, 2 acknowledge, 3 reject, 4 WUP, 5 WUR) (R405 … R415). -/
structure EthP where
  tc : Nat := 2
  link : Bool := false
  role : Nat := 0
  sqi : Nat := 0
  mswin : Bool := false
  preq : Bool := false
  q0 : List TxEntry := []
  q1 : List TxEntry := []
  act : Option Nat := none
  bond : List BondTx := []
  lastRes : Nat := 0
  seq : Nat := 0
  sent : Nat := 0
  deriving DecidableEq, Repr

/-! ## Network sleep coordinator (chapter 14) -/

/-- The coordinator: state code, latch, limit, last honoured keep, ETH members that R424 switched OFF, members whose re-wake waits for
their domain, wakes that wait for PD18; the fail-safe count: loaded once, running since; on the timebase, the hold instant, the entry into
PREP and the last whole second of AWAKE_T (R417 … R433). -/
structure Nsc where
  st : Nat := 0
  latch : Bool := false
  limit : Bool := false
  keep : Nat × Nat := (0, 0)
  wroteOff : List Nat := []
  todo : List Nat := []
  wakes : List Nat := []
  fsLoaded : Bool := false
  fsFrom : Option Nat := none
  holdAt : Nat := 0
  prepAt : Nat := 0
  awFrom : Nat := 0
  deriving DecidableEq, Repr

/-! ## Access front end (chapter 18) -/

/-- One slot of the slot store: its flags, token identity, button counter and key (R517). -/
structure Slot where
  en : Bool := false
  immo : Bool := false
  btn : Bool := false
  tid : Nat := 0
  cnt : Nat := 0
  key : List Byte := []
  deriving DecidableEq, Repr

/-- A poll: its cause code, touch channel, antennas, slots still to visit (the present one first), the attempt (further
attempts run, challenge, the end of its telegram in µs, antennas that faulted), outcomes, signal strengths, logged telegrams (R522 … R527). -/
structure Poll where
  cause : Nat
  cap : Nat
  ant : Nat
  slots : List Nat
  tries : Nat := 0
  chal : Option (List Byte) := none
  txEnd : Nat := 0
  faults : Nat := 0
  out : Nat := 0
  rssi : Nat := 0
  imm : List Nat := []
  logs : List (List Byte) := []
  deriving DecidableEq, Repr

/-- The access front end: the slot store with its counter and completion mark, the poll, the learn's ticket with LEARN_ADDR bad,
reports stored, listening after a wake by source 16, its start, that wake, the end of the authorisation window, the instant from which touch
samples run after an LF telegram; times in µs (R514 … R535). -/
structure Acc where
  slots : List (Nat × Slot) := []
  lctr : Nat := 0
  mark : Bool := true
  poll : Option Poll := none
  learn : Option (List Byte) := none
  learnBad : Bool := false
  seq : Nat := 0
  ul : Bool := false
  ulAt : Nat := 0
  uwWake : Bool := false
  authEnd : Nat := 0
  lfClear : Nat := 0
  deriving DecidableEq, Repr

/-! ## Crypto engine (chapter 19) -/

/-- An operation of the crypto engine as started: OP, SRC, LEN, DST, ARG (R556). -/
structure CryOp where
  op : Nat
  src : Nat
  len : Nat
  dst : Nat
  arg : Nat
  deriving DecidableEq, Repr

/-- The crypto engine: the operation that runs, the last result and OP, and the learn verification that waits (R556, R557). -/
structure Cry where
  run : Option CryOp := none
  result : Nat := 0
  lastOp : Nat := 0
  lrnWait : Bool := false
  deriving DecidableEq, Repr


/-! ## Waiting accesses, resets and startup (chapters 16, 17) -/

/-- An access that waits at the edge of a domain that is not ON (R482): its initiator, address, width in bytes, direction, data. -/
structure Hung where
  ini : Initiator
  a : Nat
  n : Nat
  wr : Bool
  data : Nat
  deriving DecidableEq, Repr

/-- The user fallback record as read at step 5 (R503): flash phases in ms, SOLKEEP, the MODE fields. -/
structure Fallback where
  flOn : Nat
  flOff : Nat
  keep : Nat
  modes : Nat
  deriving DecidableEq, Repr

/-- Resets requested and not yet asserted, with their RST_CAUSE bits and CRST causes (R492, R494); an accepted release (R504); the
instant of the last assertion; the fallback record as step 5 read it last, and as the reset that holds the outputs found it; what the FLASH
channels do, and the start of their phase; step 6 runs (R506); the module has no supply (R633). -/
structure Rst where
  ctrl : Bool := false
  causes : Nat := 0
  cores : List (Nat × Nat) := []
  rel : Bool := false
  holdAt : Nat := 0
  fb : Option Fallback := none
  fbUse : Option Fallback := none
  flashOn : Bool := false
  flashAt : Nat := 0
  verify : Bool := true
  off : Bool := false
  deriving DecidableEq, Repr

/-! ## Bond link (chapter 20) -/

/-- A mirror or message frame of the Bond link that a comparison or a ring needs: its SFN and payload. -/
structure BFrame where
  sfn : Nat
  data : List Byte
  deriving DecidableEq, Repr

/-- An entry that counts in the received-message digest of the present frame (R582): member index, instant of completion in µs, bytes. -/
structure RxDig where
  idx : Nat
  at_ : Nat
  data : List Byte
  deriving DecidableEq, Repr

/-- The Bond link, the pair and the Quoin line: time state code, system time minus timebase in ns, lead, heard set with the boundaries since
each beacon, silent after an address clash, Sync and Pdelay exchanges completed and the instant of the last Sync, the lead's frame length,
boundaries within tolerance, the present frame is an alignment frame, frames sent; pair state code, gate closed, takeover delay runs and
since when; mirrors: the window of this boundary is open, present at it, MIRRX, boundaries missed and met in a row, partner present,
mismatches in a row, ALONE has split; MIROUTs waiting for their pair; entries for the digest; entries stored; the last RESP sent
(requester, REQSEQ, RES, data); the access of the remote engine that waits; the request outstanding (SEQ, write) and its instant; the Quoin
line. Instants in µs. -/
structure Bond where
  ts : Nat := 0
  ofs : Int := 0
  lead : Nat := 0
  heard : List (Nat × Nat) := []
  silent : Bool := false
  syncs : Nat := 0
  syncAt : Nat := 0
  pdelay : Bool := false
  leadLen : Option Nat := none
  tolRun : Nat := 0
  aln : Bool := false
  seq : Nat := 0
  pst : Nat := 0
  closed : Bool := false
  delay : Bool := false
  delayAt : Nat := 0
  mirOpen : Bool := false
  mirNow : Bool := false
  mirRx : Bool := false
  miss : Nat := 0
  met : Nat := 0
  present : Bool := false
  mmRun : Nat := 0
  split : Bool := false
  own : Option BFrame := none
  peer : Option BFrame := none
  rxs : List RxDig := []
  rseq : Nat := 0
  resp : Option (Nat × Nat × Nat × Nat) := none
  wait : Option (Nat × Nat) := none
  rq : Option (Nat × Bool) := none
  rqAt : Nat := 0
  kick : Bool := false
  qOut : Bool := false
  qAlive : Bool := false
  qAt : Nat := 0
  deriving DecidableEq, Repr

/-! ## The module -/

/-- Everything but the command queue and the byte memory. -/
structure Hw where
  straps : Word := 0
  now : Nat := 0
  timebase : Nat := 0
  tbCopy : Nat := 0
  frame : Nat := 0
  frameStart : Nat := 0
  frameLen : Nat := 1000
  freeCnt : Nat := 0
  regs : List (Nat × Word) := []
  applied : List (Nat × Word) := []
  dieCfg : List (Nat × Word) := []
  doms : List (Nat × Dom) := []
  pwr : Pwr := {}
  feeds : List (Nat × Feed) := []
  hsw : List (Nat × HswCh) := []
  hswT : List (Nat × HswTime) := []
  epochs : List (Nat × Nat) := []
  meas : List (Nat × MeasG) := []
  newSince : List (Nat × Bool) := []
  hbr : List (Nat × HbrU) := []
  hbrTl : List (Nat × Bool) := []
  valves : List (Nat × Valve) := []
  banks : List (Nat × Bank) := []
  swi : List (Nat × SwiIn) := []
  swiAt : List (Nat × Nat) := []
  park : List (Nat × ParkSlot) := []
  caps : List (Nat × Cap) := []
  olk : List (Nat × Olk) := []
  ctxs : List (Nat × Ctx) := []
  lines : List (Nat × EvLine) := []
  key : KeyG := {}
  pages : List (Nat × Page) := []
  queues : List (Nat × List QItem) := []
  dma : List (Nat × DmaCh) := []
  dmaTurn : List (Nat × Nat) := []
  can : List (Nat × CanCh) := []
  lin : List (Nat × LinCh) := []
  eth : List (Nat × EthP) := []
  nsc : Nsc := {}
  acc : Acc := {}
  cry : Cry := {}
  hung : List Hung := []
  waits : List Initiator := []
  rst : Rst := {}
  bond : Bond := {}
  reply : Nat := 0
  deriving DecidableEq, Repr

/-- The byte memory: what each domain's memory lost, counted, and the bytes that differ from what an unlisted address reads
(R29, R438). -/
structure Mem where
  lost : List (Nat × Nat) := []
  cells : List Host.Cell := []
  deriving DecidableEq, Repr

/-- The module but for its command queue. -/
structure Mach where
  mem : Mem := {}
  hw : Hw := {}
  deriving DecidableEq, Repr

/-- The reasons a step may stop with a fault: none; every fault of the module is part of its behaviour. -/
inductive Fault where
  /-- Raised by nobody; a bus error, an exception or a trip is a next state (safe). -/
  | unreachable
  deriving DecidableEq, Repr

/-- The reasons a command may be refused by the model. -/
inductive Refusal where
  /-- Raised by the dispatch for a command that has no meaning yet, by name (safe). -/
  | notModelled (mnemonic : String)
  deriving DecidableEq, Repr

/-- The state: the commands that wait, oldest first, and the module. -/
structure State where
  pending : List Instr := []
  m : Mach := {}
  deriving DecidableEq, Repr

/-- The module right after power-on reset (R439, R491, R506): every field at its reset value, no command waiting. -/
def State.reset : State := {}

end Sys2Proof.Machine
end

