-- ==== Sys2Proof/Machine/Ops.lean ====
section
/-!
DEFINITION. The named operations every meaning is built from: sparse maps in canonical form, bit fields, the calibration
arithmetic of R62 and R63, registers and applied configuration of the peripheral pages (chapter 02), event sources
(R42, R43), error flags, time, domain requests and the byte memory.
-/
namespace Sys2Proof.Machine

/-! ## Sparse maps: keys strictly rising, no entry equal to its default -/

/-- The value at key `k`, the default `d` where the map lists nothing. -/
def smGet {α : Type} (d : α) : List (Nat × α) → Nat → α
  | [], _ => d
  | (j, v) :: r, k => if j = k then v else smGet d r k

/-- Insert or replace the value at `k`, keeping the keys rising. -/
def smIns {α : Type} (k : Nat) (v : α) : List (Nat × α) → List (Nat × α)
  | [] => [(k, v)]
  | (j, w) :: r => if k < j then (k, v) :: (j, w) :: r else if j = k then (k, v) :: r else (j, w) :: smIns k v r

/-- Take the key `k` out of the map. -/
def smErase {α : Type} (k : Nat) (m : List (Nat × α)) : List (Nat × α) := m.filter (fun e => decide (e.1 ≠ k))

/-- Set key `k` to `v`; writing the default `d` of that key removes the entry. -/
def smPut {α : Type} [DecidableEq α] (d : α) (k : Nat) (v : α) (m : List (Nat × α)) : List (Nat × α) :=
  if v = d then smErase k m else smIns k v m

/-- Replace the keys `lo ≤ k < hi` of `dst` by those of `src`. -/
def smCopyRange {α : Type} (lo hi : Nat) (src dst : List (Nat × α)) : List (Nat × α) :=
  dst.filter (fun e => decide (e.1 < lo)) ++
    (src.filter (fun e => decide (lo ≤ e.1 ∧ e.1 < hi)) ++ dst.filter (fun e => decide (hi ≤ e.1)))

/-- The canonical form: keys strictly rising, no entry equal to the default of its key. -/
def smWf {α : Type} [DecidableEq α] (dflt : Nat → α) : List (Nat × α) → Bool
  | [] => true
  | [(k, v)] => decide (v ≠ dflt k)
  | (k, v) :: (j, w) :: r => decide (v ≠ dflt k) && decide (k < j) && smWf dflt ((j, w) :: r)

/-! ## Bit fields -/

/-- The `n`-bit field of `w` that begins at bit `lo`. -/
def fld (w : Word) (lo n : Nat) : Nat := (w.toNat >>> lo) % 2 ^ n

/-- `w` with its `n`-bit field at bit `lo` set to `v` modulo `2 ^ n`. -/
def setFld (w : Word) (lo n v : Nat) : Word :=
  let mask : Word := BitVec.ofNat 32 ((2 ^ n - 1) <<< lo)
  (w &&& ~~~mask) ||| BitVec.ofNat 32 ((v % 2 ^ n) <<< lo)

/-- Bit `i` of `w`. -/
def bit (w : Word) (i : Nat) : Bool := w.getLsbD i

/-- `w` with bit `i` set to `b`. -/
def setBit (w : Word) (i : Nat) (b : Bool) : Word := setFld w i 1 b.toNat

/-- The signed value of the low `n` bits of `v`. -/
def sext (n v : Nat) : Int := let u := v % 2 ^ n; if u < 2 ^ (n - 1) then (u : Int) else (u : Int) - (2 ^ n : Nat)

/-- Saturation to `lo … hi`. -/
def clampInt (lo hi v : Int) : Int := if v < lo then lo else if hi < v then hi else v

/-- Saturation to the signed 24-bit range of R63. -/
def sat24 (v : Int) : Int := clampInt (-8388608) 8388607 v

/-- The 24-bit field that holds a signed value. -/
def field24 (v : Int) : Nat := (v % 16777216).toNat

/-- One stage of R62: `((v × g) >> 20) + o`, saturated as R63 states; the shift rounds toward minus infinity. -/
def calStage (v : Int) (g : Nat) (o : Int) : Int := sat24 ((v * (g : Int)) / 1048576 + o)

/-- The calibration overlay of R62. -/
def overlay (raw : Int) (fg : Nat) (fo : Int) (ug : Nat) (uo : Int) : Int := calStage (calStage raw fg fo) ug uo

/-! ## Page addresses (R29, R30) -/

/-- The base address of a page: 0x4000_0000 + (type << 20) + (instance << 12). -/
def pg (ty i : Nat) : Nat := 0x40000000 + ty * 0x100000 + i * 0x1000

/-- The type code of the page an address lies on. -/
def pgType (a : Nat) : Nat := (a - 0x40000000) / 0x100000

/-- The instance of the page an address lies on. -/
def pgInst (a : Nat) : Nat := a / 0x1000 % 0x100

/-- The offset of an address within its page. -/
def pgOff (a : Nat) : Nat := a % 0x1000

/-- The feed group, measurement group and power die of a high-side channel (R11). -/
def hswGroup (n : Nat) : Nat := if n < 48 then n / 12 else if n < 80 then (n - 48) / 8 else (n - 80) / 4

/-- The power domain of a page, where the page is populated (R30). -/
def pageDomain (ty i : Nat) : Option Nat :=
  if ty = 0x01 ∨ ty = 0x02 ∨ ty = 0x03 ∨ ty = 0x23 ∨ ty = 0x30 then (if i = 0 then some 18 else none)
  else if ty = 0x10 then (if i < 96 then some (35 + hswGroup i) else none)
  else if ty = 0x11 then (if i < 24 then some 39 else none)
  else if ty = 0x12 then (if i < 4 then some 40 else none)
  else if ty = 0x13 then (if i < 4 then some 41 else none)
  else if ty = 0x14 then (if i < 4 then some (31 + i) else none)
  else if ty = 0x20 then (if i < 8 then some (19 + i) else none)
  else if ty = 0x21 then (if i < 8 then some 27 else if i < 16 then some 28 else none)
  else if ty = 0x22 then (if i < 2 then some (29 + i) else none)
  else if ty = 0x31 then (if i < 64 then some 18 else none)
  else if ty = 0x32 then (if i = 0 then some 17 else none)
  else if ty = 0x40 then (if i = 0 then some 42 else none)
  else if ty = 0x41 then (if i = 0 then some 43 else none)
  else if ty = 0x50 then (if i = 0 then some 30 else none)
  else none

/-! ## Power domains as the other blocks see them (R438) -/

/-- The record of domain `d`. -/
def dom (h : Hw) (d : Nat) : Dom := smGet {} h.doms d

/-- `h` with the record of domain `d` replaced. -/
def setDom (h : Hw) (d : Nat) (r : Dom) : Hw := { h with doms := smPut {} d r h.doms }

/-- Domain `d` is ON. -/
def domOn (h : Hw) (d : Nat) : Bool := decide ((dom h d).state = .on)

/-- Domain `d` takes new accesses: it is ON and no entry has passed step 2 (R442, R482). -/
def domOpen (h : Hw) (d : Nat) : Bool := domOn h d && !(dom h d).busy

/-- The page's domain is ON, so its registers live (R39). -/
def pageOn (h : Hw) (ty i : Nat) : Bool := match pageDomain ty i with | some d => domOn h d | none => false

/-! ## Registers of the peripheral pages -/

/-- The stored bits of the register at address `a`; an unlisted register reads its reset value (R7). -/
def rdA (h : Hw) (a : Nat) : Word := smGet (regReset h.straps a) h.regs a

/-- Store the register at address `a`. -/
def wrA (h : Hw) (a : Nat) (v : Word) : Hw := { h with regs := smPut (regReset h.straps a) a v h.regs }

/-- The stored bits of register `off` of page (`ty`, `i`). -/
def rd (h : Hw) (ty i off : Nat) : Word := rdA h (pg ty i + off)

/-- Store register `off` of page (`ty`, `i`). -/
def wr (h : Hw) (ty i off : Nat) (v : Word) : Hw := wrA h (pg ty i + off) v

/-- Set one field of a register. -/
def wrF (h : Hw) (ty i off lo n v : Nat) : Hw := wr h ty i off (setFld (rd h ty i off) lo n v)

/-- The applied configuration behind a staged register (R49, R56). -/
def cfgA (h : Hw) (a : Nat) : Word := smGet (regReset h.straps a) h.applied a

/-- The applied configuration behind staged register `off` of page (`ty`, `i`). -/
def cfg (h : Hw) (ty i off : Nat) : Word := cfgA h (pg ty i + off)

/-- A field of the applied configuration. -/
def cfgF (h : Hw) (ty i off lo n : Nat) : Nat := fld (cfg h ty i off) lo n

/-- Increase an `n`-bit field at `lo` of a register by `k`, saturating at its largest value. -/
def incSat (h : Hw) (ty i off lo n k : Nat) : Hw :=
  wrF h ty i off lo n (min (2 ^ n - 1) (fld (rd h ty i off) lo n + k))

/-- Increase an `n`-bit field at `lo` of a register by 1, modulo `2 ^ n`. -/
def incWrap (h : Hw) (ty i off lo n : Nat) : Hw := wrF h ty i off lo n (fld (rd h ty i off) lo n + 1)

/-- The staged values of page (`ty`, `i`) as they stand, as one set (R51). -/
def stagedSet (h : Hw) (ty i : Nat) : List (Nat × Word) :=
  h.regs.filter (fun e => decide (pg ty i + 0x400 ≤ e.1 ∧ e.1 < pg ty i + 0x800))

/-- The set `l` becomes the applied configuration of page (`ty`, `i`), and CCOUNT advances with it (R50, R51). -/
def applySet (ty i : Nat) (l : List (Nat × Word)) (h : Hw) : Hw :=
  incWrap { h with applied := smCopyRange (pg ty i + 0x400) (pg ty i + 0x800) l h.applied } ty i 0x00C 16 8

/-! ## Event sources and error flags (R42, R43, R45) -/

/-- Offsets of the common header (R38). -/
abbrev oTYPE : Nat := 0x000
abbrev oPWR : Nat := 0x008
abbrev oCOMMIT : Nat := 0x00C
abbrev oRAW : Nat := 0x010
abbrev oSTAT : Nat := 0x014
abbrev oEN : Nat := 0x018
abbrev oSET : Nat := 0x01C
abbrev oERR : Nat := 0x020
abbrev oLOCK : Nat := 0x024
abbrev oROUTE : Nat := 0x028
abbrev oSNAP : Nat := 0x02C

/-- Source `n` of a page pulses: EV_STAT[n] is set. A page whose domain is not ON latches nothing. -/
def pulse (h : Hw) (ty i n : Nat) : Hw :=
  if pageOn h ty i then wr h ty i oSTAT (setBit (rd h ty i oSTAT) n true) else h

/-- Source `n` of a page takes level `b`; a change from 0 to 1 sets EV_STAT[n]. -/
def level (h : Hw) (ty i n : Nat) (b : Bool) : Hw :=
  if pageOn h ty i then
    let was := bit (rd h ty i oRAW) n
    let h1 := wr h ty i oRAW (setBit (rd h ty i oRAW) n b)
    if b && !was then pulse h1 ty i n else h1
  else h

/-- Source 31 follows ERR_STAT ≠ 0 (R42). -/
def errLevel (h : Hw) (ty i : Nat) : Hw := level h ty i 31 (decide (rd h ty i oERR ≠ 0))

/-- Set bit `n` of ERR_STAT of a page. -/
def err (h : Hw) (ty i n : Nat) : Hw :=
  if pageOn h ty i then errLevel (wr h ty i oERR (setBit (rd h ty i oERR) n true)) ty i else h

/-- The page's event output: 1 while any bit of EV_STAT AND EV_EN is 1 (R43); clamped to 0 while its domain is not ON. -/
def evOut (h : Hw) (ty i : Nat) : Bool := pageOn h ty i && decide (rd h ty i oSTAT &&& rd h ty i oEN ≠ 0)

/-- Apply `f` for every `i < n`, in order. -/
def forN (n : Nat) (f : Nat → Hw → Hw) (h : Hw) : Hw := (List.range n).foldl (fun a i => f i a) h

/-- Apply `f` for every element of a list, in order. -/
def forL {α : Type} (l : List α) (f : α → Hw → Hw) (h : Hw) : Hw := l.foldl (fun a x => f x a) h

/-- The elements of a list, each once, in order of first appearance. -/
def distinct : List Nat → List Nat
  | [] => []
  | a :: r => a :: (distinct r).filter (fun b => decide (b ≠ a))

/-! ## Bus errors (R31, R32) -/

/-- The code of an initiator in BUSERR_SRC.INIT (R65). -/
def iniCode : Initiator → Nat
  | .core c => c.val
  | .dma n => 0x10 + n.val
  | .bond => 0x50
  | .debug => 0x60

/-- Record a bus error, unless BUSERR_SRC already holds one (R32); source 0 is set as VALID goes to 1 (R65). -/
def busErr (h : Hw) (ini : Initiator) (a : Nat) (isWr : Bool) (kind : Nat) : Hw :=
  if bit (rd h 1 0 0x064) 31 then h
  else
    let src := BitVec.ofNat 32 (0x80000000 + kind * 0x200 + isWr.toNat * 0x100 + iniCode ini)
    pulse (wr (wr h 1 0 0x060 (BitVec.ofNat 32 a)) 1 0 0x064 src) 1 0 0

/-- Initiator `ini` begins to wait at the edge of a domain, the last of those that wait (R35, R482). -/
def arrive (ini : Initiator) (h : Hw) : Hw := { h with waits := h.waits.filter (fun i => decide (i ≠ ini)) ++ [ini] }

/-! ## Time (R13, R472, R456) -/

/-- `us` microseconds pass: the timebase counts while PD18 is ON, the blocks' own copies of it go on (R472), CK_LPO counts always (R456). -/
def advance (us : Nat) (h : Hw) : Hw :=
  let frac := h.pwr.rtcFrac + us * 32768
  { h with
    now := h.now + us
    timebase := if domOn h 18 then (h.timebase + us) % 2 ^ 64 else h.timebase
    tbCopy := (h.tbCopy + us) % 2 ^ 64
    pwr := { h.pwr with rtcFrac := frac % 1000000, rtc := (h.pwr.rtc + frac / 1000000) % 2 ^ 48 } }

/-! ## Domain requests and the sequencer's queue (R440, R441, R447) -/

/-- A group or wake set whose last domain is done ends; a completed group reads GRES 0b01 and pulses GRPDONE (R447). -/
def endSet (h : Hw) (g : SeqSet) (res : Nat) : Hw :=
  let h1 := { h with pwr := { h.pwr with sets := h.pwr.sets.tail } }
  if g.group then pulse { h1 with pwr := { h1.pwr with gres := res } } 2 0 3 else h1

/-- A request of `t` for domain `d` makes no change: the domain is in `t`, or RET is asked of a domain in OFF (R438, R440). -/
def noChange (h : Hw) (d : Nat) (t : PwrState) : Bool :=
  let st := (dom h d).state
  decide (st = t) || (decide (st = .off) && decide (t = .ret))

/-- REQ returns to the present state. -/
def reqBack (h : Hw) (d : Nat) : Hw := setDom h d { dom h d with req := (dom h d).state }

/-- The sequencer begins the exit of domain `d` to ON: BUSY becomes 1, after the regulator has left low-power mode (R446, R458). -/
def startExit (h : Hw) (d : Nat) (fromSet : Bool) : Hw :=
  let h1 := setDom h d { dom h d with busy := true, req := .on }
  { h1 with pwr := { h1.pwr with cur := some ⟨d, .on, fromSet⟩, gdom := d, lp := false } }

/-- The exit of `d` needs PD44 ON first, to load the T and N fields of a domain that returns from OFF (R511). -/
def needsNv (h : Hw) (d : Nat) : Bool := decide (d ≠ 44) && decide ((dom h d).state = .off) && !domOn h 44

/-- The sequencer takes what it can take by itself: requests that make no change are passed over, an exit to ON begins; an
entry waits for its own start (R441, R442). -/
def seqKick : Nat → Hw → Hw
  | 0, h => h
  | n + 1, h =>
    match h.pwr.cur with
    | some _ => h
    | none =>
      match h.pwr.singles with
      | c :: r =>
        let h1 := { h with pwr := { h.pwr with singles := r } }
        if noChange h c.dom c.tgt then seqKick n (reqBack h1 c.dom)
        else if c.tgt = .on then (if needsNv h c.dom then startExit h 44 false else startExit h1 c.dom false)
        else h
      | [] =>
        match h.pwr.sets with
        | [] => h
        | g :: r =>
          match g.doms with
          | [] => seqKick n (endSet h g 1)
          | d :: ds =>
            let h1 := { h with pwr := { h.pwr with sets := { g with doms := ds } :: r } }
            if noChange h d g.tgt then seqKick n h1
            else if g.tgt = .on then (if needsNv h d then startExit h 44 false else startExit h1 d true)
            else h

/-- `seqKick` with enough steps for everything that waits. -/
def seqRun (h : Hw) : Hw :=
  seqKick (h.pwr.singles.length + h.pwr.sets.foldl (fun a g => a + g.doms.length + 1) 0 + 1) h

/-- The change in progress ends without a change of state: an abort before the clamp instant (R444). -/
def stopChange (h : Hw) (d : Nat) : Hw :=
  let r := dom h d
  let h1 := setDom h d { r with busy := false, req := r.state }
  { h1 with pwr := { h1.pwr with cur := none } }

/-- A request of `t` for domain `d`, behind those accepted before it (R440, R441). A request for ON ends an entry of `d` that is in
progress, or that the sequencer holds in step 1, at once (R444; log entry 83). -/
def reqDom (d : Nat) (t : PwrState) (h : Hw) : Hw :=
  let c : SeqChange := ⟨d, t, false⟩
  let add (x : Hw) : Hw := seqRun { x with pwr := { x.pwr with singles := x.pwr.singles ++ [c] } }
  if d = 0 then h
  else
    match h.pwr.cur, h.pwr.singles with
    | some p, l =>
      if p.dom = d ∧ p.tgt ≠ .on ∧ t = .on then
        let h1 := stopChange h d
        seqRun (if (dom h d).state = .on then h1 else { h1 with pwr := { h1.pwr with singles := c :: l } })
      else add h
    | none, p :: r =>
      if p.dom = d ∧ p.tgt ≠ .on ∧ t = .on then seqRun { h with pwr := { h.pwr with singles := c :: r } } else add h
    | none, [] => add h

/-- The order in which the sequencer takes the domains of an entry (R447). -/
def entryOrder : List Nat :=
  ((List.range 25).map (· + 19)) ++ ((List.range 12).map (· + 1)) ++ ((List.range 5).map (· + 13)) ++ [44, 18]

/-- The order in which the sequencer takes the domains of an exit (R447). -/
def exitOrder : List Nat :=
  [18, 44] ++ ((List.range 5).map (· + 13)) ++ ((List.range 25).map (· + 19)) ++ ((List.range 12).map (· + 1))

/-- Count a refusal or an abort of domain `d` (R443, R444). -/
def countRefusal (h : Hw) (d : Nat) (abort : Bool) (ty inst : Nat) : Hw :=
  let h1 := incSat h 2 0 (0x900 + 4 * d) 0 16 1
  let h2 := wr h1 2 0 (0xA00 + 4 * d) (BitVec.ofNat 32 (abort.toNat * 0x10000 + ty * 0x100 + inst))
  pulse (setDom h2 d { dom h2 d with refused := true }) 2 0 1

/-- A refused or aborted domain of a group with STOP ends the group (R447). -/
def stopGroup (d : Nat) (fromSet : Bool) (h : Hw) : Hw :=
  let h1 := { h with pwr := { h.pwr with gdom := d } }
  match h.pwr.sets with
  | g :: _ => if fromSet && g.group && g.stop then endSet h1 g 2 else h1
  | [] => h1

/-- The entry in progress, of one of the domains `ds`, is aborted and counted (R444). -/
def abortEntry (h : Hw) (ds : List Nat) (ty inst : Nat) : Hw :=
  match h.pwr.cur with
  | some c =>
    if c.tgt ≠ .on ∧ ds.contains c.dom then stopGroup c.dom c.fromSet (countRefusal (stopChange h c.dom) c.dom true ty inst) else h
  | none => h

/-- Domains to bring up, taken in the exit order as a wake set (R450, R454). -/
def wakeDomains (ds : List Nat) (h : Hw) : Hw :=
  let l := exitOrder.filter (fun d => ds.contains d)
  seqRun { h with pwr := { h.pwr with sets := h.pwr.sets ++ [⟨l, .on, false, false⟩] } }

/-- The domains of a pair of mask words: bit `d` of `lo`, bit `d − 32` of `hi`. -/
def maskDomains (lo hi : Word) : List Nat :=
  (List.range 45).filter (fun d => if d < 32 then bit lo d else bit hi (d - 32))

/-- The refuser type and instance that R426 and R444 give for Plinth wake source `s`. -/
def wakeWho (s : Nat) : Nat × Nat :=
  if s < 4 then (0x20, s) else if s < 8 then (0x21, s - 4) else if s = 8 then (0x22, 0)
  else if s = 10 ∨ s = 11 then (0x13, 0) else if s = 12 then (0x02, 0)
  else if s = 13 then (0x01, 0) else if s = 16 then (0x40, 0) else (0x02, 0x11)

/-- Plinth wake source `s` is raised (R450): its WSTAT bit is set, and where its WS_EN bit is 1 its wake set is requested ON,
with PD18; an entry in progress of a domain of the set is aborted first (R444). -/
def plinthWake (s : Nat) (h : Hw) : Hw :=
  let h1 := level (wr h 2 0 0x050 (setBit (rd h 2 0 0x050) s true)) 2 0 0 true
  if bit (cfg h1 2 0 0x404) s || decide (s = 17) then
    let ds := 18 :: maskDomains (cfg h1 2 0 (0x480 + 8 * s)) (cfg h1 2 0 (0x484 + 8 * s))
    let w := wakeWho s
    wakeDomains ds (abortEntry h1 ds w.1 w.2)
  else h1

/-! ## The byte memory (R29, R228, R438) -/

/-- The power domain that holds the memory at an address (R346). -/
def memDomain (a : Nat) : Nat :=
  if a < 0x01000000 then 44
  else if a < 0x20000000 then 1 + (a - 0x10000000) / 0x40000
  else if a < 0x21000000 then 13 + (a - 0x20000000) / 0x80000
  else if a < 0x22000000 then 17
  else 0

/-- What an address reads that the memory does not list: erased NV (log entry 4), the trim region's own bytes, RAM zero until its
domain first loses its contents and an open value after that. -/
def memDflt (lost : List (Nat × Nat)) (a : Nat) : Byte :=
  if a < 0x00FF0000 then 0xFF
  else if a < 0x01000000 then Config.trimByte a
  else match smGet 0 lost (memDomain a) with
    | 0 => 0
    | n + 1 => Config.lostByte (n + 1) a

/-- The canonical form of the memory: addresses strictly rising, no entry equal to what an unlisted address reads. -/
def Memory.wf (m : Mem) : Bool := smWf (memDflt m.lost) m.cells

/-- The byte at an address. -/
def rdByte (m : Mem) (a : Nat) : Byte := smGet (memDflt m.lost a) m.cells a

/-- Write the byte at an address. -/
def wrByte (m : Mem) (a : Nat) (v : Byte) : Mem := { m with cells := smPut (memDflt m.lost a) a v m.cells }

/-- `n` bytes from `a`, little-endian (R228). -/
def rdMem (m : Mem) (a : Nat) : Nat → Nat
  | 0 => 0
  | n + 1 => (rdByte m a).toNat + 256 * rdMem m (a + 1) n

/-- Write the low `n` bytes of `v` at `a`, little-endian (R228). -/
def wrMem (m : Mem) (a : Nat) : Nat → Nat → Mem
  | 0, _ => m
  | n + 1, v => wrMem (wrByte m a (BitVec.ofNat 8 v)) (a + 1) n (v / 256)

/-- The list of `n` bytes from `a`. -/
def rdBytes (m : Mem) (a n : Nat) : List Byte := (List.range n).map (fun i => rdByte m (a + i))

/-- Write a list of bytes from `a`. -/
def wrBytes (m : Mem) (a : Nat) : List Byte → Mem
  | [] => m
  | b :: r => wrBytes (wrByte m a b) (a + 1) r

/-- The memory of domain `d` loses its contents (R438). -/
def memLose (d : Nat) (m : Mem) : Mem :=
  { lost := smPut 0 d (smGet 0 m.lost d + 1) m.lost
    cells := m.cells.filter (fun c => decide (memDomain c.1 ≠ d)) }

/-! ## The module's memory and blocks together -/

/-- A change of the blocks that leaves the memory alone. -/
def Mach.onHw (f : Hw → Hw) (m : Mach) : Mach := { m with hw := f m.hw }

/-- The record of core `c`. -/
def olk (h : Hw) (c : Nat) : Olk := smGet {} h.olk c

/-- The Plinth watchdog of a core counts while the core has left reset and is not free (R485). -/
def watched (r : Olk) : Bool := decide (r.phase ≠ .reset) && decide (r.phase ≠ .free)

/-- Replace the record of core `c`; its watchdog counts from the instant at which the core becomes one that it watches. -/
def setOlk (h : Hw) (c : Nat) (r : Olk) : Hw :=
  { h with olk := smPut {} c (if watched r && !watched (olk h c) then { r with wdgAt := h.now } else r) h.olk }

/-- A write to `n` bytes at `a` clears every core's reservation on a quadword it touches (R284). -/
def clearResv (a n : Nat) (h : Hw) : Hw :=
  forN 12 (fun c x =>
    match (olk x c).resv with
    | some q => if q < a + n ∧ a < q + 16 then setOlk x c { olk x c with resv := none } else x
    | none => x) h

/-- Store the low `n` bytes of `v` at `a` in the memory. -/
def store (a n v : Nat) (m : Mach) : Mach := { mem := wrMem m.mem a n v, hw := clearResv a n m.hw }

/-- Store a list of bytes at `a` in the memory. -/
def storeBytes (a : Nat) (l : List Byte) (m : Mach) : Mach :=
  { mem := wrBytes m.mem a l, hw := clearResv a l.length m.hw }

/-- Lift a change of the module to a change of the state: the queue of commands stays as it is; a module without supply is stopped and
nothing acts on it (R633). -/
def State.onM (f : Mach → Mach) (s : State) : State := { s with m := if s.m.hw.rst.off then s.m else f s.m }

/-- Lift a change of the blocks to a change of the state: the queue and the memory stay as they are. -/
def State.onHw (f : Hw → Hw) (s : State) : State := s.onM (fun m => m.onHw f)

end Sys2Proof.Machine
end

