-- ==== Sys2Proof/Machine/Ashlar.lean ====
section
/-!
DEFINITION. Ashlar pages and queues (chapter 10): ownership, chains, the free pool, claims of front ends, queues and their
fill, delivery order, and the errors of the MSG page.
-/
namespace Sys2Proof.Machine

/-- The record of page `p`. -/
def apage (h : Hw) (p : Nat) : Page := smGet {} h.pages p

/-- Replace the record of page `p`; a page of the free pool carries no link. -/
def setPage (h : Hw) (p : Nat) (r : Page) : Hw :=
  { h with pages := smPut {} p (if r.own = .free then {} else r) h.pages }

/-- The items of queue `q`, head first. -/
def queue (h : Hw) (q : Nat) : List QItem := smGet [] h.queues q

/-- Replace the items of queue `q`. -/
def setQueue (h : Hw) (q : Nat) (l : List QItem) : Hw := { h with queues := smPut [] q l h.queues }

/-- The number of pages in the free pool. -/
def freeCount (h : Hw) : Nat := 4096 - h.pages.length

/-- The `r`-th page, from `from`, that is no key of the map. -/
def nthFree : List (Nat × Page) → Nat → Nat
  | [], c => c
  | (k, _) :: l, c => if k ≤ c then nthFree l (c + 1) else c

/-- The applied RSV of the MSG page (R316). -/
def rsvOf (h : Hw) : Nat := cfgF h 0x32 0 0x500 0 13

/-- The level sources LOW and EMPTY (R327). -/
def msgLevels (h : Hw) : Hw :=
  let f := freeCount h
  level (level h 0x32 0 0 (decide (f ≤ rsvOf h))) 0x32 0 1 (decide (f = 0))

/-- Claim one page of the free pool for `own`; which page is open (R313, R315). -/
def claimPage (own : Owner) (h : Hw) : Nat × Hw :=
  let p := nthFree h.pages (Config.pagePick h.freeCnt % freeCount h)
  (p, setPage { h with freeCnt := h.freeCnt + 1 } p ⟨own, none⟩)

/-- The pages of the chain that begins at `p`: links are followed while the owner stays the same (R315). -/
def chainFrom (h : Hw) (own : Owner) : Nat → List Nat → Nat → List Nat
  | 0, seen, _ => seen.reverse
  | n + 1, seen, p =>
    if (apage h p).own = own ∧ seen.contains p = false then
      match (apage h p).next with
      | some k => chainFrom h own n (p :: seen) k
      | none => (p :: seen).reverse
    else seen.reverse

/-- The chain of page `p`. -/
def chainOf (h : Hw) (p : Nat) : List Nat := chainFrom h (apage h p).own 4096 [] p

/-- The chain of page `p` passes to `own`, its links unchanged. -/
def moveChain (p : Nat) (own : Owner) (h : Hw) : Hw :=
  forL (chainOf h p) (fun k x => setPage x k { apage x k with own := own }) h

/-- The chain of page `p` returns to the free pool. -/
def freeChain (p : Nat) (h : Hw) : Hw := msgLevels (forL (chainOf h p) (fun k x => setPage x k {}) h)

/-- Every page with owner `own` returns to the free pool (R322). -/
def freeOwned (own : Owner) (h : Hw) : Hw :=
  msgLevels { h with pages := h.pages.filter (fun e => decide (e.2.own ≠ own)) }

/-- FILL of queue `q`: its pages, chains counted whole (R327). -/
def fill (h : Hw) (q : Nat) : Nat := (h.pages.filter (fun e => decide (e.2.own = .queue q))).length

/-- The applied QCFG of queue `q`. -/
def qcfg (h : Hw) (q : Nat) : Word := cfg h 0x32 0 (0x400 + 4 * q)

/-- Queue `q` is enabled. -/
def qEn (h : Hw) (q : Nat) : Bool := bit (qcfg h q) 31

/-- The queue holds CAP16 × 16 pages or more, with CAP16 ≠ 0 (R318). -/
def qFull (h : Hw) (q extra : Nat) : Bool :=
  let cap := fld (qcfg h q) 0 8
  decide (cap ≠ 0) && decide (cap * 16 ≤ fill h q + extra)

/-- The pages being filled for queue `q` by the DMA channels whose descriptor is a FILL to it (R321, R332). -/
def filling (h : Hw) (q : Nat) : Nat :=
  h.dma.foldl (fun a e =>
    match e.2.desc with
    | some d => if d.2 % 8 = 1 ∧ d.2 / 2 ^ 14 % 64 = q then a + e.2.pages.length else a
    | none => a) 0

/-- The receive ring of a front end: the lowest enabled queue that names it (R319). -/
def ringQueue (h : Hw) (ty inst : Nat) : Option Nat :=
  (List.range 64).find? (fun q => qEn h q && decide (fld (qcfg h q) 12 8 = ty) && decide (fld (qcfg h q) 8 4 = inst))

/-- Link a list of pages into one chain. -/
def linkPages : List Nat → Hw → Hw
  | [], h => h
  | [_], h => h
  | a :: b :: r, h => linkPages (b :: r) (setPage h a { apage h a with next := some b })

/-- Claim `n` pages for a frame of queue `q` (R321): the pages and the state, or none when a claim fails; `got` are claimed already
and `filling` counts those of the DMA channels. -/
def claimN (own : Owner) (q : Nat) (res : Bool) : Nat → Nat → Hw → Option (List Nat × Hw)
  | 0, _, h => some ([], h)
  | n + 1, got, h =>
    if freeCount h = 0 ∨ (freeCount h ≤ rsvOf h ∧ res = false) ∨ qFull h q (got + filling h q) = true then none
    else
      let (p, h1) := claimPage own h
      match claimN own q res n (got + 1) h1 with
      | some (l, h2) => some (p :: l, h2)
      | none => none

/-- A frame of queue `q` is dropped: DROP and QDROP (R321). -/
def dropFrame (q : Nat) (h : Hw) : Hw := pulse (incSat h 0x32 0 (0x800 + 4 * q) 16 16 1) 0x32 0 2

/-- A front end stores a frame of `n` pages in queue `q`: its pages, or the drop (R321); nothing while PD17 is not ON (R324). -/
def claimFrame (ty inst q n : Nat) (h : Hw) : Option (List Nat) × Hw :=
  if domOn h 17 then
    match claimN (.front ty inst) q (bit (qcfg h q) 30) n 0 h with
    | some (l, h1) => (some l, msgLevels (linkPages l h1))
    | none => (none, dropFrame q h)
  else (none, h)

/-- A chain joins the tail of queue `q`. -/
def joinQueue (q p who whoRel : Nat) (h : Hw) : Hw :=
  let h1 := moveChain p (.queue q) h
  setQueue h1 q (queue h1 q ++ [⟨p, h1.frame, who, whoRel⟩])

/-- The address of page `p` (R314). -/
def pageAddr (p : Nat) : Nat := 0x21000000 + 256 * p

/-- Write the bytes of a frame into its pages, 256 bytes a page. -/
def fillPages : List Nat → List Byte → Mach → Mach
  | [], _, m => m
  | p :: r, l, m => fillPages r (l.drop 256) (storeBytes (pageAddr p) (l.take 256) m)

/-- The pages that `n` bytes take. -/
def pagesFor (n : Nat) : Nat := (n + 255) / 256

/-! ## Delivery (R320) -/

/-- The queues that context `n` consumes, in ascending order. -/
def queuesOf (h : Hw) (n : Nat) : List Nat :=
  (List.range 64).filter (fun q =>
    qEn h q && decide (fld (qcfg h q) 28 2 = 1) && decide (fld (qcfg h q) 20 8 = n))

/-- Insert an item behind those of a lower or equal put frame and putting context. -/
def insItem (i : QItem) : List QItem → List QItem
  | [] => [i]
  | j :: r => if i.stamp < j.stamp ∨ (i.stamp = j.stamp ∧ i.who < j.who) then i :: j :: r else j :: insItem i r

/-- The items of queue `q` that are deliverable, in delivery order: all of them, or under `det` those that a deterministic
context with release frame `k` and predecessors `preds` may see. -/
def deliverable (h : Hw) (q : Nat) (det : Bool) (k : Nat) (preds : List Nat) : List QItem :=
  let l := queue h q
  if det then
    if fld (qcfg h q) 12 8 = 0 then
      (l.filter (fun i => decide (i.stamp + 1 ≤ k) || (preds.contains i.who && decide (i.whoRel = k)))).foldl
        (fun acc i => insItem i acc) []
    else l.filter (fun i => decide (i.stamp + 1 ≤ k))
  else l

/-! ## Errors of the MSG page (R323) -/

/-- INIT and ID of ERR_SRC for an access: `ctx` is the running context of a task-mode access. -/
def msgWho (ini : Initiator) (ctx : Option Nat) : Nat × Nat :=
  match ini, ctx with
  | .core _, some n => (0, n)
  | .core c, none => (1, c.val)
  | .dma n, _ => (2, n.val)
  | .bond, _ => (3, 0)
  | .debug, _ => (4, 0)

/-- Record the first error in ERR_PAGE and ERR_SRC, and pulse PGERR. -/
def msgErr (ini : Initiator) (ctx : Option Nat) (ref kind : Nat) (h : Hw) : Hw :=
  if bit (rd h 0x32 0 0x054) 31 then h
  else
    let (i, d) := msgWho ini ctx
    pulse (wr (wr h 0x32 0 0x050 (BitVec.ofNat 32 ref)) 0x32 0 0x054
      (BitVec.ofNat 32 (0x80000000 + i * 0x1000 + kind * 0x100 + d))) 0x32 0 3

/-- The page of a reference whose bits [31:8] are given, or none for a bad reference (R314). -/
def refPage (ref : Nat) : Option Nat := if ref / 0x100000 = 0x210 then some (ref / 256 % 4096) else none

/-- The page belongs to the initiator (R317): its context's pages in task mode; those of any context or of supervisor code for
supervisor code and the debug port; the channel's own for DMA; the Bond link's own. -/
def owns (h : Hw) (ini : Initiator) (ctx : Option Nat) (p : Nat) : Bool :=
  match (apage h p).own, ini, ctx with
  | .ctx n, .core _, some k => decide (n = k)
  | .ctx _, .core _, none => true
  | .ctx _, .debug, _ => true
  | .sup _, .core _, none => true
  | .sup _, .debug, _ => true
  | _, _, _ => false

/-- TAKE (R316): the reference word and the state after the claim. A claim of a DMA channel or the Bond link makes that
initiator the owner (log entry 10). -/
def msgTake (ini : Initiator) (ctx : Option Nat) (h : Hw) : Nat × Hw :=
  let task := match ini with | .core _ => ctx.isSome | _ => false
  let own : Owner := match ini, ctx with
    | .core _, some n => .ctx n
    | .core c, none => .sup c.val
    | .dma n, _ => .dma n.val
    | .bond, _ => .bond
    | .debug, _ => .sup 0
  if freeCount h = 0 ∨ (freeCount h ≤ rsvOf h ∧ task = true) then
    (0, pulse h 0x32 0 0)
  else
    let (p, h1) := claimPage own h
    (pageAddr p, msgLevels h1)

/-- GIVE (R317). -/
def msgGive (ini : Initiator) (ctx : Option Nat) (w : Word) (h : Hw) : Hw :=
  match refPage w.toNat with
  | none => msgErr ini ctx w.toNat 3 h
  | some p => if owns h ini ctx p then freeChain p h else msgErr ini ctx w.toNat 1 h

/-- PQ_LINK (R318): the owner of page PQ_SEL sets or clears its link. -/
def msgLink (ini : Initiator) (ctx : Option Nat) (w : Word) (h : Hw) : Hw :=
  let p := fld (rd h 0x32 0 0x058) 0 12
  if owns h ini ctx p then
    setPage h p { apage h p with next := if bit w 12 then some (fld w 0 12) else none }
  else msgErr ini ctx (pageAddr p) 5 h

/-- The codes of an owner in PQ_INFO. -/
def ownCode : Owner → Nat × Nat
  | .free => (0, 0)
  | .queue q => (1, q)
  | .ctx n => (2, n)
  | .front _ i => (3, i)
  | .dma n => (4, n)
  | .sup c => (5, c)
  | .bond => (6, 0)

/-- PQ_INFO of the page in PQ_SEL. -/
def pqInfo (h : Hw) : Nat :=
  let r := apage h (fld (rd h 0x32 0 0x058) 0 12)
  let (k, o) := ownCode r.own
  k * 0x10000000 + o * 0x10000 + (match r.next with | some n => 0x1000 + n | none => 0)

/-- STATUS of the MSG page. -/
def msgStatus (h : Hw) : Nat :=
  let f := freeCount h
  (decide (f = 0)).toNat * 0x4000 + (decide (f ≤ rsvOf h)).toNat * 0x2000 + f

end Sys2Proof.Machine
end

