-- ==== Sys2Proof/Machine/Flags.lean ====
section
/-!
DEFINITION. The arithmetic of the Olkor instructions (chapter 09): results and flags of the scalar opcodes, shifts and
divisions, lanes, and the products with their moves. Operands are naturals below `2 ^ w`.
-/
namespace Sys2Proof.Machine

/-- What an instruction computes: the value to write, the flags to set. -/
structure AluOut where
  val : Option Nat := none
  flags : Option Flags := none
  deriving DecidableEq, Repr

/-- The signed value of a `w`-bit operand. -/
def sgn (w v : Nat) : Int := if v < 2 ^ (w - 1) then (v : Int) else (v : Int) - (2 ^ w : Nat)

/-- The `w`-bit pattern of an integer. -/
def pat (w : Nat) (i : Int) : Nat := (i % (2 ^ w : Nat)).toNat

/-- N and Z of a `w`-bit result, with the given V and C (R268). -/
def flagsOf (w r : Nat) (v c : Bool) : Flags := ⟨decide (2 ^ (w - 1) ≤ r), decide (r = 0), v, c⟩

/-- A result of class L (R268). -/
def logic (w r : Nat) : AluOut := ⟨some r, some (flagsOf w r false false)⟩

/-- `a + b + cin` of class A: C is the carry out, V the signed overflow. -/
def addFl (w a b cin : Nat) : AluOut :=
  let r := (a + b + cin) % 2 ^ w
  ⟨some r, some (flagsOf w r (decide (sgn w a + sgn w b + cin ≠ sgn w r)) (decide (2 ^ w ≤ a + b + cin)))⟩

/-- `a − b − cin` of class A: C is the borrow, V the signed overflow. -/
def subFl (w a b cin : Nat) : AluOut :=
  let r := (a + 2 * 2 ^ w - b - cin) % 2 ^ w
  ⟨some r, some (flagsOf w r (decide (sgn w a - sgn w b - cin ≠ sgn w r)) (decide (a < b + cin)))⟩

/-- DIVS (R271, R272): truncated toward 0; the most negative value by −1 gives the most negative value and V. -/
def divs (w a b : Nat) : AluOut :=
  let q := Int.tdiv (sgn w a) (sgn w b)
  let r := pat w q
  ⟨some r, some (flagsOf w r (decide (sgn w r ≠ q)) false)⟩

/-- REMS (R271, R272): the sign of a. -/
def rems (w a b : Nat) : AluOut := logic w (pat w (Int.tmod (sgn w a) (sgn w b)))

/-- SHL by `k` at width `w` (R272). -/
def shl (w a k : Nat) : Nat × Bool :=
  if k = 0 then (a, false) else if k ≤ w then (a * 2 ^ k % 2 ^ w, a.testBit (w - k)) else (0, false)

/-- SHR by `k` at width `w` (R272). -/
def shr (w a k : Nat) : Nat × Bool :=
  if k = 0 then (a, false) else if k ≤ w then (a / 2 ^ k, a.testBit (k - 1)) else (0, false)

/-- SAR by `k` at width `w` (R272). -/
def sar (w a k : Nat) : Nat × Bool :=
  if k = 0 then (a, false)
  else if k ≤ w then (pat w (sgn w a / (2 ^ k : Nat)), a.testBit (k - 1))
  else (pat w (if sgn w a < 0 then -1 else 0), false)

/-- ROL by `k` modulo `w` (R272). -/
def rol (w a k : Nat) : Nat × Bool :=
  let j := k % w
  let r := (a * 2 ^ j + a / 2 ^ (w - j)) % 2 ^ w
  (r, decide (j ≠ 0) && r.testBit 0)

/-- A result of class S (R268). -/
def shiftOut (w : Nat) (r : Nat × Bool) : AluOut := ⟨some r.1, some (flagsOf w r.1 false r.2)⟩

/-! ## Lanes (R234, R282) -/

/-- Lane `k` of width `s` of a quadword. -/
def lane (s k v : Nat) : Nat := v / 2 ^ (s * k) % 2 ^ s

/-- The quadword whose lane `k` of width `s` is `f k`. -/
def ofLanes (s : Nat) (f : Nat → Nat) : Nat :=
  (List.range (128 / s)).foldl (fun acc k => acc + f k % 2 ^ s * 2 ^ (s * k)) 0

/-- Apply a function of two lanes to every lane of two quadwords. -/
def lanes2 (s : Nat) (f : Nat → Nat → Nat) (a b : Nat) : AluOut :=
  ⟨some (ofLanes s (fun k => f (lane s k a) (lane s k b))), none⟩

/-- A lane compare: all ones where it holds; Z when every lane of the result is 0, N, V and C clear (R282). -/
def laneCmp (s : Nat) (f : Nat → Nat → Bool) (a b : Nat) : AluOut :=
  let r := ofLanes s (fun k => if f (lane s k a) (lane s k b) then 2 ^ s - 1 else 0)
  ⟨some r, some ⟨false, decide (r = 0), false, false⟩⟩

/-- Saturation of an integer to the signed range of width `s`, as a pattern. -/
def satS (s : Nat) (i : Int) : Nat :=
  pat s (if i < -(2 ^ (s - 1) : Nat) then -(2 ^ (s - 1) : Nat) else if (2 ^ (s - 1) : Nat) ≤ i then (2 ^ (s - 1) : Nat) - 1 else i)

/-! ## Products (R251, R252, R279 … R281) -/

/-- The lane products of width `2 s`, each added to the same field of `acc` (R280). -/
def laneMac (s : Nat) (signed : Bool) (acc a b : Nat) : Nat :=
  (List.range (128 / s)).foldl (fun r k =>
    let x := lane s k a
    let y := lane s k b
    let p := if signed then pat (2 * s) (sgn s x * sgn s y) else x * y
    r + (acc / 2 ^ (2 * s * k) + p) % 2 ^ (2 * s) * 2 ^ (2 * s * k)) 0

/-- `acc` plus the product of two `w`-bit operands, modulo 2^256 (R279). -/
def macOne (w : Nat) (signed : Bool) (acc a b : Nat) : Nat :=
  if signed then pat 256 ((acc : Int) + sgn w a * sgn w b) else (acc + a * b) % 2 ^ 256

/-- MOVP (R281): shift `pk` right arithmetically by `cnt`, then select by bits 2 and 3 of `sel` at width `w`. -/
def movp (w sel pk cnt : Nat) : AluOut :=
  let v : Int := sgn 256 pk / (2 ^ cnt : Nat)
  let vp := pat 256 v
  let r := if sel.testBit 2 then vp / 2 ^ 128 else if sel.testBit 3 then satS w v else vp % 2 ^ w
  ⟨some r, some (flagsOf w r (!sel.testBit 2 && sel.testBit 3 && decide (sgn w r ≠ v)) false)⟩

end Sys2Proof.Machine
end

