-- ==== Sys2Proof/Machine/Operands.lean ====
section
/-!
DEFINITION. The operand forms of the Olkor cores (chapter 08): sizes, lengths, encoding rules of specifiers, conditions,
addresses of operands and pointer changes.
-/
namespace Sys2Proof.Machine

/-- The operand size in bytes that a size code selects (R232). -/
def sizeBytes (code : Nat) : Nat := 2 ^ code

/-- The number of extension parcels of a specifier for a size code (R242). -/
def extParcels (size : Nat) : Spec → Nat
  | .direct _ _ => 0
  | .imm _ => 0
  | .long _ => if size ≤ 1 then 1 else 2 ^ (size - 1)
  | .base _ _ => 1
  | .index _ _ _ _ => 1
  | .postInc _ => 0
  | .preDec _ => 0
  | .abs _ => 2
  | .page _ _ _ => 1

/-- The length of an instruction in bytes (R238). -/
def instrLen (i : CoreInstr) : Nat :=
  4 + i.specs.foldl (fun n s => n + 2 + 2 * extParcels i.hd.size.val s) 0

/-- The specifier is an immediate. -/
def isImm : Spec → Bool
  | .imm _ => true
  | .long _ => true
  | _ => false

/-- A specifier obeys the encoding rules for an operand of `n` bytes (R236, R242). -/
def specOk (n : Nat) (dst : Bool) : Spec → Bool
  | .direct _ o => decide (o.val % n = 0)
  | .imm _ => !dst
  | .long v => !dst && decide (v.toNat < 2 ^ (8 * n))
  | .index _ _ s _ => decide (s.val ≤ 4)
  | _ => true

/-- A short immediate in the range `0 … hi` (R267). -/
def immIn (hi : Nat) : Spec → Bool
  | .imm v => decide (v.toInt ≥ 0 ∧ v.toNat ≤ hi)
  | _ => false

/-- The value of a short immediate, as a natural. -/
def immNat : Spec → Nat
  | .imm v => v.toNat
  | _ => 0

/-- A specifier in mode 3, 4 or 7 (R267). -/
def isMem : Spec → Bool
  | .base _ _ => true
  | .index _ _ _ _ => true
  | .abs _ => true
  | _ => false

/-- A specifier of any memory mode: 3 … 8. -/
def isAnyMem : Spec → Bool
  | .direct _ _ => false
  | .imm _ => false
  | .long _ => false
  | _ => true

/-- A condition on the flags (R239). -/
def condHolds (f : Flags) (code : Nat) : Bool :=
  match code with
  | 0 => true
  | 1 => f.z
  | 2 => !f.z
  | 3 => f.n != f.v
  | 4 => f.n == f.v
  | 5 => f.c
  | 6 => !f.c
  | _ => f.z || (f.n != f.v)

/-- The base of core `c`'s near memory (R29). -/
def nearBase (c : Nat) : Nat := 0x10000000 + c * 0x40000

/-- The window of a core's running context (R227, R255). -/
def winBase (c : Nat) (r : Olk) : Nat := nearBase c + (if r.sup then r.swslot else r.wslot) * 0x400

/-- An address in the near memory of core `c` (R229). -/
def isNear (c a : Nat) : Bool := decide (nearBase c ≤ a ∧ a < nearBase c + 0x40000)

/-- The value of workspace word `w` as an address: its bits [31:0] (R242). -/
def wordVal (m : Mem) (win w : Nat) : Nat := rdMem m (win + 16 * w) 4

/-- The address of a memory operand of `n` bytes, modulo 2^32 (R242, R243); an immediate has none. -/
def opAddr (m : Mem) (win n : Nat) : Spec → Option Nat
  | .direct w o => some (win + 16 * w.val + o.val)
  | .imm _ => none
  | .long _ => none
  | .base b d => some ((wordVal m win b.val + d.toInt) % 4294967296).toNat
  | .index b i s d =>
    some (((wordVal m win b.val : Int) + sgn32 (wordVal m win i.val) * (2 ^ s.val : Nat) + d.toInt) % 4294967296).toNat
  | .postInc p => some (wordVal m win p.val)
  | .preDec p => some ((wordVal m win p.val + 4294967296 - n) % 4294967296)
  | .abs a => some a.toNat
  | .page f ty i => some (0x40000000 + ty.toNat * 0x100000 + i.toNat * 0x1000 + f.toNat)
where
  /-- The signed value of a 32-bit word. -/
  sgn32 (v : Nat) : Int := if v < 2147483648 then (v : Int) else (v : Int) - 4294967296

/-- The pointer word a specifier changes, and by how much (R243, R270). -/
def ptrChange (n : Nat) : Spec → Option (Nat × Int)
  | .postInc p => some (p.val, (n : Int))
  | .preDec p => some (p.val, -(n : Int))
  | _ => none

/-- Apply the pointer changes of the specifiers in order, each on bits [31:0] of its word (R244). -/
def applyPtrs (win : Nat) : List (Nat × Int) → Mach → Mach
  | [], m => m
  | (p, d) :: r, m =>
    applyPtrs win r (store (win + 16 * p) 4 (((wordVal m.mem win p : Int) + d) % 4294967296).toNat m)

/-- The immediate value of a specifier at `n` bytes, sign-extended (R233). -/
def immVal (n : Nat) : Spec → Nat
  | .imm v => (v.toInt % (2 ^ (8 * n) : Nat)).toNat
  | .long v => v.toNat % 2 ^ (8 * n)
  | _ => 0

end Sys2Proof.Machine
end

