-- ==== Sys2Proof/Machine/Olkor.lean ====
section
/-!
DEFINITION. What an Olkor core does between instructions (chapter 08): late writes and products that land, entry into
supervisor mode, return from it, the halt of R263, and the free core of R303.
-/
namespace Sys2Proof.Machine

/-- Core `c` issues instructions: it runs code, hangs on no access and its domain is ON. -/
def coreRuns (h : Hw) (c : Nat) : Bool :=
  decide ((olk h c).phase = .run) && decide ((olk h c).hang = none) && domOn h (1 + c)

/-! ## Late writes and products (R245 … R253, R269) -/

/-- One late write lands: its bytes, then its flags. -/
def landOne (c : Nat) (e : Late) (m : Mach) : Mach :=
  let m1 := if e.size = 0 then m else store e.addr e.size e.data m
  match e.flags with
  | some f => m1.onHw (fun h => setOlk h c { olk h c with flags := f })
  | none => m1

/-- Late writes land in issue order. -/
def landList (c : Nat) : List Late → Mach → Mach
  | [], m => m
  | e :: r, m => landList c r (landOne c e m)

/-- Products land in issue order. -/
def landProds (l : List LateP) (p : List (Nat × BitVec 256)) : List (Nat × BitVec 256) :=
  l.foldl (fun a e => smPut 0 e.k e.val a) p

/-- Everything that core `c` has pending lands (R248, R253). -/
def landAll (c : Nat) (m : Mach) : Mach :=
  let r := olk m.hw c
  landList c r.late (m.onHw (fun h => setOlk h c { olk h c with
    late := [], lateP := [], prods := landProds r.lateP r.prods }))

/-- One executed instruction ends: what was to land at its end lands (R247). -/
def endInstr (c : Nat) (m : Mach) : Mach :=
  let r := olk m.hw c
  let l := r.late.map (fun e => { e with left := e.left - 1 })
  let p := r.lateP.map (fun e => { e with left := e.left - 1 })
  landList c (l.filter (fun e => decide (e.left = 0))) (m.onHw (fun h => setOlk h c { olk h c with
    late := l.filter (fun e => decide (e.left ≠ 0)), lateP := p.filter (fun e => decide (e.left ≠ 0))
    prods := landProds (p.filter (fun e => decide (e.left = 0))) r.prods }))

/-- The product register `k` as a read sees it (R251). -/
def prodRead (r : Olk) (k : Nat) : BitVec 256 := smGet 0 r.prods k

/-- The product register `k` as a multiply-accumulate sees it: the latest issued (R252). -/
def prodLast (r : Olk) (k : Nat) : BitVec 256 :=
  (r.lateP.filter (fun e => decide (e.k = k))).foldl (fun _ e => e.val) (prodRead r k)

/-! ## Entry, return and halt (R259 … R264) -/

/-- ECAUSE of an entry (R258). -/
def ecauseWord (cause opnd : Nat) (wr : Bool) : Word := BitVec.ofNat 32 (opnd * 0x10000 + wr.toNat * 0x100 + cause)

/-- Entry into supervisor mode, steps 2 to 6 of R262. `eaddr` is none where the spec gives EADDR no value for the cause: the
register then takes an open value (log entry 8). -/
def enterSup (c cause opnd : Nat) (wr : Bool) (epc : Word) (eaddr : Option Word) (m : Mach) : Mach :=
  let m1 := landAll c m
  m1.onHw (fun h =>
    let r := olk h c
    let h1 := setOlk h c { r with
      resv := none, epc := epc, ecause := ecauseWord cause opnd wr
      eaddr := eaddr.getD (Config.openWord h.freeCnt), eflags := r.flags, pmode := r.sup, pie := r.ie
      sup := true, ie := false, exl := true, pc := r.vbase + BitVec.ofNat 32 (0x40 * cause), rep := none
      phase := .run, nest := if r.phase = .free then 1 else if r.nest = 0 then 0 else r.nest + 1 }
    if eaddr.isNone then { h1 with freeCnt := h1.freeCnt + 1 } else h1)

/-- The pc an exception of the present instruction saves: the prefix inside a repeat (R278), else the instruction. -/
def faultPc (r : Olk) : Word := match r.rep with | some p => p.pc | none => r.pc

/-- An exception of CAUSE 0x01 … 0x05: entry, or the halt of R263 while EXL is 1. -/
def raiseAt (c cause opnd : Nat) (wr : Bool) (epc : Word) (eaddr : Option Word) (m : Mach) : Mach :=
  if (olk m.hw c).exl then m.onHw (fun h => setOlk h c { olk h c with phase := .halted })
  else enterSup c cause opnd wr epc eaddr m

/-- A core that becomes free (R303): no context, CSTAT with MODE = 1, IE = 1 and EXL = 0. -/
def freeCore (c : Nat) (h : Hw) : Hw :=
  setOlk h c { olk h c with
    phase := .free, sup := true, ie := true, exl := false, ctx := none, nest := 0, rep := none, hang := none, resv := none }

/-- ERET (R262, R303): return from the entry; from an entry that found the core free, the core is free again. -/
def eretCore (c : Nat) (h : Hw) : Hw :=
  let r := olk h c
  if r.nest = 1 then freeCore c h
  else setOlk h c { r with
    sup := r.pmode, ie := r.pie, flags := r.eflags, exl := false, resv := none, pc := r.epc, nest := r.nest - 1 }

/-- An address where instructions may lie (R231): the NV store, shared SRAM, the core's own near memory. -/
def fetchRegion (c a : Nat) : Bool :=
  decide (a < 0x00FF0000) || decide (0x20000000 ≤ a ∧ a < 0x20200000) || isNear c a

end Sys2Proof.Machine
end

