-- ==== Sys2Proof/Machine/Keystone.lean ====
section
/-!
DEFINITION. Keystone (chapter 10): task contexts and their records, activations, dispatch and removal, deadlines, event
lines, deterministic frame mode, and the queue operations that release a context.
-/
namespace Sys2Proof.Machine

/-! ## Contexts -/

/-- The record of context `n`. -/
def ctx (h : Hw) (n : Nat) : Ctx := smGet {} h.ctxs n

/-- The STOP source: a context is STOPPED (R326). -/
def stopLevel (h : Hw) : Hw := level h 0x30 0 3 (h.ctxs.any (fun e => decide (e.2.st = .stopped)))

/-- Replace the record of context `n`. -/
def setCtx (h : Hw) (n : Nat) (r : Ctx) : Hw := stopLevel { h with ctxs := smPut {} n r h.ctxs }

/-- A field of the loaded DESC (R291). -/
def descF (r : Ctx) (lo n : Nat) : Nat := r.desc / 2 ^ lo % 2 ^ n

/-- PRIO of the loaded DESC. -/
def prio (r : Ctx) : Nat := descF r 32 4

/-- Deterministic frame mode is on and the context is deterministic (R311). -/
def detOn (h : Hw) (r : Ctx) : Bool := bit (cfg h 0x30 0 0x400) 0 && decide (descF r 36 1 = 1)

/-- The context is in an activation. -/
def active (r : Ctx) : Bool := decide (r.st = .held) || decide (r.st = .ready) || decide (r.st = .running)

/-- The predecessors that DESC names (R298). -/
def preds (r : Ctx) : List Nat :=
  (if descF r 120 1 = 1 then [descF r 104 8] else []) ++ (if descF r 121 1 = 1 then [descF r 112 8] else [])

/-- The address of the record of context `n` (R291). -/
def recBase (h : Hw) (n : Nat) : Nat := (cfg h 0x30 0 0x404).toNat / 0x1000 * 0x1000 + n * 0x500

/-- The context that the running task-mode code of a core belongs to; none in supervisor mode or without a context. -/
def taskCtx (h : Hw) (ini : Initiator) : Option Nat :=
  match ini with
  | .core c => if (olk h c.val).sup then none else (olk h c.val).ctx
  | _ => none

/-! ## Activations (R296 … R299) -/

/-- The deadline of an activation of kind `k` that begins now, under R306 and R307. -/
def deadlineOf (h : Hw) (r : Ctx) (k : Nat) : Option Nat :=
  let budget := descF r 88 16
  let bnd := h.frameStart + h.frameLen
  if r.dlFrame = h.frame + 1 then r.deadline
  else if k = 0 then some (if budget = 0 ∨ bnd ≤ h.frameStart + budget then bnd else h.frameStart + budget)
  else if budget = 0 then none else some (h.timebase + budget)

/-- The activation of context `n` begins (R296, R300); `waits` are the predecessors it waits for. -/
def activate (n kind line : Nat) (waits : List Nat) (h : Hw) : Hw :=
  let r := ctx h n
  setCtx h n { r with
    st := if waits.isEmpty then .ready else .held, act := (r.act + 1) % 256, pc := BitVec.ofNat 32 (descF r 0 32)
    rel := h.frame, kind := kind, line := line, waits := waits, begun := false, got := [], more := false
    deadline := deadlineOf h r kind, dlFrame := h.frame + 1, late := false }

/-- The lower KIND of a kept cause and a new one (R296, R299). -/
def keepCause : Option (Nat × Nat) → Nat × Nat → Nat × Nat
  | some k, c => if k.1 < c.1 ∨ (k.1 = c.1 ∧ k.2 ≤ c.2) then k else c
  | none, c => c

/-- A cause of KIND 0b01 … 0b11 for context `n` (R296, R299, R311); `atB` says that it counts at a boundary. Keystone takes none
while PD18 is not ON (R324). -/
def cause (n kind line : Nat) (atB : Bool) (h : Hw) : Hw :=
  let r := ctx h n
  if !domOn h 18 || (detOn h r && !atB) then h
  else match r.st with
    | .idle => activate n kind line [] h
    | .disabled => h
    | .stopped => h
    | _ => setCtx h n { r with kept := some (keepCause r.kept (kind, line)) }

/-! ## Event lines (R308 … R310) -/

/-- Every populated page (R30). -/
def allPages : List (Nat × Nat) :=
  let l (ty n : Nat) : List (Nat × Nat) := (List.range n).map (fun i => (ty, i))
  l 1 1 ++ l 2 1 ++ l 3 1 ++ l 0x10 96 ++ l 0x11 24 ++ l 0x12 4 ++ l 0x13 4 ++ l 0x14 4 ++ l 0x20 8 ++ l 0x21 16 ++ l 0x22 2
    ++ l 0x23 1 ++ l 0x30 1 ++ l 0x31 64 ++ l 0x32 1 ++ l 0x40 1 ++ l 0x41 1 ++ l 0x50 1

/-- The record of event line `l`. -/
def evLine (h : Hw) (l : Nat) : EvLine := smGet {} h.lines l

/-- The level of event line `l` (R43, R308). -/
def lineLevel (h : Hw) (l : Nat) : Bool :=
  (evLine h l).sw ||
    allPages.any (fun p =>
      let w := rd h p.1 p.2 oROUTE
      bit w 31 && decide (fld w 0 10 = l) && evOut h p.1 p.2)

/-- The lines that target context `n`, ascending. -/
def linesOfCtx (h : Hw) (n : Nat) : List Nat :=
  (h.lines.filter (fun e => decide (e.2.tk = 1) && decide (e.2.tgt = n))).map (·.1)

/-- The lowest line that targets context `n` and is 1. -/
def lineCause (h : Hw) (n : Nat) : Option Nat := (linesOfCtx h n).find? (fun l => lineLevel h l)

/-- The interrupt input of core `c` (R309); 0 while PD18 is not ON (R324). -/
def coreIrq (h : Hw) (c : Nat) : Bool :=
  domOn h 18 && h.lines.any (fun e => decide (e.2.tk = 2) && decide (e.2.tgt = c) && lineLevel h e.1)

/-- A queue whose consumer is context `n` holds deliverable pages (R296, R320). -/
def queueCause (h : Hw) (n k : Nat) : Bool :=
  let r := ctx h n
  (queuesOf h n).any (fun q => !(deliverable h q (detOn h r) k (preds r)).isEmpty)

/-- A page joined queue `q`: its consumer context has a cause of KIND 0b11. -/
def queueFed (q : Nat) (h : Hw) : Hw :=
  if fld (qcfg h q) 28 2 = 1 ∧ qEn h q = true then cause (fld (qcfg h q) 20 8) 3 0 false h else h

/-- EVENT_LINE_CAUSE: line `l` is 1 and targets a context (R309); LINE is the lowest such line of the context (R297). -/
def lineEvent (l : Nat) (h : Hw) : Hw :=
  let e := evLine h l
  if decide (e.tk = 1) && lineLevel h l then cause e.tgt 1 ((lineCause h e.tgt).getD l) false h else h

/-- A write of EVL_WR (R310). -/
def evlWrite (w : Word) (h : Hw) : Hw :=
  let tk := fld w 30 2
  let tgt := fld w 0 8
  let l := fld w 16 10
  if tk = 3 ∨ (tk = 2 ∧ 11 < tgt) then err h 0x30 0 16
  else { h with lines := smPut {} l { evLine h l with tk := tk, tgt := tgt } h.lines }

/-- A write of EVSW (R308). -/
def evswWrite (w : Word) (h : Hw) : Hw :=
  let l := fld w 0 10
  { h with lines := smPut {} l { evLine h l with sw := bit w 31 } h.lines }

/-! ## Context records, dispatch and removal (R292 … R295, R301 … R305) -/

/-- The saved flags as STATE [35:32] of the record (R240). -/
def flagsNat (f : Flags) : Nat := f.n.toNat * 8 + f.z.toNat * 4 + f.v.toNat * 2 + f.c.toNat

/-- The flags of a four-bit field (R240). -/
def natFlags (v : Nat) : Flags := ⟨v.testBit 3, v.testBit 2, v.testBit 1, v.testBit 0⟩

/-- Write the products of a core into a record. -/
def storeProds (base : Nat) (p : List (Nat × BitVec 256)) : List Nat → Mach → Mach
  | [], m => m
  | k :: r, m => storeProds base p r (store (base + 0x400 + 0x20 * k) 32 (smGet 0 p k).toNat m)

/-- Store the state of context `n` from core `c` into its record: window, products, pc, flags, release frame (R294). -/
def storeOut (n c : Nat) (pc : Word) (fl : Flags) (m : Mach) : Mach :=
  let base := recBase m.hw n
  let x := ctx m.hw n
  let win := nearBase c + descF x 52 8 * 0x400
  let m1 := storeBytes base (rdBytes m.mem win 1024) m
  let m2 := storeProds base (olk m.hw c).prods [0, 1, 2, 3] m1
  store (base + 0x490) 16 x.rel (store (base + 0x480) 16 (flagsNat fl * 2 ^ 32 + pc.toNat) m2)

/-- The pc and flags of the task that core `c` holds: those of the task itself, or as saved at the entry that interrupted it
(R300, R303); inside a repeat the prefix. -/
def taskPoint (r : Olk) : Word × Flags := if r.sup then (r.epc, r.eflags) else (faultPc r, r.flags)

/-- Remove the context that core `c` holds: what is pending lands, the record is stored, and the core becomes free unless
supervisor code runs on it (R294, R303, R305). -/
def removeFrom (n c : Nat) (m : Mach) : Mach :=
  let m1 := landAll c m
  let r := olk m1.hw c
  let p := taskPoint r
  let m2 := storeOut n c p.1 p.2 m1
  m2.onHw (fun h =>
    let h1 := setCtx h n { ctx h n with pc := p.1 }
    if r.sup then setOlk h1 c { olk h1 c with ctx := none, resv := none } else freeCore c h1)

/-- Context `n` is on a core. -/
def onCore (h : Hw) (n : Nat) : Bool := decide ((ctx h n).st = .running) && decide ((olk h (ctx h n).core).ctx = some n)

/-- Take context `n` off its core, if it is on one. -/
def removeCtx (n : Nat) (m : Mach) : Mach := if onCore m.hw n then removeFrom n (ctx m.hw n).core m else m

/-- Store the record of context `n`, which is on no core (R292): its window and products stand there since its last removal; STATE and
RELFRAME take its pc and its release frame. -/
def storeIdle (n : Nat) (m : Mach) : Mach :=
  let base := recBase m.hw n
  let x := ctx m.hw n
  store (base + 0x490) 16 x.rel (store (base + 0x480) 16 (rdMem m.mem (base + 0x484) 1 % 16 * 2 ^ 32 + x.pc.toNat) m)

/-- Successors no longer wait for context `n` (R298). -/
def releaseWaits (n : Nat) (h : Hw) : Hw :=
  forN 256 (fun k x =>
    let r := ctx x k
    if r.waits.contains n then
      let w := r.waits.filter (fun p => decide (p ≠ n))
      setCtx x k { r with waits := w, st := if r.st = .held ∧ w.isEmpty = true then .ready else r.st }
    else x) h

/-- The activation of context `n` ends in state `st` with its pc at ENTRY. -/
def endAct (n : Nat) (st : CtxSt) (h : Hw) : Hw :=
  let r := ctx h n
  releaseWaits n (setCtx h n { r with st := st, pc := BitVec.ofNat 32 (descF r 0 32), waits := [], kept := none })

/-- The five activation words of the first dispatch (R297). -/
def actWords (r : Ctx) (npg : Nat) (more : Bool) : Nat :=
  r.kind * 0x40000000 + (if r.kind = 1 then r.line * 0x10000 else 0) + more.toNat * 0x100 + npg

/-- The items that the first dispatch of context `n` delivers, with their queues: up to 16 (R320). -/
def toDeliver (h : Hw) (n : Nat) : List (Nat × QItem) :=
  let r := ctx h n
  let all := (queuesOf h n).flatMap (fun q => (deliverable h q (detOn h r) r.rel (preds r)).map (fun i => (q, i)))
  all.take 16

/-- Deliver pages: each chain leaves its queue and passes to the context. -/
def deliver (n : Nat) : List (Nat × QItem) → Hw → Hw
  | [], h => h
  | (q, i) :: r, h =>
    deliver n r (setQueue (moveChain i.page (.ctx n) h) q ((queue h q).filter (fun j => decide (j.page ≠ i.page))))

/-- Write a list of 32-bit words from an address. -/
def storeWords (a : Nat) : List Nat → Mach → Mach
  | [], m => m
  | w :: r, m => storeWords (a + 4) r (store a 4 w m)

/-- Context `n` reaches core `c` (R294, R297): the record is loaded, and on the first dispatch of the activation pages are
delivered and the activation words written. -/
def dispatchTo (n c : Nat) (m : Mach) : Mach :=
  let x := ctx m.hw n
  let base := recBase m.hw n
  let slot := descF x 52 8
  let win := nearBase c + slot * 0x400
  let m1 := storeBytes win (rdBytes m.mem base 1024) m
  let pr (k : Nat) : BitVec 256 := BitVec.ofNat 256 (rdMem m.mem (base + 0x400 + 0x20 * k) 32)
  let m2 := m1.onHw (fun h => setCtx (setOlk h c { olk h c with
      phase := .run, pc := x.pc, flags := natFlags (rdMem m.mem (base + 0x484) 1), sup := false, wslot := slot
      prods := [0, 1, 2, 3].foldl (fun a k => smPut 0 k (pr k) a) [], late := [], lateP := [], resv := none, rep := none
      ctx := some n, nest := 0 }) n { x with st := .running, core := c, begun := true })
  if x.begun then m2
  else
    let l := toDeliver m2.hw n
    let m3 := m2.onHw (deliver n l)
    let more := !(toDeliver m3.hw n).isEmpty
    let m4 := m3.onHw (fun h => setCtx h n { ctx h n with got := l.map (fun e => e.2.page), more := more })
    let w := win + 16 * descF x 64 6
    let m5 := store w 16 (actWords x l.length more) m4
    storeWords (w + 16) ((List.range 16).map (fun k => (l[k]?.map (fun e => pageAddr e.2.page)).getD 0)) m5

/-- The READY context of highest PRIO, lowest number on a tie, that may run on core `c` (R301). -/
def bestReady (h : Hw) (c : Nat) : Option Nat :=
  (List.range 256).foldl (fun best n =>
    let r := ctx h n
    if r.st = .ready ∧ descF r (40 + c) 1 = 1 then
      match best with
      | some b => if prio (ctx h b) < prio r then some n else best
      | none => some n
    else best) none

/-- Core `c` is free and its domain takes accesses. -/
def coreOpen (h : Hw) (c : Nat) : Bool := decide ((olk h c).phase = .free) && domOpen h (1 + c)

/-- DISPATCH: a free core takes the best READY context, the free cores in ascending order (R301); nothing while PD18 is not ON (R324). -/
def dispatch (c : Nat) (m : Mach) : Mach :=
  let earlier := (List.range c).any (fun k => coreOpen m.hw k && (bestReady m.hw k).isSome)
  if coreOpen m.hw c = true ∧ domOpen m.hw 18 = true ∧ earlier = false then
    match bestReady m.hw c with
    | some n => dispatchTo n c m
    | none => m
  else m

/-- Core `c` runs a task of lower PRIO than `p` in task mode (R302). -/
def runsBelow (h : Hw) (p c : Nat) : Bool :=
  let r := olk h c
  match r.ctx with
  | some n => decide (r.phase = .run) && !r.sup && decide (prio (ctx h n) < p)
  | none => false

/-- The task of core `c` may be removed now: it is on no hung access and not inside a REP body (R302). -/
def removable (h : Hw) (c : Nat) : Bool :=
  let r := olk h c
  coreRuns h c && !h.hung.any (fun e => decide (e.ini = .core (Fin.ofNat 12 c))) && (match r.rep with | some q => q.irq | none => true)

/-- The core that PREEMPT takes for a context of mask `aff` and priority `p`: the lowest-priority task, the higher core number
on a tie; none while a core of the mask is free (R302). -/
def victim (h : Hw) (aff p : Nat) : Option Nat :=
  let cs := (List.range 12).filter (fun c => aff.testBit c)
  if cs.any (fun c => coreOpen h c) then none
  else cs.foldl (fun best c =>
    if runsBelow h p c then
      match best, (olk h c).ctx with
      | some b, some n =>
        match (olk h b).ctx with
        | some k => if prio (ctx h n) ≤ prio (ctx h k) then some c else best
        | none => some c
      | _, _ => some c
    else best) none

/-- PREEMPT: READY context `n` displaces a task of lower PRIO (R302); the removal waits for the end of a REP body or of a hung access. -/
def preempt (n : Nat) (m : Mach) : Mach :=
  let r := ctx m.hw n
  if r.st = .ready ∧ domOn m.hw 18 = true then
    match victim m.hw (descF r 40 12) (prio r) with
    | some c =>
      match (olk m.hw c).ctx with
      | some k =>
        if removable m.hw c then
          let m1 := removeFrom k c m
          dispatchTo n c (m1.onHw (fun h => setCtx h k { ctx h k with st := .ready }))
        else m
      | none => m
    | none => m
  else m

/-- What a context that has just become IDLE starts next: the kept cause, a line, more pages (R296, R299, R309, R320). -/
def nextAct (n : Nat) (kept : Option (Nat × Nat)) (more : Bool) (h : Hw) : Hw :=
  let r := ctx h n
  let line := if detOn h r then none else (lineCause h n).map (fun l => (1, l))
  let q := if more ∨ (detOn h r = false ∧ queueCause h n h.frame = true) then some (3, 0) else none
  let best := [line, q].foldl (fun (a : Option (Nat × Nat)) c =>
    match c with | some v => some (keepCause a v) | none => a) kept
  match best with
  | some (k, l) => activate n k l [] h
  | none => h

/-- A context that has just become IDLE without DONE: the levels that are causes act at once (R296, R309, R311). -/
def idleCauses (n : Nat) (h : Hw) : Hw := if domOn h 18 && decide ((ctx h n).st = .idle) then nextAct n none false h else h

/-- DONE in task mode on core `c` (R304): what is pending lands, AGIVE returns the delivered pages that the context still owns,
the core becomes free, and the context becomes IDLE or starts its next activation. -/
def doneTask (c : Nat) (m : Mach) : Mach :=
  match (olk m.hw c).ctx with
  | none => m.onHw (freeCore c)
  | some n =>
    let r := ctx m.hw n
    let m1 := removeFrom n c m
    m1.onHw (fun h =>
      let h1 := if descF r 37 1 = 1 then
          forL r.got (fun p x => if (apage x p).own = .ctx n then freeChain p x else x) h
        else h
      nextAct n r.kept r.more (endAct n .idle h1))

/-- KEY.YIELD.GO from supervisor code of core `c` (R303). -/
def yieldCore (c : Nat) (m : Mach) : Mach :=
  match (olk m.hw c).ctx with
  | some n =>
    let m1 := removeFrom n c m
    m1.onHw (fun h => freeCore c (setCtx h n { ctx h n with st := .ready }))
  | none => (landAll c m).onHw (freeCore c)

/-! ## CTX_CMD (R293, R305) -/

/-- GRANT `j` of a record as read, with its check (R291, R293). -/
def grantOf (w : Nat) : Grant := ⟨w % 2 ^ 32, w / 2 ^ 32 % 64, w.testBit 40, w.testBit 41, w.testBit 42⟩

/-- A GRANT that breaks R293: K in 1 … 3, or a reserved field that is not 0. -/
def grantBad (w : Nat) : Bool :=
  (let k := w / 2 ^ 32 % 64; decide (1 ≤ k ∧ k ≤ 3)) || decide (w / 2 ^ 38 % 4 ≠ 0) || decide (w / 2 ^ 43 ≠ 0)

/-- The context clashes in its window slot (R293). -/
def slotClash (h : Hw) (n slot aff : Nat) : Bool :=
  h.ctxs.any (fun e => decide (e.1 ≠ n) && decide (e.2.st ≠ .disabled) && decide (descF e.2 52 8 = slot)
      && decide (Nat.land (descF e.2 40 12) aff ≠ 0)) ||
    (List.range 12).any (fun c => aff.testBit c && decide ((olk h c).swslot = slot))

/-- CTX_CMD ENABLE (R293). -/
def ctxEnable (n : Nat) (m : Mach) : Mach :=
  let h := m.hw
  let b := recBase h n
  if (ctx h n).st ≠ .disabled then m.onHw (fun x => err x 0x30 0 16)
  else if b < 0x20000000 ∨ 0x20200000 < b + 0x500 then m.onHw (fun x => err x 0x30 0 18)
  else
    let d := rdMem m.mem (b + 0x4A0) 16
    let gs := (List.range 8).map (fun j => rdMem m.mem (b + 0x4C0 + 8 * j) 8)
    let r : Ctx := { desc := d, grants := gs.map grantOf, pc := BitVec.ofNat 32 d, st := .idle, act := (ctx h n).act, ovrAt := (ctx h n).ovrAt
                     deadline := (ctx h n).deadline, dlFrame := (ctx h n).dlFrame, rel := rdMem m.mem (b + 0x490) 8 }
    if 59 < descF r 64 6 ∨ descF r 40 12 = 0 ∨ d.testBit 0 = true ∨ gs.any grantBad = true ∨ descF r 60 4 ≠ 0 ∨
        descF r 70 2 ≠ 0 ∨ descF r 122 6 ≠ 0 then m.onHw (fun x => err x 0x30 0 19)
    else if slotClash h n (descF r 52 8) (descF r 40 12) then m.onHw (fun x => err x 0x30 0 17)
    else m.onHw (fun x => idleCauses n (setCtx x n r))

/-- CTX_CMD DISABLE (R292, R300, R305, R322): the record is stored, owned pages are freed; what R307 and CTX_STAT count of the frame
stays. -/
def ctxDisable (n : Nat) (m : Mach) : Mach :=
  if (ctx m.hw n).st = .disabled then m
  else
    let m1 := if onCore m.hw n then removeCtx n m else storeIdle n m
    m1.onHw (fun h =>
      let r := ctx h n
      freeOwned (.ctx n) (setCtx (endAct n .disabled h) n { act := r.act, ovrAt := r.ovrAt, deadline := r.deadline, dlFrame := r.dlFrame }))

/-- CTX_CMD ACTIVATE (R296, R311); for a context that is not enabled, nothing. -/
def ctxActivate (n : Nat) (h : Hw) : Hw :=
  if detOn h (ctx h n) then err h 0x30 0 16 else cause n 2 0 false h

/-- End the activation of context `n` as ABORT does (R305). -/
def ctxAbort (n : Nat) (m : Mach) : Mach :=
  if active (ctx m.hw n) then (removeCtx n m).onHw (fun h => idleCauses n (endAct n .idle h)) else m

/-! ## Deadlines (R306, R307) -/

/-- The deadline of the activation of context `n` passes before DONE. -/
def overrun (n : Nat) (m : Mach) : Mach :=
  let r := ctx m.hw n
  if active r && r.deadline.isSome && !r.late then
    let m1 := m.onHw (fun h =>
      let h1 := setCtx h n { r with late := true, ovrAt := some h.frame }
      let h2 := pulse (incSat h1 0x30 0 0x060 0 16 1) 0x30 0 0
      if detOn h2 r then
        { h2 with key := { h2.key with ovr := true, first := match h2.key.first with | some k => some k | none => some n } }
      else h2)
    match descF r 38 2 with
    | 0 => m1
    | 1 => ctxAbort n m1
    | _ => (removeCtx n m1).onHw (fun h => setCtx h n { ctx h n with st := .stopped, kept := none })
  else m

/-- The activations whose deadline lies at or before `t` pass it (R306). -/
def overrunsUpTo (t : Nat) (m : Mach) : Mach :=
  (List.range 256).foldl (fun a n =>
    match (ctx a.hw n).deadline with
    | some d => if d ≤ t then overrun n a else a
    | none => a) m

/-! ## Release at a boundary (R17 step 6, R296, R298, R299, R311) -/

/-- A periodic release of context `n` falls on the boundary that begins the present frame (R296). -/
def periodic (h : Hw) (n : Nat) : Bool :=
  let r := ctx h n
  let per := descF r 72 8
  decide (r.st ≠ .disabled) && decide (r.st ≠ .stopped) && decide (per ≠ 0) && decide (h.frame % per = descF r 80 8 % per)

/-- The line or queue that is a cause for context `n` at this boundary (R296, R311). -/
def boundaryOther (h : Hw) (n : Nat) : Option (Nat × Nat) :=
  let r := ctx h n
  if r.st = .disabled ∨ r.st = .stopped ∨ (detOn h r = false ∧ r.st ≠ .idle) then none
  else match lineCause h n with
    | some l => some (1, l)
    | none => if queueCause h n h.frame then some (3, 0) else none

/-- Release every context that has a cause at this boundary; a successor waits for the predecessors released with it. A
periodic release of a context still in its activation is skipped (R299). -/
def releaseAll (h : Hw) : Hw :=
  let cs := (List.range 256).filter (fun n => periodic h n || (boundaryOther h n).isSome)
  let rel := cs.filter (fun n => decide ((ctx h n).st = .idle))
  forN 256 (fun n x =>
    let r := ctx x n
    let c := if periodic h n then some (0, 0) else boundaryOther h n
    if r.st = .idle then
      match c with
      | some (k, l) => activate n k l ((preds r).filter (fun p => rel.contains p)) x
      | none => x
    else
      let x1 := if periodic h n then pulse (incSat x 0x30 0 0x064 0 16 1) 0x30 0 2 else x
      match boundaryOther h n with
      | some (k, l) => cause n k l true x1
      | none => x1) h

/-- The lowest DET context whose activation still runs after its overrun (R312). -/
def stillLate (h : Hw) : Option Nat :=
  (List.range 256).find? (fun n => let r := ctx h n; active r && r.late && decide (descF r 36 1 = 1))

/-- While DETMODE is 1, an activation that still runs after its overrun marks the frame (R312). -/
def markStill (h : Hw) : Hw :=
  match stillLate h with
  | some n => if bit (cfg h 0x30 0 0x400) 0 then { h with key := { h.key with ovr := true, ovrCtx := n } } else h
  | none => h

/-- The mark of the frame that ends (R312); `dmaLate` says that a frame-bounded transfer still runs. What the marks of the frame need of
DETMODE was looked at as each cause arose. The marks of the next frame begin with the overruns that still run and with DETMODE as just
applied. CTX names the first context to overrun in the frame, or one that still runs (log entry 69). -/
def markFrame (dmaLate detWas detNow : Bool) (h : Hw) : Hw :=
  let k := h.key
  let bits := k.ovr.toNat + 2 * (dmaLate && detWas).toNat + 4 * k.page.toNat + 8 * k.mode.toNat
  let h1 := wr h 0x30 0 0x058 (BitVec.ofNat 32 h.frame)
  let h2 := wr h1 0x30 0 0x05C (BitVec.ofNat 32 (if bits = 0 then 0 else
    0x80000000 + (if k.ovr then k.first.getD k.ovrCtx * 0x100 else 0) + bits))
  let h3 := if bits = 0 then h2 else pulse h2 0x30 0 1
  markStill { h3 with key := { mode := detNow && !detWas } }

/-! ## The queue operations that a context's marks and causes hang on (R312, R316, R318) -/

/-- A TAKE or PUT by a deterministic context failed while DETMODE is 1. -/
def pageFail (ctx? : Option Nat) (h : Hw) : Hw :=
  match ctx? with
  | some n => if detOn h (ctx h n) then { h with key := { h.key with page := true } } else h
  | none => h

/-- Context `n` took page `p`: a page that it was once delivered is one no more (R304). -/
def tookPage (n p : Nat) (h : Hw) : Hw :=
  let r := ctx h n
  if r.got.contains p then setCtx h n { r with got := r.got.filter (fun k => decide (k ≠ p)) } else h

/-- A read of MSG.TAKE. -/
def takePage (ini : Initiator) (h : Hw) : Nat × Hw :=
  let t := taskCtx h ini
  let (v, h1) := msgTake ini t h
  (v, if v = 0 then pageFail t h1 else match t with | some n => tookPage n (v / 256 % 4096) h1 | none => h1)

/-- A write of MSG.PUT (R318). -/
def msgPut (ini : Initiator) (w : Word) (h : Hw) : Hw :=
  let t := taskCtx h ini
  let q := fld w 2 6
  match refPage w.toNat with
  | none => pageFail t (msgErr ini t (w.toNat / 256 * 256) 3 h)
  | some p =>
    if owns h ini t p = false then pageFail t (msgErr ini t (w.toNat / 256 * 256) 2 h)
    else if qEn h q = false ∨ qFull h q 0 = true then pageFail t (msgErr ini t (w.toNat / 256 * 256) 4 h)
    else
      let who := t.getD 256
      queueFed q (joinQueue q p who (match t with | some n => (ctx h n).rel | none => 0) h)

/-! ## Composite read-only registers (R326) -/

/-- CORE_STAT of core `c`. -/
def coreStat (h : Hw) (c : Nat) : Nat :=
  let r := olk h c
  r.ctx.isSome.toNat * 0x80000000 + r.sup.toNat * 0x40000000 + (decide (r.phase = .free)).toNat * 0x20000000 + r.ctx.getD 0

/-- The code of a context state in CTX_STAT.ST. -/
def ctxCode : CtxSt → Nat
  | .disabled => 0 | .idle => 1 | .held => 2 | .ready => 3 | .running => 4 | .stopped => 5

/-- CTX_STAT of context `n`. -/
def ctxStat (h : Hw) (n : Nat) : Nat :=
  let r := ctx h n
  let ovr := match r.ovrAt with | some f => decide (h.frame ≤ f + 1) | none => false
  ctxCode r.st * 0x10000000 + (if r.st = .running then r.core else 0xF) * 0x1000000 + r.act * 0x10000 + prio r * 0x1000
    + descF r 36 1 * 0x800 + ovr.toNat * 0x400 + r.kept.isSome.toNat * 0x200

/-- EVL_LVL word `i`. -/
def evlLvl (h : Hw) (i : Nat) : Nat :=
  (List.range 32).foldl (fun a j => a + (lineLevel h (32 * i + j)).toNat * 2 ^ j) 0

/-- EVL_RD for the line in EVL_SEL. -/
def evlRd (h : Hw) : Nat :=
  let l := fld (rd h 0x30 0 0x04C) 0 10
  let e := evLine h l
  e.tk * 0x40000000 + e.sw.toNat * 0x10000000 + (lineLevel h l).toNat * 0x8000000 + e.tgt

end Sys2Proof.Machine
end

