-- ==== Sys2Proof/Machine/Can.lean ====
section
/-!
DEFINITION. The CAN channels of chapter 12: operating modes, received entries and rings, transmit buffers and the fallback
queue, error confinement, the duplicate-identifier monitor, the transceiver and its wake detector.
-/
namespace Sys2Proof.Machine

/-- The record of CAN channel `n`. -/
def can (h : Hw) (n : Nat) : CanCh := smGet {} h.can n

/-- The applied CFG of channel `n`. -/
def canCfg (h : Hw) (n b : Nat) : Bool := bit (cfg h 0x20 n 0x400) b

/-- The error state: 0 active, 1 passive, 2 bus-off (R372). -/
def estate (r : CanCh) : Nat := if r.boff then 2 else if 127 < r.tec ∨ 127 < r.rxc then 1 else 0

/-- The level sources of the channel (R387). -/
def canLevels (n : Nat) (h : Hw) : Hw :=
  let r := can h n
  let h1 := level h 0x20 n 3 (decide (estate r = 1))
  let h2 := level h1 0x20 n 4 r.boff
  let h3 := level h2 0x20 n 5 (decide (96 ≤ r.tec ∨ 96 ≤ r.rxc))
  level h3 0x20 n 8 (decide (fld (rd h 0x20 n 0x098) 0 3 ≠ 0))

/-- Replace the record of channel `n`; its level sources follow. -/
def setCan (h : Hw) (n : Nat) (r : CanCh) : Hw := canLevels n { h with can := smPut {} n r h.can }

/-! ## Modes (R357, R358) -/

/-- A write of CTL: a reserved MODE refuses the write; a change from INIT takes effect at once and integrates, any other at the
next bus-idle instant; BOREQ starts bus-off recovery. -/
def canCtl (n : Nat) (w : Word) (h : Hw) : Hw :=
  let mode := fld w 0 3
  if 5 ≤ mode then err h 0x20 n 16
  else
    let h1 := wr h 0x20 n 0x040 (BitVec.ofNat 32 mode)
    let r := can h1 n
    let r1 := if r.mode = 0 ∧ mode ≠ 0 then { r with mode := mode, integ := true, idle := false } else r
    setCan h1 n (if bit w 8 && r1.boff then { r1 with recov := true } else r1)

/-- The registers whose commit waits for bus idle outside INIT (R357). -/
def canDeferOffs : List Nat := [0x400, 0x404, 0x408, 0x40C, 0x410]

/-- A commit of the page waits: it changes one of R357's registers while CTL.MODE is not INIT. -/
def canHolds (n : Nat) (h : Hw) : Bool :=
  decide (fld (rd h 0x20 n 0x040) 0 3 ≠ 0) && canDeferOffs.any (fun o => decide (rd h 0x20 n o ≠ cfg h 0x20 n o))

/-- The transceiver begins a switch to mode `t` (R377). -/
def canTrxStart (n t : Nat) (h : Hw) : Hw :=
  setCan h n { can h n with mswin := some t, slpReq := false }

/-- A write of TRX_CTL (R377): 0b11 is ignored; SLEEP waits for bus idle, another mode switches at once. -/
def canTrxReq (n mode : Nat) (h : Hw) : Hw :=
  if mode = 3 then h
  else
    let h1 := wr h 0x20 n 0x094 (BitVec.ofNat 32 mode)
    let r := can h1 n
    if mode = 2 then
      (if (r.trx = 2 ∧ r.mswin = none) ∨ r.mswin = some 2 then h1 else setCan h1 n { r with slpReq := true })
    else if r.trx = mode ∧ r.mswin = none then setCan h1 n { r with slpReq := false }
    else canTrxStart n mode h1

/-- CAN_BUS_IDLE_APPLY (R357, R358, R377): what waits for bus idle takes effect. -/
def canBusIdle (n : Nat) (h : Hw) : Hw :=
  if domOn h (19 + n) then
    let r := can h n
    let mode := fld (rd h 0x20 n 0x040) 0 3
    let h1 := match r.defer with | some l => applySet 0x20 n l h | none => h
    let h2 := setCan h1 n { r with
      mode := mode, idle := true, rxAct := false, defer := none, integ := r.integ || (decide (r.mode = 0) && decide (mode ≠ 0)) }
    if r.slpReq then canTrxStart n 2 h2 else h2
  else h

/-- CAN_INTEGRATION_DONE (R358). -/
def canIntegrated (n : Nat) (h : Hw) : Hw :=
  let r := can h n
  if domOn h (19 + n) && r.integ then setCan h n { r with integ := false, idle := true } else h

/-- CAN_MODE_SWITCH_END (R377). -/
def canSwitchEnd (n : Nat) (h : Hw) : Hw :=
  let r := can h n
  match r.mswin with
  | some t => setCan h n { r with trx := t, mswin := none }
  | none => h

/-- The channel takes part in the bus: its domain is ON, a mode other than INIT is in force, it does not integrate, it is not in
bus-off, and its transceiver is not in SLEEP. -/
def canOnBus (h : Hw) (n : Nat) : Bool :=
  let r := can h n
  domOn h (19 + n) && decide (r.mode ≠ 0) && !r.integ && !r.boff && decide (r.trx ≠ 2)

/-! ## Entries (R359 … R364) -/

/-- The payload bytes that a DLC code gives, by format: Classical, FD (ISO 11898-1). -/
def dlcLen (fd : Bool) (dlc : Nat) : Nat :=
  if dlc ≤ 8 then dlc
  else if fd then (match dlc with | 9 => 12 | 10 => 16 | 11 => 20 | 12 => 24 | 13 => 32 | 14 => 48 | _ => 64)
  else 8

/-- The format is FD; is XL; is a remote frame; has an 11-bit identifier. -/
def fmtFd (f : Nat) : Bool := decide (f = 4 ∨ f = 5)
def fmtXl (f : Nat) : Bool := decide (f = 6)
def fmtRemote (f : Nat) : Bool := decide (f = 2 ∨ f = 3)
def fmtBase (f : Nat) : Bool := decide (f = 0 ∨ f = 2 ∨ f = 4 ∨ f = 6)

/-- LEN of a frame (R359). -/
def canLen (f : CanFrame) : Nat :=
  if fmtXl f.fmt then f.data.length else if fmtRemote f.fmt then f.dlc else dlcLen (fmtFd f.fmt) f.dlc

/-- The payload bytes an entry holds. -/
def canPayload (f : CanFrame) : List Byte := if fmtRemote f.fmt then [] else f.data.take (canLen f)

/-- The four little-endian bytes of a word. -/
def wordBytes (w : Nat) : List Byte :=
  [BitVec.ofNat 8 w, BitVec.ofNat 8 (w / 256), BitVec.ofNat 8 (w / 65536), BitVec.ofNat 8 (w / 16777216)]

/-- The bytes of an entry: the header of R359 and the payload. -/
def canEntry (f : CanFrame) (own : Bool) (seq frame time npg : Nat) : List Byte :=
  let id := if fmtBase f.fmt then f.id % 2048 else f.id % 2 ^ 29
  let hdr : List Nat :=
    [0x80000000 + f.fmt * 0x8000000 + own.toNat * 0x4000000 + f.brs.toNat * 0x2000000 + f.esi.toNat * 0x1000000 + seq,
     id,
     (if fmtXl f.fmt then 0 else f.dlc) * 0x10000 + canLen f,
     frame % 65536,
     time % 2 ^ 32,
     if fmtXl f.fmt then f.vcid * 0x10000 + f.sec.toNat * 0x100 + f.sdt else 0,
     if fmtXl f.fmt then f.af else 0,
     npg]
  hdr.flatMap wordBytes ++ canPayload f

/-- The pages for an overwrite (R364): the head chain of the ring, its surplus freed, further pages claimed. -/
def overwritePages (n q need : Nat) (h : Hw) : Option (List Nat × Hw) :=
  match queue h q with
  | [] => none
  | i :: rest =>
    let l := chainOf h i.page
    let h1 := setQueue h q rest
    let h2 := forL (l.drop need) (fun p x => setPage x p {}) (forL l (fun p x => setPage x p ⟨.front 0x20 n, none⟩) h1)
    if need ≤ l.length then some (l.take need, h2)
    else match claimN (.front 0x20 n) q (bit (qcfg h q) 30) (need - l.length) l.length h2 with
      | some (m, h3) => some (l ++ m, h3)
      | none => none

/-- Store a frame as an entry of the channel's ring (R359 … R364). -/
def canStore (n : Nat) (f : CanFrame) (own : Bool) (m : Mach) : Mach :=
  match ringQueue m.hw 0x20 n with
  | none => m
  | some q =>
    let need := pagesFor (32 + (canPayload f).length)
    let seq := ((can m.hw n).seq + 1) % 65536
    let put (l : List Nat) (ovw : Bool) (h1 : Hw) : Mach :=
      let m1 := fillPages l (canEntry f own seq h1.frame h1.tbCopy need) { m with hw := h1 }
      m1.onHw (fun h =>
        let h2 := setCan (joinQueue q (l.headD 0) 256 0 h) n { can h n with seq := seq }
        let h3 := if ovw then pulse (incSat h2 0x20 n 0x050 16 16 1) 0x20 n 7 else h2
        queueFed q (pulse h3 0x20 n 0))
    if domOn m.hw 17 then
      match claimN (.front 0x20 n) q (bit (qcfg m.hw q) 30) need 0 m.hw with
      | some (l, h1) => put l false (msgLevels (linkPages l h1))
      | none =>
        if canCfg m.hw n 2 then
          match overwritePages n q need m.hw with
          | some (l, h1) => put l true (msgLevels (linkPages l h1))
          | none => m.onHw (dropFrame q)
        else m.onHw (dropFrame q)
    else m

/-- The receive error counter after a valid reception (R372); unchanged in MONITOR and RESTRICTED mode (R358, log entry 12). -/
def recDown (r : CanCh) : CanCh :=
  if r.mode = 2 ∨ r.mode = 3 then r
  else { r with rxc := if 127 < r.rxc then 119 + Config.recPick r.rxc % 9 else r.rxc - 1 }

/-- The format is switched on (R353). -/
def fmtOn (h : Hw) (n fmt : Nat) : Bool :=
  (!fmtFd fmt || canCfg h n 4) && (!fmtXl fmt || (canCfg h n 5 && decide (n < 2)))

/-- Where an error counts under ISO 11898-1 (log entry 12): as transmitter, as transmitter under one of its exceptions, as
receiver, as receiver with a dominant bit after its error flag. -/
def canCount (r : CanCh) (cls : Nat) : CanCh :=
  if r.mode = 2 ∨ r.mode = 3 then r
  else match cls with
    | 0 => { r with tec := r.tec + 8 }
    | 1 => r
    | 2 => { r with rxc := min 255 (r.rxc + 1) }
    | _ => { r with rxc := min 255 (r.rxc + 8) }

/-- A frame of a format that is switched off reaches the channel (R353, log entry 12): with PXHD a form error of a receiver, otherwise a
protocol exception, after which the channel integrates again. -/
def canException (n : Nat) (h : Hw) : Hw :=
  let r := can h n
  if canCfg h n 6 then setCan (incSat h 0x20 n 0x04C 0 16 1) n { canCount r 2 with lec := 2, idle := false, rxAct := false }
  else setCan h n { r with integ := true, idle := false, rxAct := false }

/-- CAN_FRAME_RECEIVED (R353, R362, R363): a valid frame of another node. -/
def canReceive (n : Nat) (f : CanFrame) (m : Mach) : Mach :=
  if canOnBus m.hw n && decide ((can m.hw n).mode ≠ 4) && decide (f.fmt ≤ 6) then
    if fmtOn m.hw n f.fmt then
      let m1 := m.onHw (fun h => setCan h n { recDown (can h n) with idle := false, rxAct := false })
      if canCfg m.hw n 0 then canStore n f false m1 else m1
    else m.onHw (canException n)
  else m

/-! ## Transmission (R365 … R371) -/

/-- A field of a header word. -/
def nfld (w lo n : Nat) : Nat := w / 2 ^ lo % 2 ^ n

/-- The header fails R366; `pages` is the length of the chain. -/
def headerBad (h : Hw) (n : Nat) (hdr : List Nat) (pages : Nat) : Bool :=
  let w0 := hdr.getD 0 0
  let fmt := nfld w0 27 4
  let id := nfld (hdr.getD 1 0) 0 29
  let dlc := nfld (hdr.getD 2 0) 16 4
  let len := nfld (hdr.getD 2 0) 0 12
  let lenOk :=
    if fmtXl fmt then decide (1 ≤ len ∧ len ≤ 2048 ∧ dlc = 0)
    else if fmtRemote fmt then decide (len = dlc) else decide (len = dlcLen (fmtFd fmt) dlc)
  decide (6 < fmt) || (fmtFd fmt && !canCfg h n 4) || (fmtXl fmt && !(canCfg h n 5 && decide (n < 2)))
    || (decide (nfld w0 25 1 = 1) && !fmtFd fmt) || (fmtBase fmt && decide (0x7FF < id)) || !lenOk
    || decide (pages < pagesFor (32 + (if fmtRemote fmt then 0 else len)))

/-- The eight header words of the entry on page `p`. -/
def headerOf (m : Mem) (p : Nat) : List Nat := (List.range 8).map (fun k => rdMem m (pageAddr p + 4 * k) 4)

/-- The checks of a load that its page has to pass (R365): the entry, or the ERR_STAT bit. -/
def txCheck (ini : Initiator) (n : Nat) (w : Word) (m : Mach) : TxEntry ⊕ Nat :=
  match refPage w.toNat with
  | none => .inr 19
  | some p =>
    if owns m.hw ini (taskCtx m.hw ini) p = false then .inr 19
    else
      let hdr := headerOf m.mem p
      if headerBad m.hw n hdr (chainOf m.hw p).length then .inr 18 else .inl ⟨p, hdr⟩

/-- A write of TXB_LOAD[b] (R365). -/
def txbLoad (ini : Initiator) (n b : Nat) (w : Word) (m : Mach) : Mach :=
  let t := smGet {} (can m.hw n).txb b
  if t.ent.isSome then m.onHw (fun h => err h 0x20 n 17)
  else match txCheck ini n w m with
    | .inr k => m.onHw (fun h => err h 0x20 n k)
    | .inl e => m.onHw (fun h =>
        let h1 := moveChain e.page (.front 0x20 n) h
        setCan h1 n { can h1 n with txb := smPut {} b { t with ent := some e, att := 0, abort := false } (can h1 n).txb })

/-- A write of TXQ_PUT (R365). -/
def canTxqPut (ini : Initiator) (n : Nat) (w : Word) (m : Mach) : Mach :=
  if 64 ≤ (can m.hw n).queue.length then m.onHw (fun h => err h 0x20 n 20)
  else match txCheck ini n w m with
    | .inr k => m.onHw (fun h => err h 0x20 n k)
    | .inl e => m.onHw (fun h =>
        let h1 := moveChain e.page (.front 0x20 n) h
        setCan h1 n { can h1 n with queue := (can h1 n).queue ++ [e] })

/-- An entry of buffer `b` ends with outcome `res` (R370). -/
def txbEnd (n b res : Nat) (h : Hw) : Hw :=
  let t := smGet {} (can h n).txb b
  match t.ent with
  | none => h
  | some e =>
    let h1 := setCan (freeChain e.page h) n { can h n with
      txb := smPut {} b { t with ent := none, act := false, res := res, abort := false } (can h n).txb }
    pulse h1 0x20 n (if res = 1 then 1 else 2)

/-- The head of the fallback queue ends with outcome `res` (R370). -/
def txqEnd (n res : Nat) (h : Hw) : Hw :=
  let r := can h n
  match r.queue with
  | [] => h
  | e :: q =>
    pulse (setCan (freeChain e.page h) n { r with queue := q, qAct := false, qAbort := false, lastRes := res }) 0x20 n
      (if res = 1 then 1 else 2)

/-- A waiting entry behind the head is aborted: its page returns, LASTRES and TXFAIL report it. -/
def txqDrop (n : Nat) (e : TxEntry) (h : Hw) : Hw :=
  pulse (setCan (freeChain e.page h) n { can h n with lastRes := 2 }) 0x20 n 2

/-- A write of TX_ABORT (R369). -/
def canAbort (n : Nat) (w : Word) (h : Hw) : Hw :=
  let h1 := forN 3 (fun b x =>
    let t := smGet {} (can x n).txb b
    if bit w b && t.ent.isSome then
      (if t.act then setCan x n { can x n with txb := smPut {} b { t with abort := true } (can x n).txb } else txbEnd n b 2 x)
    else x) h
  if bit w 3 then
    let r := can h1 n
    let (keep, drop) := if r.qAct then (r.queue.take 1, r.queue.drop 1) else ([], r.queue)
    forL drop (fun e x => txqDrop n e x) (setCan h1 n { r with queue := keep, qAbort := r.qAct })
  else h1

/-- The arbitration key of a header: the frame with the lower key wins (ISO 11898-1, log entry 12). -/
def arbKey (hdr : List Nat) : Nat :=
  let fmt := nfld (hdr.getD 0 0) 27 4
  let id := nfld (hdr.getD 1 0) 0 29
  let rtr := (fmtRemote fmt).toNat
  let tail := (fmtFd fmt || fmtXl fmt).toNat * 2 + (fmtXl fmt).toNat
  if fmtBase fmt then (((id % 2048 * 2 + rtr) * 2) * 2 ^ 19) * 4 + tail
  else (((id / 2 ^ 18 * 2 + 1) * 2 + 1) * 2 ^ 19 + (id % 2 ^ 18) * 2 + rtr) * 4 + tail

/-- The candidates of a selection: the pending buffers, then the queue head as number 3 (R367). -/
def txCands (r : CanCh) : List (Nat × List Nat) :=
  ([0, 1, 2].filterMap (fun b => (smGet {} r.txb b).ent.map (fun e => (b, e.hdr)))) ++
    (r.queue.head?.map (fun e => (3, e.hdr))).toList

/-- The candidate that a selection takes (R367). -/
def txPick (ord : Bool) : List (Nat × List Nat) → Option Nat
  | [] => none
  | c :: r =>
    if ord then some c.1
    else some (r.foldl (fun (best : Nat × List Nat) x => if arbKey x.2 < arbKey best.2 then x else best) c).1

/-- A frame of the channel is in transmission. -/
def txActive (r : CanCh) : Bool := r.qAct || r.txb.any (fun e => e.2.act)

/-- TX_SELECTION (R367): the candidate goes into transmission and counts an attempt. -/
def canSelect (n : Nat) (h : Hw) : Hw :=
  let r := can h n
  if canOnBus h n && (decide (r.mode = 1) || decide (r.mode = 4)) && !txActive r then
    match txPick (canCfg h n 8) (txCands r) with
    | none => h
    | some b =>
      if b = 3 then setCan h n { r with qAct := true, idle := false, dupHit := false }
      else
        let t := smGet {} r.txb b
        setCan h n { r with txb := smPut {} b { t with act := true, att := min 255 (t.att + 1) } r.txb, idle := false, dupHit := false }
  else h

/-- The entry in transmission: its buffer (3 the queue head) and header. -/
def txNow (r : CanCh) : Option (Nat × TxEntry) :=
  if r.qAct then r.queue.head?.map (fun e => (3, e))
  else (r.txb.find? (fun e => e.2.act)).bind (fun e => e.2.ent.map (fun x => (e.1, x)))

/-- The frame that an entry sends: the header as read at the load, the payload from its pages (R365, R366). -/
def sentFrame (m : Mach) (e : TxEntry) : CanFrame :=
  let w0 := e.hdr.getD 0 0
  let w2 := e.hdr.getD 2 0
  let w5 := e.hdr.getD 5 0
  let len := if fmtRemote (nfld w0 27 4) then 0 else nfld w2 0 12
  let bytes := (chainOf m.hw e.page).flatMap (fun p => rdBytes m.mem (pageAddr p) 256)
  { fmt := nfld w0 27 4, brs := decide (nfld w0 25 1 = 1), esi := false, id := nfld (e.hdr.getD 1 0) 0 29
    dlc := nfld w2 16 4, data := (bytes.drop 32).take len, vcid := nfld w5 16 8, sec := decide (nfld w5 8 1 = 1)
    sdt := nfld w5 0 8, af := e.hdr.getD 6 0 }

/-- How a transmission ends. -/
def endTx (n b res : Nat) (h : Hw) : Hw := if b = 3 then txqEnd n res h else txbEnd n b res h

/-- The entry in transmission becomes a candidate again (R368). -/
def backToPend (n b : Nat) (h : Hw) : Hw :=
  let r := can h n
  if b = 3 then setCan h n { r with qAct := false }
  else setCan h n { r with txb := smPut {} b { smGet {} r.txb b with act := false } r.txb }

/-- An abort of buffer `b`, or of the queue head, waits for the end of its transmission. -/
def abortWaits (r : CanCh) (b : Nat) : Bool := if b = 3 then r.qAbort else (smGet {} r.txb b).abort

/-- The transmitter delay `tdcv` measured in the data phase of a frame of format `fmt` (R356). -/
def canTdc (n fmt tdcv : Nat) (h : Hw) : Hw :=
  if bit (cfg h 0x20 n 0x410) 7 && (fmtFd fmt || fmtXl fmt) then wr h 0x20 n 0x090 (BitVec.ofNat 32 (tdcv % 256)) else h

/-- CAN_TX_END OK (R356, R363, R369, R370, R372, R376); `tdcv` is the transmitter delay measured in a data phase. -/
def canTxOk (n tdcv : Nat) (m : Mach) : Mach :=
  let r := can m.hw n
  match txNow r with
  | none => m
  | some (b, e) =>
    let f := { sentFrame m e with esi := fmtFd (nfld (e.hdr.getD 0 0) 27 4) && decide (estate r = 1) }
    let m1 := m.onHw (fun h =>
      let h1 := canTdc n f.fmt tdcv h
      setCan h1 n { can h1 n with
        tec := (can h1 n).tec - 1, dupCnt := if r.dupId = some (f.fmt, f.id) then 0 else r.dupCnt })
    let m2 := if r.mode = 4 then (if canCfg m.hw n 0 then canStore n f false m1 else m1)
      else if canCfg m.hw n 1 then canStore n f true m1 else m1
    m2.onHw (endTx n b 1)

/-- CAN_TX_END without success (R356, R368, R369, R376): `lost` says that arbitration was lost, and the winner's frame is being received;
otherwise an error ended it, and `tdcv` is what its data phase measured, if it reached one. -/
def canTxFail (n : Nat) (lost : Bool) (tdcv : Option Nat) (h0 : Hw) : Hw :=
  match txNow (can h0 n) with
  | none => h0
  | some (b, e) =>
    let h1 := if lost then setCan h0 n { can h0 n with rxAct := true } else h0
    let h := match tdcv with | some v => canTdc n (nfld (e.hdr.getD 0 0) 27 4) v h1 | none => h1
    let r := can h n
    if !lost && r.dupHit then endTx n b 5 h
    else if abortWaits r b then endTx n b 2 h
    else if canCfg h n 9 then endTx n b (if lost then 3 else 4) h
    else backToPend n b h

/-! ## Errors (R372 … R376) -/

/-- The duplicate-identifier monitor on a bit error after the arbitration field (R376). -/
def canDup (n : Nat) (h : Hw) : Hw :=
  let r := can h n
  match txNow r with
  | none => h
  | some (_, e) =>
    let fmt := nfld (e.hdr.getD 0 0) 27 4
    let id := nfld (e.hdr.getD 1 0) 0 29
    let cnt := if r.dupId = some (fmt, id) then min 255 (r.dupCnt + 1) else 1
    let thr := fld (cfg h 0x20 n 0x414) 0 8
    let h1 := setCan h n { r with dupId := some (fmt, id), dupCnt := cnt }
    if thr ≠ 0 ∧ cnt = thr then
      let ext : Nat := if fmtBase fmt then 0 else 1
      let h2 := pulse (wr h1 0x20 n 0x088 (BitVec.ofNat 32 (0x80000000 + ext * 0x20000000 + id))) 0x20 n 6
      if bit (cfg h 0x20 n 0x414) 8 then setCan h2 n { can h2 n with dupHit := true } else h2
    else h1

/-- CAN_ERROR_DETECTED: error code `lec`, counting class `cls`, `after` the arbitration field as transmitter (R372 … R376). -/
def canError (n lec cls : Nat) (after : Bool) (h : Hw) : Hw :=
  if canOnBus h n then
    let h1 := incSat h 0x20 n 0x04C 0 16 1
    let r := { canCount (can h1 n) cls with lec := lec, idle := false, rxAct := false }
    let h2 := setCan h1 n r
    let h3 := if (lec = 4 ∨ lec = 5) ∧ cls < 2 ∧ after = true ∧ r.mode = 1 then canDup n h2 else h2
    if 255 < r.tec then
      incSat (setCan h3 n { can h3 n with boff := true, recov := canCfg h3 n 10 }) 0x20 n 0x04C 16 16 1
    else h3
  else h

/-- BUS_OFF_RECOVERY_DONE (R373). -/
def canRecovered (n : Nat) (h : Hw) : Hw :=
  let r := can h n
  if r.boff && r.recov && domOn h (19 + n) then
    setCan h n { r with boff := false, recov := false, tec := 0, rxc := 0, idle := true }
  else h

/-! ## The wake detector (R378 … R381): each answers whether a wake is raised -/

/-- The wake detector of channel `n` runs: CAN0 … CAN3, in SLEEP or on the way into it. -/
def canDetects (h : Hw) (n : Nat) : Bool :=
  let r := can h n
  decide (n < 4) && (decide (r.trx = 2 ∧ r.mswin = none) || decide (r.mswin = some 2))

/-- WMODE in force. -/
def wmode (h : Hw) (n : Nat) : Nat := cfgF h 0x20 n 0x418 0 2

/-- Set a flag of WAKE_STAT. -/
def canWakeFlag (n b : Nat) (h : Hw) : Hw := canLevels n (wr h 0x20 n 0x098 (setBit (rd h 0x20 n 0x098) b true))

/-- A dominant phase longer than the filter time is a wake (R378). -/
def wupHits (h : Hw) (n : Nat) : Bool := canDetects h n && decide (wmode h n = 1)

/-- A wake frame matches (R379): its format, identifier, DLC and data. -/
def wufHits (h : Hw) (n : Nat) (ide : Bool) (id dlc : Nat) (data : Nat) : Bool :=
  let c := cfg h 0x20 n 0x418
  let mask := fld (cfg h 0x20 n 0x420) 0 29
  let mask' := if ide then mask else mask % 2048
  let wid := cfg h 0x20 n 0x41C
  let d := min dlc 8
  let dm := (cfg h 0x20 n 0x424).toNat + (cfg h 0x20 n 0x428).toNat * 2 ^ 32
  canDetects h n && decide (2 ≤ wmode h n) && (bit wid 29 == ide)
    && decide (Nat.land id mask' = Nat.land (fld wid 0 29) mask')
    && (!bit c 12 || (decide (d = fld c 8 4) && decide (Nat.land (data % 2 ^ (8 * d)) dm ≠ 0)))

/-- Set WAKE_STAT.FEC. -/
def setFec (n v : Nat) (h : Hw) : Hw := wrF h 0x20 n 0x098 24 8 v

/-- WAKE_STAT.FEC. -/
def fecOf (h : Hw) (n : Nat) : Nat := fld (rd h 0x20 n 0x098) 24 8

/-- A frame of the wake decoder that does not match: it lowers FEC, or raises it on an error; an FD or XL frame counts as an
error unless FDTOL (R380). -/
def fecStep (n : Nat) (error fd : Bool) (h : Hw) : Hw :=
  if canDetects h n && decide (2 ≤ wmode h n) then
    if fd && bit (cfg h 0x20 n 0x418) 13 then h
    else if fd || error then setFec n (min 255 (fecOf h n + 1)) h
    else setFec n (fecOf h n - 1) h
  else h

/-! ## Composite read-only registers -/

/-- A frame of another node is on the bus: its start is no command, so that it may be under way at any instant (log entry 80). -/
def canRxAct (h : Hw) (n : Nat) : Bool := canOnBus h n && !txActive (can h n) && ((can h n).rxAct || Config.rxBusy n h.now)

/-- STATUS of channel `n`. -/
def canStatus (h : Hw) (n : Nat) : Nat :=
  let r := can h n
  (canRxAct h n).toNat * 0x20000 + (txActive r).toNat * 0x10000 + r.lec * 0x1000 + r.mswin.isSome.toNat * 0x400 + r.trx * 0x100
    + (r.idle && !canRxAct h n).toNat * 0x80
    + r.integ.toNat * 0x40 + estate r * 0x10 + r.mode

/-- ECNT of channel `n`; TEC is a 9-bit field. -/
def canEcnt (h : Hw) (n : Nat) : Nat := (can h n).rxc * 0x10000 + min 511 (can h n).tec

/-- TXB_STAT[b] of channel `n`. -/
def txbStat (h : Hw) (n b : Nat) : Nat :=
  let t := smGet {} (can h n).txb b
  t.att * 0x100 + t.res * 0x10 + (if t.act then 2 else if t.ent.isSome then 1 else 0)

/-- TXQ_STAT of channel `n`. -/
def txqStat (h : Hw) (n : Nat) : Nat :=
  let r := can h n
  r.lastRes * 0x100 + r.qAct.toNat * 0x80 + r.queue.length

end Sys2Proof.Machine
end

