-- ==== Sys2Proof/Machine/Eth.lean ====
section
/-!
DEFINITION. The 1000BASE-T1 ports of chapter 13: received frames, the transmit queues, timestamps, TC10 sleep and wake.
-/
namespace Sys2Proof.Machine

/-- The record of port `n`. -/
def eth (h : Hw) (n : Nat) : EthP := smGet {} h.eth n

/-- CTL.MODE of port `n`: 0 OFF, 1 RUN, 2 LOOPBACK. -/
def ethMode (h : Hw) (n : Nat) : Nat := fld (rd h 0x22 n 0x040) 0 2

/-- The level sources of the port (R415). -/
def ethLevels (n : Nat) (h : Hw) : Hw :=
  let r := eth h n
  let h1 := level h 0x22 n 3 (decide (ethMode h n = 1) && decide (r.tc = 0) && !r.link)
  let h2 := level h1 0x22 n 5 r.preq
  let h3 := level h2 0x22 n 7 (decide (r.tc = 2))
  level h3 0x22 n 8 (bit (rd h 0x22 n 0x074) 0 || bit (rd h 0x22 n 0x070) 3)

/-- Replace the record of port `n`; its level sources follow. -/
def setEth (h : Hw) (n : Nat) (r : EthP) : Hw := ethLevels n { h with eth := smPut {} n r h.eth }

/-- MAXLEN in force (R405, R415). -/
def maxLen (h : Hw) (n : Nat) : Nat := min 2016 (max 60 (cfgF h 0x22 n 0x400 16 12))

/-! ## Transmission (R409, R410) -/

/-- The port has a path to send on: link up in RUN, or MAC loopback. -/
def ethSends (h : Hw) (n : Nat) : Bool :=
  domOn h (29 + n) && ((decide (ethMode h n = 1) && (eth h n).link) || decide (ethMode h n = 2))

/-- With no frame in transmission, the next one begins: a Bond link frame, queue 0, queue 1 (R409). -/
def ethKick (n : Nat) (h : Hw) : Hw :=
  let r := eth h n
  if ethSends h n ∧ r.act = none then
    if r.bond ≠ [] then setEth h n { r with act := some 2 }
    else if r.q0 ≠ [] then setEth h n { r with act := some 0 }
    else if r.q1 ≠ [] then setEth h n { r with act := some 1 }
    else h
  else h

/-- The entries of queue `q`. -/
def ethQ (r : EthP) (q : Nat) : List TxEntry := if q = 0 then r.q0 else r.q1

/-- Replace the entries of queue `q`. -/
def setEthQ (r : EthP) (q : Nat) (l : List TxEntry) : EthP := if q = 0 then { r with q0 := l } else { r with q1 := l }

/-- The port time in ns at the SFD of a frame of `len` bytes whose FCS ends now: the timebase that the port keeps plus the offset of system
time (R410, R568). `ns` is the part of it within the present microsecond, with the ±16 ns of R416. -/
def ethStamp (h : Hw) (len : Nat) (ns : Int) : Nat :=
  (((h.tbCopy : Int) * 1000 + h.bond.ofs + clampInt (-16) 1015 ns - 8 * (len + 4 : Nat)) % (2 ^ 64 : Nat)).toNat

/-- The pages that a frame of `len` bytes takes (R407). -/
def ethPages (len : Nat) : Nat := if len ≤ 224 then 1 else 1 + (len - 224 + 255) / 256

/-- A write of TXQ_PUT[q] (R409). -/
def ethTxqPut (ini : Initiator) (n q : Nat) (w : Word) (m : Mach) : Mach :=
  if 32 ≤ (ethQ (eth m.hw n) q).length then m.onHw (fun h => err h 0x22 n 19)
  else match refPage w.toNat with
    | none => m.onHw (fun h => err h 0x22 n 17)
    | some p =>
      if owns m.hw ini (taskCtx m.hw ini) p = false then m.onHw (fun h => err h 0x22 n 17)
      else
        let hdr := headerOf m.mem p
        let len := nfld (hdr.getD 2 0) 0 12
        if len < 14 ∨ maxLen m.hw n < len ∨ (chainOf m.hw p).length < ethPages len then m.onHw (fun h => err h 0x22 n 18)
        else m.onHw (fun h =>
          let h1 := moveChain p (.front 0x22 n) h
          let r := eth h1 n
          ethKick n (setEth h1 n (setEthQ r q (ethQ r q ++ [⟨p, hdr⟩]))))

/-- An entry ends with outcome `res` (R409): its pages return, LASTRES and the pulse report it. -/
def ethEntryEnd (n res : Nat) (e : TxEntry) (h : Hw) : Hw :=
  pulse (setEth (freeChain e.page h) n { eth h n with lastRes := res }) 0x22 n (if res = 1 then 1 else 2)

/-- A write of TX_ABORT (R409): entries not in transmission end. -/
def ethAbort (n : Nat) (w : Word) (h : Hw) : Hw :=
  forN 2 (fun q x =>
    if bit w q then
      let r := eth x n
      let keep := if r.act = some q then 1 else 0
      forL ((ethQ r q).drop keep) (ethEntryEnd n 2) (setEth x n (setEthQ r q ((ethQ r q).take keep)))
    else x) h

/-- The frame in transmission ends with outcome `res`; `ts` is the port time at its SFD (R409, R410). -/
def ethFinish (n res ts : Nat) (h : Hw) : Hw :=
  let r := eth h n
  match r.act with
  | none => h
  | some 2 => setEth h n { r with act := none, bond := r.bond.tail }
  | some q =>
    match ethQ r q with
    | [] => setEth h n { r with act := none }
    | e :: l =>
      let h1 := setEth h n { setEthQ r q l with act := none }
      let h2 := if res = 1 ∧ nfld (e.hdr.getD 0 0) 25 1 = 1 then
          pulse (wr (wr (wr h1 0x22 n 0x060 (BitVec.ofNat 32 ts)) 0x22 n 0x064 (BitVec.ofNat 32 (ts / 2 ^ 32)))
            0x22 n 0x068 (BitVec.ofNat 32 (nfld (e.hdr.getD 5 0) 0 16))) 0x22 n 4
        else h1
      ethEntryEnd n res e h2

/-! ## Reception (R406 … R408, R411) -/

/-- A 16-bit big-endian value of a frame. -/
def be16 (l : List Byte) (k : Nat) : Nat := (l.getD k 0).toNat * 256 + (l.getD (k + 1) 0).toNat

/-- The frame carries an 802.1Q tag. -/
def tagged (l : List Byte) : Bool := decide (be16 l 12 = 0x8100)

/-- The Bond link takes the frame: CFG.BOND, untagged, EtherType 0x88B5 (R408). -/
def bondTakes (h : Hw) (n : Nat) (l : List Byte) : Bool :=
  bit (cfg h 0x22 n 0x400) 1 && !tagged l && decide (be16 l 12 = 0x88B5)

/-- Store a frame in the ring (R407); `ns` places its end within the present microsecond. -/
def ethStore (n : Nat) (l : List Byte) (ns : Int) (m : Mach) : Mach :=
  if bit (cfg m.hw 0x22 n 0x400) 0 then
    match ringQueue m.hw 0x22 n with
    | none => m
    | some q =>
      let npg := ethPages l.length
      match claimFrame 0x22 n q npg m.hw with
      | (none, h1) => { m with hw := h1 }
      | (some pgs, h1) =>
        let seq := ((eth h1 n).seq + 1) % 65536
        let t := tagged l
        let ts := ethStamp h1 l.length ns
        let hdr : List Nat :=
          [0x80000000 + t.toNat * 0x8000000 + seq, (if t then be16 l 14 else 0) * 0x10000 + be16 l (if t then 16 else 12),
           npg * 0x10000 + l.length, h1.frame % 65536, h1.tbCopy % 2 ^ 32, 0, ts % 2 ^ 32, ts / 2 ^ 32 % 2 ^ 32]
        (fillPages pgs (hdr.flatMap wordBytes ++ l) { m with hw := h1 }).onHw (fun h =>
          queueFed q (pulse (joinQueue q (pgs.headD 0) 256 0 (setEth h n { eth h n with seq := seq })) 0x22 n 0))
  else m

/-- A frame of bytes `l` reaches the MAC: FCS and length checks, then the Bond link or the ring (R406 … R408, R411). -/
def ethAccept (n : Nat) (l : List Byte) (fcsOk full : Bool) (ns : Int) (m : Mach) : Mach :=
  if full then m.onHw (fun h => pulse (incSat h 0x22 n 0x048 16 16 1) 0x22 n 9)
  else if fcsOk = false then m.onHw (fun h => incSat h 0x22 n 0x04C 0 16 1)
  else if bondTakes m.hw n l then
    (if 2016 < l.length then m.onHw (fun h => incSat h 0x22 n 0x04C 16 16 1) else m)
  else if l.length < 60 ∨ maxLen m.hw n < l.length then m.onHw (fun h => incSat h 0x22 n 0x04C 16 16 1)
  else ethStore n l ns m

/-- ETH_FRAME_RECEIVED: a frame of the link. -/
def ethReceive (n : Nat) (l : List Byte) (fcsOk full : Bool) (ns : Int) (m : Mach) : Mach :=
  if domOn m.hw (29 + n) && decide (ethMode m.hw n = 1) && (eth m.hw n).link then ethAccept n l fcsOk full ns m else m

/-- The bytes that an entry sends, padded to 60 (R409). -/
def ethSent (m : Mach) (e : TxEntry) : List Byte :=
  let len := nfld (e.hdr.getD 2 0) 0 12
  let l := (((chainOf m.hw e.page).flatMap (fun p => rdBytes m.mem (pageAddr p) 256)).drop 32).take len
  l ++ List.replicate (60 - l.length) 0

/-- ETH_TX_END: the frame in transmission has been sent; in MAC loopback it is received (R409, R410, R415). -/
def ethTxEnd (n : Nat) (ns : Int) (m : Mach) : Mach :=
  let r := eth m.hw n
  let own := match r.act with
    | some 0 => r.q0.head?
    | some 1 => r.q1.head?
    | _ => none
  let m1 := match own with
    | some e => if ethMode m.hw n = 2 then ethAccept n (ethSent m e) true false ns m else m
    | none => m
  let ts := match own with | some e => ethStamp m.hw (ethSent m e).length ns | none => 0
  m1.onHw (fun h => ethKick n (ethFinish n 1 ts h))

/-! ## TC10 (R412) -/

/-- Idle transmit: both queues empty and no Bond link frame pending. -/
def idleTx (r : EthP) : Bool := decide (r.q0 = []) && decide (r.q1 = []) && decide (r.bond = [])

/-- TC_STAT.SLPFAIL is set, and the source SLPFAIL pulses. -/
def slpFail (n : Nat) (h : Hw) : Hw :=
  pulse (wr h 0x22 n 0x070 (setBit (rd h 0x22 n 0x070) 2 true)) 0x22 n 6

/-- The link goes down: the frame in transmission is aborted (R409). -/
def linkDown (n : Nat) (h : Hw) : Hw := setEth (ethFinish n 2 0 h) n { eth (ethFinish n 2 0 h) n with link := false }

/-- The port enters WAKING: WUP is sent and training starts in the configured role. -/
def ethWake (n : Nat) (h : Hw) : Hw :=
  setEth h n { eth h n with tc := 3, mswin := false, sent := 4, role := cfgF h 0x22 n 0x404 0 1 }

/-- A write of CTL.MODE (R412, R415). -/
def ethCtl (n mode : Nat) (h : Hw) : Hw :=
  if mode = 3 then err h 0x22 n 16
  else
    let was := ethMode h n
    let h1 := wr h 0x22 n 0x040 (BitVec.ofNat 32 mode)
    if mode = 0 then
      let h2 := linkDown n h1
      setEth h2 n { eth h2 n with tc := 2, mswin := false, preq := false }
    else if was = 0 ∧ (eth h1 n).tc = 2 then ethKick n (ethWake n h1)
    else ethKick n (ethLevels n h1)

/-- The partner's sleep request is acknowledged, or rejected without idle transmit. -/
def tcAccept (n : Nat) (h : Hw) : Hw :=
  let r := eth h n
  if idleTx r then setEth h n { r with tc := 1, preq := false, sent := 2 }
  else setEth h n { r with preq := false, sent := 3 }

/-- A write of TC_CTL.REQ (R412). -/
def tcReq (n req : Nat) (h : Hw) : Hw :=
  let r := eth h n
  match req with
  | 1 =>
    if r.tc = 0 then (if r.link && idleTx r then setEth h n { r with tc := 1, sent := 1 } else slpFail n h)
    else err h 0x22 n 16
  | 2 =>
    if r.tc = 2 then ethWake n h
    else if r.tc = 0 ∧ r.link = true then setEth h n { r with sent := 5 }
    else err h 0x22 n 16
  | 3 => if r.tc = 0 ∧ r.preq = true then tcAccept n h else err h 0x22 n 16
  | 4 => if r.tc = 0 ∧ r.preq = true then setEth h n { r with preq := false, sent := 3 } else err h 0x22 n 16
  | _ => err h 0x22 n 16

/-- TC10_PARTNER_SLEEP_REQUEST (R412). -/
def tcPartner (n : Nat) (h : Hw) : Hw :=
  let r := eth h n
  if domOn h (29 + n) && decide (r.tc = 0) && r.link then
    if bit (cfg h 0x22 n 0x408) 0 then tcAccept n h else setEth h n { r with preq := true }
  else h

/-- TC10_HANDSHAKE_DONE (R412): the port enters SLEEP, its switch window runs. -/
def tcDone (n : Nat) (h : Hw) : Hw :=
  if (eth h n).tc = 1 then
    let h1 := linkDown n h
    setEth h1 n { eth h1 n with tc := 2, mswin := true }
  else h

/-- TC10_HANDSHAKE_FAIL (R412): back to NORMAL with SLPFAIL; `lost` says that the link was lost. -/
def tcFail (n : Nat) (lost : Bool) (h : Hw) : Hw :=
  if (eth h n).tc = 1 then
    let h1 := if lost then linkDown n h else h
    slpFail n (setEth h1 n { eth h1 n with tc := 0 })
  else h

/-- TC10_SLEEP_TIMEOUT (R412): in SLPNEG the port returns to NORMAL; with PREQ pending it rejects. -/
def tcTimeout (n : Nat) (h : Hw) : Hw :=
  let r := eth h n
  if r.tc = 1 then tcFail n false h
  else if r.tc = 0 ∧ r.preq = true then setEth h n { r with preq := false, sent := 3 }
  else h

/-- A WUP in SLEEP is detected (R412, R413): ETH0 from the Plinth, ETH1 only while PD30 is ON. -/
def wupDetects (h : Hw) (n : Nat) : Bool :=
  decide ((eth h n).tc = 2) && bit (cfg h 0x22 n 0x408) 1 && (decide (n = 0) || domOn h 30)

/-- Set WAKE_STAT.WUP of port `n`. -/
def ethWakeFlag (n : Nat) (h : Hw) : Hw := ethLevels n (wr h 0x22 n 0x074 1)

/-- TC10_WUR_RECEIVED in NORMAL sets TC_STAT.WUR (R412). -/
def tcWur (n : Nat) (h : Hw) : Hw :=
  if domOn h (29 + n) && decide ((eth h n).tc = 0) then
    ethLevels n (wr h 0x22 n 0x070 (setBit (rd h 0x22 n 0x070) 3 true))
  else h

/-- ETH_LINK_UP (R412): WAKING ends; waiting entries are sent. -/
def ethLinkUp (n sqi : Nat) (h : Hw) : Hw :=
  let r := eth h n
  if domOn h (29 + n) && (decide (r.tc = 3) || decide (r.tc = 0)) && decide (ethMode h n ≠ 0) then
    ethKick n (setEth h n { r with tc := 0, link := true, sqi := sqi })
  else h

/-- ETH_LINK_LOSS (R409, R412). -/
def ethLinkLoss (n : Nat) (h : Hw) : Hw :=
  let r := eth h n
  if r.link then (if r.tc = 1 then tcFail n true h else linkDown n h) else h

/-- ETH_MODE_SWITCH_END (R412). -/
def ethSwitchEnd (n : Nat) (h : Hw) : Hw := if (eth h n).mswin then setEth h n { eth h n with mswin := false } else h

/-- STATUS of port `n`. -/
def ethStatus (h : Hw) (n : Nat) : Nat :=
  let r := eth h n
  r.sqi * 0x200 + r.mswin.toNat * 0x100 + r.role * 0x40 + r.tc * 0x10 + r.link.toNat

/-- TXQ_STAT of port `n`. -/
def ethTxqStat (h : Hw) (n : Nat) : Nat :=
  let r := eth h n
  r.lastRes * 0x10000 + r.q1.length * 0x100 + r.q0.length

end Sys2Proof.Machine
end

