-- ==== Sys2Proof/Machine/Lin.lean ====
section
/-!
DEFINITION. The LIN channels of chapter 13: modes, the schedule and response tables, receive entries, transceiver and wake.
-/
namespace Sys2Proof.Machine

/-- The record of LIN channel `n`. -/
def lin (h : Hw) (n : Nat) : LinCh := smGet {} h.lin n

/-- The domain of LIN channel `n` (R30). -/
def linDom (n : Nat) : Nat := if n < 8 then 27 else 28

/-- The level sources of the channel (R403). -/
def linLevels (n : Nat) (h : Hw) : Hw :=
  let r := lin h n
  level (level h 0x21 n 5 (bit (rd h 0x21 n 0x050) 0)) 0x21 n 6 (decide (r.mode = 1) && !r.run)

/-- Replace the record of channel `n`; its level sources follow. -/
def setLin (h : Hw) (n : Nat) (r : LinCh) : Hw := linLevels n { h with lin := smPut {} n r h.lin }

/-- A write of CTL (R392, R401): a reserved MODE, or a WAKE in SLEEP or off an idle bus, refuses the write. -/
def linCtl (n : Nat) (w : Word) (h : Hw) : Hw :=
  let mode := fld w 0 3
  let r := lin h n
  if 4 ≤ mode ∨ (bit w 8 = true ∧ (r.sleep = true ∨ r.cur.isSome = true)) then err h 0x21 n 16
  else
    let h1 := wr h 0x21 n 0x040 (BitVec.ofNat 32 mode)
    if bit w 8 then setLin h1 n { r with pulse := min 50 (max 3 (cfgF h1 0x21 n 0x410 0 8)) } else h1

/-- A commit of the page waits for the end of the round: it changes the table while a schedule runs (R395). -/
def linHoldsRound (n : Nat) (h : Hw) : Bool :=
  (lin h n).run && [0x404, 0x408].any (fun o => decide (rd h 0x21 n o ≠ cfg h 0x21 n o))

/-- A commit of the page waits: for the end of the round, or, where it changes CFG while CTL.MODE is not INIT, for bus idle (R392). -/
def linHolds (n : Nat) (h : Hw) : Bool :=
  linHoldsRound n h || (decide (fld (rd h 0x21 n 0x040) 0 3 ≠ 0) && decide (rd h 0x21 n 0x400 ≠ cfg h 0x21 n 0x400))

/-- The set that waits is applied. -/
def linApply (n : Nat) (h : Hw) : Hw :=
  match (lin h n).defer with
  | some l => setLin (applySet 0x21 n l h) n { lin h n with defer := none, deferRound := false }
  | none => h

/-- A commit has applied: a schedule that a bad entry stopped starts again at the next boundary (R395). -/
def linCommit (n : Nat) (h : Hw) : Hw := setLin h n { lin h n with bad := false }

/-- A write of TRX_CTL (R399, R400): SLEEP waits for bus idle; its release acts at once, and its switch window runs. -/
def linTrx (n : Nat) (sleep : Bool) (h : Hw) : Hw :=
  let h1 := wr h 0x21 n 0x04C (BitVec.ofNat 32 sleep.toNat)
  let r := lin h1 n
  if sleep then (if r.sleep = true ∨ r.mswin = some true then h1 else setLin h1 n { r with slpReq := true })
  else if r.sleep = true ∨ r.mswin = some true then setLin h1 n { r with sleep := false, mswin := some false, slpReq := false }
  else setLin h1 n { r with slpReq := false }

/-- The transceiver begins its switch into SLEEP. -/
def linSleepStart (n : Nat) (h : Hw) : Hw := setLin h n { lin h n with mswin := some true, slpReq := false }

/-- LIN_BUS_IDLE_APPLY (R392, R395, R399): no frame is on the bus, and what waits for that takes effect. -/
def linBusIdle (n : Nat) (h : Hw) : Hw :=
  let r := lin h n
  if domOn h (linDom n) && r.cur.isNone then
    let mode := fld (rd h 0x21 n 0x040) 0 3
    let keep := decide (mode = 1) && decide (r.mode = 1)
    let h1 := if r.deferRound && r.run && keep then h else linApply n h
    let h2 := setLin h1 n { lin h1 n with
      mode := mode, run := r.run && keep, bad := r.bad && keep, slip := r.slip && keep, idx := if keep then r.idx else 0 }
    if r.slpReq then linSleepStart n h2 else h2
  else h

/-- LIN_MODE_SWITCH_END (R399). -/
def linSwitchEnd (n : Nat) (h : Hw) : Hw :=
  let r := lin h n
  match r.mswin with
  | some t => setLin h n { r with mswin := none, sleep := t }
  | none => h

/-- The transmitter is off: in SLEEP, or on the way into it (R399). -/
def linOff (r : LinCh) : Bool := r.sleep || decide (r.mswin = some true)

/-! ## The schedule (R393 … R395) -/

/-- At a boundary a commander whose schedule neither runs nor was stopped starts its first round (R394, R395). -/
def linBoundary (n : Nat) (h : Hw) : Hw :=
  let r := lin h n
  if domOn h (linDom n) && decide (r.mode = 1) && !r.run && !r.bad then
    setLin h n { r with run := true, first := true, idx := 0, slotAt := h.now }
  else h

/-- A table entry breaks its rules: outside shared SRAM, or a reserved field not 0 (R395). -/
def linBad (a e : Nat) : Bool :=
  decide (a < 0x20000000) || decide (0x20200000 < a + 16) || e.testBit 7 || decide (e / 2 ^ 14 % 4 ≠ 0)
    || decide (e / 2 ^ 32 % 2 ^ 32 ≠ 0)

/-- The length of an entry's slot in µs: a SLOT below 10 acts as 10 (R393). -/
def linSlotLen (e : Nat) : Nat := max 10 (e / 2 ^ 16 % 2 ^ 16) * 100

/-- The slot of the next entry starts: at the end of a round the set that waits is applied; a bad entry stops the schedule; the entry after it
is due SLOT × 100 µs after this slot's own instant, and where that has passed already, it waits for the frame that begins now. -/
def linSlot (n : Nat) (m : Mach) : Mach :=
  let r := lin m.hw n
  let len := cfgF m.hw 0x21 n 0x404 0 8
  let wrap := !r.first && decide (len ≤ r.idx)
  let m1 := m.onHw (fun h =>
    let h1 := if wrap then linApply n (pulse h 0x21 n 2) else h
    setLin h1 n { lin h1 n with idx := if r.first ∨ wrap = true then 0 else r.idx + 1, first := false, slip := false })
  let idx := (lin m1.hw n).idx
  let a := (cfg m1.hw 0x21 n 0x408).toNat / 16 * 16 + 16 * idx
  let e := rdMem m1.mem a 16
  m1.onHw (fun h =>
    let x := lin h n
    if linBad a e then linApply n (err (setLin h n { x with run := false, bad := true }) 0x21 n 17)
    else
      let next := x.slotAt + linSlotLen e
      let dir := e / 2 ^ 12 % 4
      let sends := decide (dir ≠ 3) && !linOff x
      let late := sends && decide (next ≤ h.now)
      let h1 := setLin h n { x with
        slotAt := next, slip := late, cur := if sends then some ⟨true, e, none, true, decide (dir = 1 ∨ dir = 2), false⟩ else none }
      if late then pulse h1 0x21 n 3 else h1)

/-- LIN_SLOT_START (R394): the instant of the next slot has come; where a frame still runs, the slot waits for its end, and SLIP pulses. -/
def linSlotStart (n : Nat) (m : Mach) : Mach :=
  let r := lin m.hw n
  if domOn m.hw (linDom n) && decide (r.mode = 1) && r.run && decide (r.slotAt ≤ m.hw.now) && !r.slip then
    if r.cur.isSome then m.onHw (fun h => pulse (setLin h n { lin h n with slip := true }) 0x21 n 3)
    else linSlot n m
  else m

/-! ## Headers and entries (R396 … R398) -/

/-- The protected identifier of a frame identifier (ISO 17987). -/
def linPid (id : Nat) : Nat :=
  let b (k : Nat) : Bool := id.testBit k
  let p0 := (b 0 ^^ b 1) ^^ (b 2 ^^ b 4)
  let p1 := !((b 1 ^^ b 3) ^^ (b 4 ^^ b 5))
  id % 64 + p0.toNat * 64 + p1.toNat * 128

/-- The response length of an entry: 0 acts as 8; go-to-sleep is 8. -/
def linLen (e : Nat) : Nat := if e / 2 ^ 12 % 4 = 2 then 8 else if e / 256 % 16 = 0 then 8 else e / 256 % 16

/-- The checksum over the response bytes, enhanced over the protected identifier too (ISO 17987). -/
def linSum (enh : Bool) (pid : Nat) (l : List Byte) : Nat :=
  255 - l.foldl (fun s b => let t := s + b.toNat; if 255 < t then t - 255 else t) (if enh then pid else 0)

/-- The checksum of an entry is the enhanced one; go-to-sleep uses the classic one. -/
def linEnh (e : Nat) : Bool := e.testBit 6 && decide (e / 2 ^ 12 % 4 ≠ 2)

/-- The protected identifier that the channel sends for its own entry: go-to-sleep is 0x3C (R393). -/
def linOwnPid (e : Nat) : Nat := linPid (if e / 2 ^ 12 % 4 = 2 then 0x3C else e % 64)

/-- Store an entry (R397, R398): header, response bytes, STAT. -/
def linPut (n pid stat : Nat) (own enh : Bool) (l : List Byte) (m : Mach) : Mach :=
  let m0 := m.onHw (fun h => setLin h n { lin h n with cur := none })
  if bit (cfg m.hw 0x21 n 0x400) 0 then
    match ringQueue m0.hw 0x21 n with
    | none => m0
    | some q =>
      match claimFrame 0x21 n q 1 m0.hw with
      | (none, h1) => { m0 with hw := h1 }
      | (some pgs, h1) =>
        let seq := ((lin h1 n).seq + 1) % 65536
        let hdr : List Nat :=
          [0x80000000 + own.toNat * 0x4000000 + enh.toNat * 0x2000000 + seq, pid, stat * 0x100 + l.length,
           h1.frame % 65536, h1.tbCopy % 2 ^ 32, 0, 0, 0]
        (fillPages pgs (hdr.flatMap wordBytes ++ l) { m0 with hw := h1 }).onHw (fun h =>
          let h2 := pulse (joinQueue q (pgs.headD 0) 256 0 (setLin h n { lin h n with seq := seq })) 0x21 n 0
          let h3 := if stat = 0 then h2 else pulse (incSat h2 0x21 n 0x048 16 16 1) 0x21 n 1
          queueFed q h3)
  else m0

/-- An entry is stored, and a slot start that waited for its end takes place (R394). -/
def linStore (n pid stat : Nat) (own enh : Bool) (l : List Byte) (m : Mach) : Mach :=
  let m1 := linPut n pid stat own enh l m
  if (lin m.hw n).slip then linSlot n m1 else m1

/-- A header that begins within the response of the entry in progress cuts that: its entry ends with a framing error (log entry 81). -/
def linCut (n : Nat) (m : Mach) : Mach :=
  match (lin m.hw n).cur with
  | some c => match c.pid with
    | some p => linPut n p 5 c.pub (linEnh c.entry) [] m
    | none => m
  | none => m

/-- LIN_HEADER (R396): the identifier field `pid` ends; for a header of its own the channel takes its schedule entry, for every other it
reads the response entry. -/
def linHeader (n pid : Nat) (m : Mach) : Mach :=
  let r := lin m.hw n
  if domOn m.hw (linDom n) && decide (r.mode ≠ 0) && !r.sleep then
    let ok := decide (linPid (pid % 64) = pid)
    let m1 := linCut n m
    match (lin m1.hw n).cur with
    | some c => m1.onHw (fun h => setLin h n { lin h n with
        cur := some { c with pid := some pid, parity := ok, bit := decide (pid ≠ linOwnPid c.entry) } })
    | none =>
      let e := rdMem m1.mem ((cfg m1.hw 0x21 n 0x40C).toNat / 1024 * 1024 + 16 * (pid % 64)) 16
      let pub := ok && decide (e / 2 ^ 12 % 4 = 1) && decide (r.mode ≠ 3)
      let e' := if e / 2 ^ 12 % 4 = 2 then e - 2 * 2 ^ 12 else e
      m1.onHw (fun h => setLin h n { lin h n with cur := some ⟨false, e', some pid, ok, pub, false⟩ })
  else m

/-- The bytes that a publishing entry sends. -/
def linData (e : Nat) : List Byte :=
  if e / 2 ^ 12 % 4 = 2 then 0 :: List.replicate 7 0xFF
  else (List.range (linLen e)).map (fun k => BitVec.ofNat 8 (e / 2 ^ (64 + 8 * k)))

/-- LIN_ENTRY_COMPLETE (R397): the checksum's stop bit, or a parity error. `l` and `sum` are the response bytes and checksum on
the bus, `bitErr` a bit error in the channel's own transmission, `framing` a framing error; without either, the checksum follows all the
bytes that the entry gives the response. -/
def linComplete (n : Nat) (l : List Byte) (sum : Nat) (bitErr framing : Bool) (m : Mach) : Mach :=
  match (lin m.hw n).cur with
  | some c =>
    match c.pid with
    | some pid =>
      let err := c.bit || (bitErr && c.pub)
      let whole := c.pub && !bitErr && !framing
      if domOn m.hw (linDom n) = false then m
      else if c.parity = false then linStore n pid 6 false false [] m
      else if whole || err || framing || decide (linLen c.entry ≤ l.length) then
        let bytes := if whole then linData c.entry else l.take (linLen c.entry)
        let good := whole || decide (linSum (linEnh c.entry) pid bytes = sum)
        let stat := if err then 4 else if framing then 5 else if good then 0 else 3
        linStore n pid stat c.pub (linEnh c.entry) bytes m
      else m
    | none => m
  | none => m

/-- LIN_RESPONSE_TIMEOUT (R397): the response time-out elapses with the bytes `l` received; a header whose parity is wrong has ended before
it. -/
def linTimeout (n : Nat) (l : List Byte) (m : Mach) : Mach :=
  match (lin m.hw n).cur with
  | some c =>
    if domOn m.hw (linDom n) = false then m
    else if c.parity = false then linStore n (c.pid.getD 0) 6 false false [] m
    else
      linStore n (c.pid.getD (linOwnPid c.entry)) (if c.bit then 4 else if l.isEmpty then 1 else 2) c.pub (linEnh c.entry)
        (l.take (linLen c.entry)) m
  | none => m

/-- BRD in force (R391). -/
def linBrd (h : Hw) (n : Nat) : Nat := min 16000 (max 800 (cfgF h 0x21 n 0x400 16 16))

/-- The bit time `t`, in cycles of 16 MHz, departs from nominal by more than ±15 % (R391). -/
def linOffRate (h : Hw) (n t : Nat) : Bool := decide (t * 100 < linBrd h n * 85) || decide (linBrd h n * 115 < t * 100)

/-- LIN_SYNC_FRAMING_ERROR (R391): outside COMMANDER mode a sync field whose bit time `t` is off by more than ±15 % ends the header as a
framing error; the entry's PID has no identifier to hold and is open (log entry 8). -/
def linSyncError (n t : Nat) (m : Mach) : Mach :=
  let r := lin m.hw n
  if domOn m.hw (linDom n) && (decide (r.mode = 2) || decide (r.mode = 3)) && !r.sleep && linOffRate m.hw n t then
    let pid := (Config.openWord m.hw.freeCnt).toNat % 256
    linStore n pid 5 false false [] ((linCut n m).onHw (fun h => { h with freeCnt := h.freeCnt + 1 }))
  else m

/-- TXDTO (R399): the transceiver releases the bus; the entry in progress ends with STAT 0b100. -/
def linTxdto (n : Nat) (m : Mach) : Mach :=
  if domOn m.hw (linDom n) && !(lin m.hw n).sleep then
    let m1 := m.onHw (fun h => pulse h 0x21 n 4)
    match (lin m.hw n).cur with
    | some c => linStore n (c.pid.getD (linOwnPid c.entry)) 4 c.pub (linEnh c.entry) [] m1
    | none => m1
  else m

/-- The wake detector of LIN0 … LIN3 runs: in SLEEP or on the way into it (R400). -/
def linDetects (h : Hw) (n : Nat) : Bool := decide (n < 4) && linOff (lin h n)

/-- Set WAKE_STAT.WUP. -/
def linWakeFlag (n : Nat) (h : Hw) : Hw := linLevels n (wr h 0x21 n 0x050 1)

/-- STATUS of channel `n`. -/
def linStatus (h : Hw) (n : Nat) : Nat :=
  let r := lin h n
  r.idx * 0x1000000 + r.mswin.isSome.toNat * 0x400 + r.sleep.toNat * 0x200 + r.run.toNat * 0x100 + r.mode

end Sys2Proof.Machine
end

