-- ==== Sys2Proof/Machine/Nsc.lean ====
section
/-!
DEFINITION. The network sleep coordinator of chapter 14: need and keep, the sleep sequence and its commit point, wake sources
and their windows, re-wake, maximum awake time, and the transceiver fail-safe.
-/
namespace Sys2Proof.Machine

/-! ## Members (R417) -/

/-- The domain of a member. -/
def memberDom (i : Nat) : Nat := if i < 8 then 19 + i else if i < 24 then linDom (i - 8) else 29 + (i - 24)

/-- The refuser type and instance of a member (R425). -/
def memberWho (i : Nat) : Nat × Nat := if i < 8 then (0x20, i) else if i < 24 then (0x21, i - 8) else (0x22, i - 24)

/-- The members, in index order. -/
def members (h : Hw) : List Nat := (List.range 26).filter (fun i => bit (cfg h 0x23 0 0x404) i)

/-- The transceiver of index `i` is in SLEEP, its switch window ended; a domain that is not ON holds it there (R418, R424). -/
def memberAsleep (h : Hw) (i : Nat) : Bool :=
  if domOn h (memberDom i) then
    if i < 8 then decide ((can h i).trx = 2) && decide ((can h i).mswin = none)
    else if i < 24 then (lin h (i - 8)).sleep && decide ((lin h (i - 8)).mswin = none)
    else decide ((eth h (i - 24)).tc = 2) && !(eth h (i - 24)).mswin
  else true

/-- Transceiver `i` is out of SLEEP (R431). -/
def awakeTrx (h : Hw) (i : Nat) : Bool :=
  domOn h (memberDom i) && (if i < 8 then decide ((can h i).trx ≠ 2) else if i < 24 then !(lin h (i - 8)).sleep
    else decide ((eth h (i - 24)).tc ≠ 2))

/-! ## The fail-safe count (R431) -/

/-- FST × 100 ms in µs; an FST of 0 acts as 1. -/
def fsTime (h : Hw) : Nat := max 1 (cfgF h 0x23 0 0x418 0 8) * 100000

/-- The count runs while FS_CFG.EN is 1 and a transceiver is out of SLEEP; otherwise it holds at its full value. -/
def fsUpdate (h : Hw) : Hw :=
  if bit (cfg h 0x23 0 0x418) 31 && (List.range 26).any (awakeTrx h) then
    match h.nsc.fsFrom with
    | some _ => h
    | none => { h with nsc := { h.nsc with fsFrom := some h.now, fsLoaded := true } }
  else { h with nsc := { h.nsc with fsFrom := none } }

/-- FS_STAT.LEFT in 10 ms: 0 until the count is first loaded (its reset value, log entry 13). -/
def fsLeft (h : Hw) : Nat :=
  match h.nsc.fsFrom with
  | some t => (fsTime h - (h.now - t)) / 10000
  | none => if h.nsc.fsLoaded then fsTime h / 10000 else 0

/-- A write of FS_KICK (R431). -/
def fsKick (key : Nat) (h : Hw) : Hw :=
  if key = 0xA5 then
    match h.nsc.fsFrom with
    | some _ => { h with nsc := { h.nsc with fsFrom := some h.now } }
    | none => h
  else err h 0x23 0 16

/-! ## State of the coordinator -/

/-- The level sources of the NSC page (R434). -/
def nscLevels (h : Hw) : Hw :=
  let h1 := level h 0x23 0 0 (decide (h.nsc.st = 2))
  let h2 := level h1 0x23 0 1 (decide (h.nsc.st = 4))
  let h3 := level h2 0x23 0 4 h.nsc.limit
  level h3 0x23 0 5 (bit (rd h 0x23 0 0x064) 0)

/-- Replace the coordinator's record; its level sources follow. -/
def setNsc (h : Hw) (r : Nsc) : Hw := nscLevels { h with nsc := r }

/-- The local need bits. -/
def need (h : Hw) : Nat := fld (rd h 0x23 0 0x044) 0 16

/-- A commit applies CFG: EN moves the coordinator to or from OFF, where it requests nothing any more (R421, R422). -/
def nscCommit (h : Hw) : Hw :=
  if bit (cfg h 0x23 0 0x400) 0 then
    (if h.nsc.st = 0 then setNsc (wrF h 0x23 0 0x054 0 16 0) { h.nsc with st := 1, awFrom := h.timebase } else h)
  else setNsc h { h.nsc with st := 0, latch := false, todo := [], wroteOff := [] }

/-- An abort before or at the commit point: one refusal for each distinct domain of the members (R425). -/
def nscAbort (who : Nat × Nat) (h : Hw) : Hw :=
  let ds := distinct ((members h).map memberDom)
  let h1 := forL ds (fun d x => countRefusal x d false who.1 who.2) h
  let h2 := setNsc h1 { h1.nsc with st := 1, holdAt := h1.timebase }
  pulse (incSat h2 0x23 0 0x05C 0 16 1) 0x23 0 2

/-! ## Requests and re-wake (R424, R427) -/

/-- The request that puts member `i` to sleep (R424). -/
def sleepReq (i : Nat) (h : Hw) : Hw :=
  if memberAsleep h i then h
  else if i < 8 then canTrxReq i 2 h
  else if i < 24 then linTrx (i - 8) true h
  else
    let n := i - 24
    let r := eth h n
    if r.link then tcReq n (if r.preq then 3 else 1) h
    else
      let h1 := ethCtl n 0 h
      { h1 with nsc := { h1.nsc with wroteOff := h1.nsc.wroteOff ++ [n] } }

/-- The inverse request of member `i`, whose domain is ON. -/
def wakeReq (i : Nat) (h : Hw) : Hw :=
  if i < 8 then canTrxReq i 0 h
  else if i < 24 then linTrx (i - 8) false h
  else
    let n := i - 24
    if h.nsc.wroteOff.contains n then
      let h1 := ethCtl n 1 h
      { h1 with nsc := { h1.nsc with wroteOff := h1.nsc.wroteOff.filter (fun k => decide (k ≠ n)) } }
    else tcReq n 2 h

/-- The re-wake (R427): members whose domain is not ON wait for it. -/
def rewake (h : Hw) : Hw :=
  let ms := members h
  let off := ms.filter (fun i => !domOn h (memberDom i))
  let h1 := forL (distinct (off.map memberDom)) (fun d x => reqDom d .on x) h
  let h2 := forL (ms.filter (fun i => domOn h (memberDom i))) wakeReq h1
  let h3 := wrF (incSat h2 0x23 0 0x05C 16 16 1) 0x23 0 0x054 0 16 0
  fsUpdate (pulse (setNsc h3 { h3.nsc with st := 1, latch := false, todo := off, awFrom := h3.timebase }) 0x23 0 3)

/-- Domain `d` is ON again: members whose re-wake waited make their request (R427). -/
def nscDomainUp (d : Nat) (h : Hw) : Hw :=
  let l := h.nsc.todo.filter (fun i => decide (memberDom i = d))
  if l.isEmpty then h
  else
    let h1 := { h with nsc := { h.nsc with todo := h.nsc.todo.filter (fun i => decide (memberDom i ≠ d)) } }
    fsUpdate (forL l wakeReq h1)

/-! ## Wakes (R426, R428) -/

/-- Write LASTWAKE and pulse WAKE. -/
def lastWake (src win : Nat) (h : Hw) : Hw :=
  pulse (wr h 0x23 0 0x058 (BitVec.ofNat 32 (0x80000000 + win * 0x10000 + src))) 0x23 0 6

/-- An acting wake: `who` is its refuser. -/
def wakeActs (src : Nat) (who : Nat × Nat) (h : Hw) : Hw :=
  match h.nsc.st with
  | 2 => nscAbort who (lastWake src 1 h)
  | 3 => let h1 := lastWake src 2 h; setNsc h1 { h1.nsc with latch := true }
  | 4 =>
    let h1 := lastWake src 3 h
    if src = 14 ∨ bit (cfg h 0x23 0 0x400) 1 = true then rewake h1 else h1
  | _ => h

/-- The refuser of wake source `src` (R426). -/
def srcWho (src : Nat) : Nat × Nat :=
  if src < 4 then (0x20, src) else if src < 8 then (0x21, src - 4) else if src = 8 then (0x22, 0) else if src = 9 then (0x22, 1)
  else if src = 10 ∨ src = 11 then (0x13, 0) else if src = 12 then (0x02, 0) else if src = 13 then (0x01, 0) else (0x23, 0)

/-- Wake source `src` reaches the coordinator; while PD18 is not ON its flag waits (R426, R433). -/
def nscWake (src : Nat) (h : Hw) : Hw :=
  if domOn h 18 then
    if bit (cfg h 0x23 0 0x410) src || decide (14 ≤ src) then wakeActs src (srcWho src) h else h
  else { h with nsc := { h.nsc with wakes := h.nsc.wakes ++ [src] } }

/-- The flag of wake source `src` is set: a channel's WAKE_STAT, TC_STAT.WUR, PARK_STAT.SLOTS, CAP_STAT.TOUCH_LAT, the WSTAT bits of the wake
target port and the RTC, NEED; of source 15, the keep that is honoured is the whole of it (R426). -/
def nscFlag (h : Hw) (src : Nat) : Bool :=
  if src < 4 then decide (fld (rd h 0x20 src 0x098) 0 3 ≠ 0)
  else if src < 8 then bit (rd h 0x21 (src - 4) 0x050) 0
  else if src < 10 then
    (bit (rd h 0x22 (src - 8) 0x074) 0 || bit (rd h 0x22 (src - 8) 0x070) 3) && (decide (src = 8) || domOn h 30)
  else if src = 10 then decide (fld (rd h 0x13 0 0x060) 0 16 ≠ 0)
  else if src = 11 then decide (fld (rd h 0x13 0 0x064) 8 8 ≠ 0)
  else if src < 14 then bit (rd h 2 0 0x050) src
  else if src = 14 then decide (need h ≠ 0)
  else false

/-- NSC_WAKE: a wake source whose flag is set reaches the coordinator (R426). -/
def nscFlagWake (src : Nat) (h : Hw) : Hw := if nscFlag h src then nscWake src h else h

/-- A Plinth wake source that the coordinator takes too: CAN0 … CAN3, LIN0 … LIN3, ETH0, polls, touch, port, RTC (R426, R450). -/
def wakeSource (s : Nat) (h : Hw) : Hw := nscWake s (plinthWake s h)

/-- PD18 is ON again: the wakes that waited reach the coordinator. -/
def nscReturn (h : Hw) : Hw :=
  let l := h.nsc.wakes
  forL l nscWake { h with nsc := { h.nsc with wakes := [] } }

/-- A handshake fails after the commit: the wake of its port always acts (R426). -/
def handshakeFailed (n : Nat) (h : Hw) : Hw :=
  if domOn h 18 ∧ h.nsc.st = 3 then wakeActs (8 + n) (0x22, n) h else h

/-! ## Need and keep (R419, R420) -/

/-- A write of NEED_SET. -/
def needSet (w : Word) (h : Hw) : Hw :=
  let was := need h
  let h1 := wr h 0x23 0 0x044 (BitVec.ofNat 32 (Nat.lor was (fld w 0 16)))
  if was = 0 ∧ fld w 0 16 ≠ 0 then
    let h2 := wrF h1 0x23 0 0x054 0 16 0
    wakeActs 14 (0x23, 0) (setNsc h2 { h2.nsc with limit := false })
  else h1

/-- A write of NEED_CLR; the instant at which NEED becomes 0 is a hold instant, and AWAKE_T counts from it (R422, R430). -/
def needClr (w : Word) (h : Hw) : Hw :=
  let h1 := wr h 0x23 0 0x044 (BitVec.ofNat 32 (need h - Nat.land (need h) (fld w 0 16)))
  if need h ≠ 0 ∧ need h1 = 0 then { h1 with nsc := { h1.nsc with holdAt := h1.timebase, awFrom := h1.timebase } } else h1

/-- A write of KEEP: honoured in AWAKE and PREP, for a member, while LIMIT is 0 (R420). -/
def nscKeep (w : Word) (h : Hw) : Hw :=
  let i := fld w 24 5
  if (members h).contains i then
    if (h.nsc.st = 1 ∨ h.nsc.st = 2) ∧ h.nsc.limit = false then
      let h1 := setNsc h { h.nsc with keep := (i, fld w 0 16), holdAt := h.timebase }
      if h.nsc.st = 2 then wakeActs 15 (memberWho i) h1 else h1
    else h
  else err h 0x23 0 17

/-! ## The sequence (R422 … R424) -/

/-- NSC_HOLD_EXPIRY: NEED was 0 for HOLD_T ms after the hold instant (R422; log entry 74). -/
def holdExpiry (h : Hw) : Hw :=
  if domOn h 18 ∧ h.nsc.st = 1 ∧ need h = 0 ∧ h.nsc.holdAt + cfgF h 0x23 0 0x408 0 16 * 1000 ≤ h.timebase then
    setNsc h { h.nsc with st := 2, prepAt := h.timebase }
  else h

/-- Member `i` is ready at the commit point (R423). -/
def memberReady (h : Hw) (i : Nat) : Bool :=
  if domOn h (memberDom i) then
    if i < 8 then !(can h i).txb.any (fun e => e.2.ent.isSome) && decide ((can h i).queue = [])
    else if i < 24 then !(decide ((lin h (i - 8)).mode = 1) && (lin h (i - 8)).run)
    else decide ((eth h (i - 24)).tc = 2) || (decide ((eth h (i - 24)).tc = 0) && idleTx (eth h (i - 24)))
  else true

/-- COMMIT_POINT, PREP_T × 10 ms after the entry into PREP; a PREP_T of 0 acts as 1 (R423, R424). -/
def commitPoint (h : Hw) : Hw :=
  if domOn h 18 ∧ h.nsc.st = 2 ∧ h.nsc.prepAt + max 1 (cfgF h 0x23 0 0x408 24 8) * 10000 ≤ h.timebase then
    match (members h).find? (fun i => !memberReady h i) with
    | some i => nscAbort (memberWho i) h
    | none =>
      let h1 := setNsc h { h.nsc with st := 3, latch := false, wroteOff := [] }
      fsUpdate (forL (members h1) sleepReq h1)
  else h

/-- NSC_SWITCH_END (R422): every member is in SLEEP; ASLEEP with its domain requests, or the re-wake. -/
def switchEnd (h : Hw) : Hw :=
  if domOn h 18 ∧ h.nsc.st = 3 ∧ (members h).all (memberAsleep h) = true then
    if h.nsc.latch then rewake h
    else
      let h1 := setNsc h { h.nsc with st := 4, limit := false }
      let tgt : Option PwrState := match cfgF h 0x23 0 0x400 4 2 with | 1 => some .ret | 2 => some .off | _ => none
      match tgt with
      | some t => forL (distinct ((members h1).map memberDom)) (fun d x => reqDom d t x) h1
      | none => h1
  else h

/-- AWAKE_T_TICK: a further whole second has passed (R430). -/
def awakeTick (h : Hw) : Hw :=
  if domOn h 18 ∧ (h.nsc.st = 1 ∨ h.nsc.st = 2) ∧ need h = 0 ∧ h.nsc.awFrom + 1000000 ≤ h.timebase then
    let h0 := incSat h 0x23 0 0x054 0 16 1
    let h1 := { h0 with nsc := { h0.nsc with awFrom := h0.nsc.awFrom + 1000000 } }
    let sec := min 64800 (max 1 (cfgF h 0x23 0 0x40C 0 16))
    if sec ≤ fld (rd h1 0x23 0 0x054) 0 16 ∧ h.nsc.limit = false then
      let h2 := wr h1 0x23 0 0x050 (BitVec.ofNat 32 (0x80000000 + h.nsc.keep.1 * 0x1000000 + h.nsc.keep.2))
      setNsc h2 { h2.nsc with limit := true }
    else h1
  else h

/-! ## The fail-safe trips (R432) -/

/-- Transceiver `i` is forced into SLEEP: a frame in progress is cut; the page, where its domain is ON, reads the request. -/
def forceSleep (i : Nat) (h : Hw) : Hw :=
  if domOn h (memberDom i) then
    if i < 8 then
      let r := can h i
      let h1 := match txNow r with | some (b, _) => backToPend i b h | none => h
      setCan (wr h1 0x20 i 0x094 2) i { can h1 i with trx := 2, mswin := none, slpReq := false, idle := false }
    else if i < 24 then
      let n := i - 8
      setLin (wr h 0x21 n 0x04C 1) n { lin h n with sleep := true, mswin := none, slpReq := false, cur := none }
    else ethCtl (i - 24) 0 h
  else h

/-- FAIL_SAFE_EXPIRY: the count, within the 10 % of CK_LPO, has reached 0 (R432, R436). -/
def failSafe (h : Hw) : Hw :=
  match h.nsc.fsFrom with
  | none => h
  | some t =>
    if h.now < t + fsTime h * 900 / 1000 then h else
    let h1 := forN 26 forceSleep h
    let h2 := wrF h1 0x23 0 0x064 0 1 1
    let h3 := if bit (cfg h2 0x23 0 0x400) 0 && domOn h2 18 then
        setNsc h2 { h2.nsc with st := 4, limit := false, latch := false, todo := [] } else h2
    fsUpdate (nscLevels h3)

/-! ## Wake events of the buses (R378 … R380, R400, R412) -/

/-- WUP: a dominant phase of `ns` on CAN `n` wakes when it passes the filter time (F + 1) × 0.5 µs, within its 20 % (R378, R429). -/
def canWup (n ns : Nat) (h : Hw) : Hw :=
  if wupHits h n && decide ((min 99 (cfgF h 0x23 0 0x414 0 7) + 1) * 500 * 80 ≤ ns * 100) then wakeSource n (canWakeFlag n 0 h) else h

/-- WUF: a wake frame that matches wakes. -/
def canWuf (n : Nat) (ide : Bool) (id dlc data : Nat) (h : Hw) : Hw :=
  if wufHits h n ide id dlc data then wakeSource n (canWakeFlag n 1 (setFec n (fecOf h n - 1) h)) else h

/-- FECW: a decoding error takes FEC above 31. -/
def canFecw (n : Nat) (h : Hw) : Hw :=
  let h1 := fecStep n true false h
  if canDetects h n ∧ 2 ≤ wmode h n ∧ 31 < fecOf h1 n then wakeSource n (canWakeFlag n 2 h1) else h1

/-- WAKE_DECODER_FRAME: a frame that does not match, or an error; FEC above 31 wakes as FECW does. -/
def canDecoder (n : Nat) (error fd : Bool) (h : Hw) : Hw :=
  let h1 := fecStep n error fd h
  if fecOf h n < fecOf h1 n ∧ 31 < fecOf h1 n then wakeSource n (canWakeFlag n 2 h1) else h1

/-- LIN_WAKE_DETECT on LIN `n`. -/
def linWake (n : Nat) (h : Hw) : Hw := if linDetects h n then wakeSource (4 + n) (linWakeFlag n h) else h

/-- TC10_WUP_RECEIVED: in SLEEP it wakes; in SLPNEG it fails the handshake. -/
def ethWup (n : Nat) (h : Hw) : Hw :=
  if (eth h n).tc = 1 then handshakeFailed n (tcFail n false h)
  else if wupDetects h n then
    (if n = 0 then wakeSource 8 (ethWakeFlag 0 h) else nscWake 9 (ethWakeFlag 1 h))
  else h

/-- TC10_WUR_RECEIVED: in NORMAL it sets WUR and wakes; in SLPNEG it fails the handshake. -/
def ethWur (n : Nat) (h : Hw) : Hw :=
  if (eth h n).tc = 1 then handshakeFailed n (tcFail n false h)
  else if (eth h n).tc = 0 ∧ domOn h (29 + n) = true then nscWake (8 + n) (tcWur n h)
  else h

/-- STATUS of the NSC page. -/
def nscStatus (h : Hw) : Nat :=
  h.nsc.fsFrom.isSome.toNat * 0x400 + h.nsc.latch.toNat * 0x200 + h.nsc.limit.toNat * 0x100 + h.nsc.st

end Sys2Proof.Machine
end

