-- ==== Sys2Proof/Machine/Hsw.lean ====
section
/-!
DEFINITION. The protected high-side channels of chapter 04: the application of commands at a boundary, edges, PWM periods,
current limit, retry, thermal latch, wire model, open load, and what a feed group does to its channels.
-/
namespace Sys2Proof.Machine

/-! ## Reading a channel -/

/-- The record of channel `n` in its power die. -/
def hsw (h : Hw) (n : Nat) : HswCh := smGet {} h.hsw n

/-- The record of feed group `g`. -/
def feed (h : Hw) (g : Nat) : Feed := smGet {} h.feeds g

/-- The configuration of a power-stage page as the power die holds it (R131, R500). -/
def die (h : Hw) (ty i off : Nat) : Word := smGet (regReset h.straps (pg ty i + off)) h.dieCfg (pg ty i + off)

/-- A field of the configuration that the die holds. -/
def dieF (h : Hw) (ty i off lo n : Nat) : Nat := fld (die h ty i off) lo n

/-- The feed group is supplied and not in under-voltage or restart delay. -/
def feedNormal (h : Hw) (g : Nat) : Bool := decide ((feed h g).supply = .on) && !(feed h g).uv

/-- The class of a channel: 0 S, 1 M, 2 L (R98). -/
def hswClass (n : Nat) : Nat := if n < 48 then 0 else if n < 80 then 1 else 2

/-- The class nominal current in mA (R98). -/
def hswNominal (n : Nat) : Nat := match hswClass n with | 0 => 2500 | 1 => 8000 | _ => 20000

/-- The limit level `l` of a channel's class, in mA (R98). -/
def hswLevel (n l : Nat) : Nat :=
  match hswClass n, l with
  | 0, 0 => 3500 | 0, 1 => 5000 | 0, 2 => 7500 | 0, _ => 10000
  | 1, 0 => 12000 | 1, 1 => 16000 | 1, 2 => 24000 | 1, _ => 32000
  | _, 0 => 30000 | _, 1 => 40000 | _, 2 => 60000 | _, _ => 80000

/-- The active limit in mA: LIM_INR while the inrush window runs, LIM_RUN otherwise, and whenever INR_T is 0 (R111). -/
def hswLimit (h : Hw) (n : Nat) : Nat :=
  hswLevel n (if (hsw h n).inrush && decide (dieF h 0x10 n 0x40C 8 8 ≠ 0) then dieF h 0x10 n 0x40C 4 2 else dieF h 0x10 n 0x40C 0 2)

/-- The limit whose 1.5-fold is the short-circuit threshold: the active limit, but LIM_INR for t_LIMON after a window that ended while the
current was held at it (R111, R112). -/
def hswScLimit (h : Hw) (n : Nat) : Nat :=
  match (hsw h n).limAt with
  | some t => if h.now < t + min 5 (Config.limOnTime n) then hswLevel n (dieF h 0x10 n 0x40C 4 2) else hswLimit h n
  | none => hswLimit h n

/-- RMAX of the channel's configuration (R115). -/
def hswRmax (h : Hw) (n : Nat) : Nat := dieF h 0x10 n 0x410 0 4

/-- XSEC selects no wire model (R119, R121). -/
def wireOff (h : Hw) (n : Nat) : Bool := decide (11 ≤ dieF h 0x10 n 0x418 0 4)

/-- K of the wire model, unsigned Q8.16 in K/A² (R119). -/
def wireK (h : Hw) (n : Nat) : Nat :=
  match dieF h 0x10 n 0x418 0 4 with
  | 0 => dieF h 0x10 n 0x41C 0 24
  | 1 => 51200 | 2 => 32768 | 3 => 19389 | 4 => 12800 | 5 => 8192 | 6 => 4180 | 7 => 2394 | 8 => 1422 | 9 => 752
  | 10 => 405 | _ => 0

/-- τ of the wire model in units of 10 ms (R119); a WIRE_TAU of 0 acts as 1. -/
def wireTau (h : Hw) (n : Nat) : Nat :=
  match dieF h 0x10 n 0x418 0 4 with
  | 0 => max 1 (dieF h 0x10 n 0x420 0 16)
  | 1 => 800 | 2 => 1100 | 3 => 1500 | 4 => 1900 | 5 => 2700 | 6 => 4000 | 7 => 5800 | 8 => 8000 | 9 => 12000
  | 10 => 17000 | _ => 1

/-- The held wire temperature rise in 1/64 K, saturating at 0xFFFE (R118). -/
def theta (r : HswCh) : Nat := min 0xFFFE (r.thetaX / 2 ^ 26)

/-- The allowed rise A in K: T_MAX − TAMB (R120). -/
def wireA (h : Hw) (n : Nat) : Int :=
  let tmax : Int := match dieF h 0x10 n 0x418 4 2 with | 0 => 85 | 1 => 105 | 2 => 125 | _ => 150
  tmax - sext 8 (dieF h 0x10 n 0x418 8 8)

/-- θ ≥ A: the model trips (R120); A is the one that the last update took (R121). -/
def wireHot (h : Hw) (n : Nat) (r : HswCh) : Bool := !wireOff h n && decide (r.allow * 64 ≤ (theta r : Int))

/-- θ ≥ 0.75 × A (R120); no model selected, or none updated since it was, gives no warning (R121). -/
def wireWarn (h : Hw) (n : Nat) (r : HswCh) : Bool := !wireOff h n && !r.modelOff && decide (r.allow * 48 ≤ (theta r : Int))

/-- θ ≤ A − WREL, or no model is selected (R120, R121). -/
def wireCool (h : Hw) (n : Nat) (r : HswCh) : Bool :=
  wireOff h n || decide ((theta r : Int) ≤ (r.allow - (dieF h 0x10 n 0x418 16 8 : Int)) * 64)

/-- The feed lead channel of group `g`: its page holds FEED_STAT and FEED_CFG. -/
def leadCh (g : Nat) : Nat := 12 * g

/-- The channels of feed group `g` (R11). -/
def groupCh (g : Nat) : List Nat := (List.range 96).filter (fun n => decide (hswGroup n = g))

/-! ## Writing a channel: its level sources follow its record (R134) -/

/-- The level sources of channel `n`, as its record and its feed group stand. -/
def hswLevels (n : Nat) (h : Hw) : Hw :=
  let r := hsw h n
  let h1 := level h 0x10 n 0 (decide (r.st = .limit))
  let h2 := level h1 0x10 n 3 r.tl
  let h3 := level h2 0x10 n 4 (decide (r.st = .wire))
  let h4 := level h3 0x10 n 5 (decide (r.st = .lockout))
  let h5 := level h4 0x10 n 6 r.ol
  let h6 := level h5 0x10 n 7 (feed h (hswGroup n)).uv
  level h6 0x10 n 11 (r.supplied && wireWarn h n r)

/-- The timers of channel `n`. -/
def hswT (h : Hw) (n : Nat) : HswTime := smGet {} h.hswT n

/-- The limit-time accumulator as it stands now: it runs while the channel limits, and holds still while its output is off (R113). -/
def hswLimited (h : Hw) (n : Nat) : Nat :=
  let r := hsw h n
  (hswT h n).limited + (if r.out && decide (r.st = .limit) then h.now - (hswT h n).since else 0)

/-- The time that the channel has driven without limiting, as it stands now (R113). -/
def hswFree (h : Hw) (n : Nat) : Nat :=
  let r := hsw h n
  if r.st = .limit then 0 else (hswT h n).free + (if r.out && decide (r.st = .on) then h.now - (hswT h n).since else 0)

/-- The timers of channel `n` when its record becomes `r`: times are accounted, a delay starts with the state RETRY, a window with the
gate drive that opens it (R111, R113, R115). -/
def hswClock (h : Hw) (n : Nat) (r : HswCh) : HswTime :=
  let o := hsw h n
  let t := hswT h n
  { since := h.now
    limited := if r.acc then hswLimited h n else 0
    free := if r.acc && decide (r.st ≠ .limit) then hswFree h n else 0
    retryAt := if r.st = .retry ∧ o.st ≠ .retry then h.now else t.retryAt
    inrAt := if r.inrush && !o.inrush then h.now else t.inrAt }

/-- Replace the record of channel `n`; its timers and its level sources follow. -/
def setHsw (h : Hw) (n : Nat) (r : HswCh) : Hw :=
  hswLevels n { h with hsw := smPut {} n r h.hsw, hswT := smPut {} n (hswClock h n r) h.hswT }

/-- The output stage stops conducting and no edge stays pending. -/
def hswCut (r : HswCh) : HswCh :=
  { r with out := false, pend := false, inrush := false, acc := false, limAt := none, ran := r.ran || r.out }

/-- A protection switch-off into `st`; an entry from ON or LIMIT counts in TRIP_CNT (R124). -/
def hswTrip (h : Hw) (n : Nat) (st : HswSt) : Hw :=
  let r := hsw h n
  let h1 := if (r.st = .on ∨ r.st = .limit) ∧ pageOn h 0x10 n = true then incSat h 0x10 n 0x04C 0 16 1 else h
  setHsw h1 n { hswCut r with st := st }

/-- The state that an SC or LIMQ switch-off enters: RETRY with retries left, LOCKOUT without (R115). -/
def retryOrLockout (r : HswCh) : HswSt := if r.retryLeft = 0 then .lockout else .retry

/-- The channel takes up its applied command under the restart rule of R127: ON after PHOFF, PWM at its next period start. -/
def hswRestart (h : Hw) (n : Nat) (r : HswCh) : HswCh :=
  if r.cmd = 1 then { hswCut r with st := .off, pend := true, edgeAt := h.now + dieF h 0x10 n 0x404 0 16, fresh := true }
  else { hswCut r with st := .on, fresh := true }

/-- The state a channel takes when what held it off has ended (R123, R124). -/
def hswSettle (h : Hw) (n : Nat) (r : HswCh) : HswCh :=
  if r.tl then { hswCut r with st := .therm }
  else if r.cmd = 0 then { hswCut r with st := .off }
  else if feedNormal h (hswGroup n) then hswRestart h n r
  else { hswCut r with st := .uvoff }

/-! ## The PWM schedule, shared with the half-bridges (R104 … R107, R144) -/

/-- A boundary at `t` µs applies duty `d`: `is` and `was` say whether PWM is and was the command, `leaving` that an edge out of PWM was
pending: the period that runs then ends before the new schedule starts (log entry 75). The duty in force stays readable until the next
period start. -/
def pwmApply (p : Pwm) (d : Nat) (is was leaving : Bool) (t : Nat) : Pwm :=
  { p with
    duty := d
    dutyWas := if is && !was then d else if was && (!is || decide (d ≠ p.duty)) then p.duty else p.dutyWas
    onAt := if is && !was then t * 64 else p.onAt
    dutyAt := if is && (!was || decide (d ≠ p.duty)) then t * 64 else p.dutyAt
    perEnd := if is && !was && !leaving then 0 else p.perEnd
    moved := is && was && p.moved }

/-- A started period: the schedule record, its on-time and its off-time in CK_PWM cycles. -/
structure PwmHit where
  p : Pwm
  onT : Nat
  offT : Nat

/-- Period `m` of a schedule with period `per`, offset `off` and epoch `e` starts (R105, R106, R107): a start that would fall
before t_OA after the boundary that applied PWM is moved to that instant and its on-phase still ends at its scheduled time; a new
duty holds from the first start at or after t_OA after its own boundary; a new schedule starts only once the present period has ended. -/
def pwmStart (per off e m tOa : Nat) (is : Bool) (p : Pwm) : Option PwmHit :=
  let sched := e + off % per + m * per
  let start := max sched (p.onAt + min tOa 64)
  if start < p.perEnd ∨ sched + per ≤ start then none
  else
    let duty := if is && (decide (p.dutyAt + min tOa 64 ≤ start) || decide (p.perEnd = 0)) then p.duty else p.dutyWas
    let on := per * duty / 65535
    some ⟨{ p with perEnd := sched + per, dutyWas := if is then p.dutyWas else duty, moved := false }, sched + on - start, per - on⟩

/-- The output of a schedule may switch off now: its on-phase ends, or a period held on to its end is over and the new schedule that was
applied in it has not started yet (R105, R107). -/
def pwmOffNow (h : Hw) (p : Pwm) : Bool := !p.stay || (p.moved && decide (p.perEnd ≤ h.tbCopy * 64))

/-! ## A boundary applies a command (R102, R103, R109, R115, R117, R120, R124) -/

/-- What a boundary that applies command `c` with duty `d` makes of a channel's state. -/
def hswMove (h : Hw) (n : Nat) (r : HswCh) (old : Nat) : HswCh :=
  let c := r.cmd
  match r.st with
  | .wire => if wireCool h n r && r.offSeen then hswSettle h n r else r
  | .therm => r
  | .lockout => if c = 0 then { r with st := .off } else r
  | .retry => if c = 0 then { r with st := .off } else r
  | .uvoff => if c = 0 then { r with st := .off } else r
  | .off =>
    if c = 0 then { r with pend := false }
    else if c = old ∧ r.pend = true then r
    else if feedNormal h (hswGroup n) then
      if c = 1 then { r with pend := true, edgeAt := h.now + dieF h 0x10 n 0x404 0 16, fresh := true }
      else { r with st := .on, pend := false, fresh := true }
    else { r with st := .uvoff, pend := false }
  | .on | .limit =>
    if c = old ∧ (c ≠ 0 ∨ r.pend = true) then r
    else if c = 2 then { r with pend := false }
    else { r with
      pend := true, edgeAt := h.now + dieF h 0x10 n 0x404 0 16, pwmOld := decide (old = 2) || (r.pend && r.pwmOld) }

/-- The epoch of a channel's schedule is set: its own, or that of its phase group (R106). -/
def hswEpoch (h : Hw) (n : Nat) : Hw :=
  let g := dieF h 0x10 n 0x404 16 4
  let r := hsw h n
  if g = 0 then { h with hsw := smPut {} n { r with pwm := { r.pwm with epoch := h.tbCopy * 64 } } h.hsw }
  else { h with epochs := smPut 0 g (h.tbCopy * 64) h.epochs }

/-- A boundary, or the fallback pattern, applies command `c` with duty `d` to channel `n`; `keep` says that its epoch stays (R106): PWM was
and is applied to it without a group, or to a channel of its group. -/
def hswApply (n c d : Nat) (keep : Bool) (h : Hw) : Hw :=
  let r := hsw h n
  let old := r.cmd
  let r1 : HswCh := { r with
    cmd := c
    pwm := pwmApply r.pwm d (decide (c = 2)) (decide (old = 2)) (r.pend && r.pwmOld) h.tbCopy
    inrush := r.inrush && decide (dieF h 0x10 n 0x40C 8 8 ≠ 0)
    limAt := if r.inrush && decide (dieF h 0x10 n 0x40C 8 8 = 0 ∧ r.st = .limit) then some h.now else r.limAt
    retryLeft := if c = 0 then hswRmax h n else min (hswRmax h n) r.retryLeft
    ol := if c = 0 then false else r.ol
    offSeen := r.offSeen || (decide (r.st = .wire) && decide (c = 0)) }
  let rej := (decide (r.st = .lockout) || decide (r.st = .wire)) && decide (c ≠ 0) && decide (c ≠ old)
  let h1 := if rej then pulse h 0x10 n 10 else h
  let h2 := setHsw h1 n (hswMove h1 n r1 old)
  if c = 2 ∧ keep = false then hswEpoch h2 n else h2

/-! ## Edges and PWM periods -/

/-- The microseconds from now to the instant `t` of a pending edge in die `g`; none where a frame boundary comes before it. A die
that keeps its own time across a controller reset knows no boundary (R103, R143, R500). -/
def edgeLeft (h : Hw) (g t : Nat) : Option Nat :=
  let left := t - h.now
  if left ≤ h.frameStart + h.frameLen - h.timebase ∨ (feed h g).mode ≠ .normal ∨ domOn h 18 = false then some left else none

/-- What is left to the pending edge of channel `n`. -/
def edgeIn (h : Hw) (n : Nat) : Option Nat := edgeLeft h (hswGroup n) (hsw h n).edgeAt

/-- The gate drive of the pending edge starts, and the output takes the command (R102, R103, R109, R111). -/
def hswEdgeGo (n : Nat) (h : Hw) : Hw :=
  let r := hsw h n
  if r.cmd = 0 then setHsw h n { hswCut r with st := .off }
  else if r.cmd = 1 then
    setHsw h n { r with
      st := if r.st = .off then .on else r.st, pend := false, out := !r.flashOff, fresh := r.fresh && r.flashOff
      pwmOld := false, ran := r.ran || r.out
      inrush := if r.fresh && !r.flashOff then decide (dieF h 0x10 n 0x40C 8 8 ≠ 0) else r.inrush }
  else h

/-- HSW_EDGE_START (R102, R103, R109): the instant of the pending edge of channel `n`; time moves up to it. -/
def hswEdge (n : Nat) (h : Hw) : Hw :=
  if (hsw h n).pend then
    match edgeIn h n with
    | some 0 => hswEdgeGo n h
    | some k => hswEdgeGo n (advance k h)
    | none => h
  else h

/-- The PWM period in CK_PWM cycles, within 2560 … 6 400 000 (R104). -/
def hswPer (h : Hw) (n : Nat) : Nat := min 6400000 (max 2560 (dieF h 0x10 n 0x400 0 23))

/-- The epoch in force for a channel whose own epoch is `own` and whose phase group is `g` (R106). -/
def epochOf (h : Hw) (g own : Nat) : Nat := if g = 0 then own else smGet 0 h.epochs g

/-- The shortest phase that slew step `slew` switches, in cycles: at most 6, 16, 45 or 140 µs (R110). -/
def tooShort (slew t : Nat) : Bool :=
  let top := match slew with | 0 => 384 | 1 => 1024 | 2 => 2880 | _ => 8960
  decide (t ≠ 0) && decide (t < top) && decide (t < Config.minPhase slew)

/-- PWM_PERIOD_START (R105 … R109, R111): period `m` of channel `n` starts; `tOa` is t_OA in cycles. -/
def hswPeriod (n m tOa : Nat) (h : Hw) : Hw :=
  let r := hsw h n
  if (r.cmd = 2 ∨ (r.pend = true ∧ r.pwmOld = true)) ∧ (r.st = .on ∨ r.st = .limit) then
    let e := epochOf h (dieF h 0x10 n 0x404 16 4) r.pwm.epoch
    match pwmStart (hswPer h n) (64 * dieF h 0x10 n 0x404 0 16) e m tOa (decide (r.cmd = 2)) r.pwm with
    | none => h
    | some q =>
      let slew := dieF h 0x10 n 0x408 0 2
      let clipOn := tooShort slew q.onT
      let clipOff := tooShort slew q.offT
      let go := decide (q.onT ≠ 0) && !clipOn
      let r1 : HswCh := { r with
        out := go, ran := r.ran || r.out, pwm := { q.p with stay := go && (clipOff || decide (q.offT = 0)) }, fresh := r.fresh && !go
        inrush := if r.fresh && go then decide (dieF h 0x10 n 0x40C 8 8 ≠ 0) else r.inrush
        st := if go then r.st else .on }
      setHsw (if clipOn || (go && clipOff) then pulse h 0x10 n 9 else h) n r1
  else h

/-- PWM_ON_PHASE_END (R105, R107, R108, R113): the on-phase ends, unless the off-phase is too short to switch; a period of an old schedule
that held the output on ends too. -/
def hswOnEnd (n : Nat) (h : Hw) : Hw :=
  let r := hsw h n
  if (r.cmd = 2 ∨ (r.pend = true ∧ r.pwmOld = true)) ∧ r.out = true ∧ pwmOffNow h r.pwm = true then
    setHsw h n { r with out := false, ran := true, st := .on }
  else h

/-! ## Protection -/

/-- CURRENT_LIMIT_ENTRY (R111, R113): the current reaches the active limit, within its tolerance of 10 %. -/
def hswLimEntry (n mA : Nat) (h : Hw) : Hw :=
  let r := hsw h n
  if r.st = .on ∧ r.out = true ∧ hswLimit h n * 9 ≤ mA * 10 then setHsw h n { r with st := .limit, acc := true } else h

/-- CURRENT_LIMIT_EXIT (R113): the current falls below the active limit. -/
def hswLimExit (n : Nat) (h : Hw) : Hw :=
  let r := hsw h n
  if r.st = .limit then setHsw h n { r with st := .on } else h

/-- INRUSH_WINDOW_END (R111): INR_T has passed, within its 5 %, and the active limit becomes LIM_RUN; the channel stays in LIMIT, and the
short-circuit threshold stays for t_LIMON where the current was held at LIM_INR. -/
def hswInrushEnd (n : Nat) (h : Hw) : Hw :=
  let r := hsw h n
  if r.inrush = true ∧ (hswT h n).inrAt + dieF h 0x10 n 0x40C 8 8 * 950 ≤ h.now then
    setHsw h n { r with inrush := false, limAt := if r.st = .limit then some h.now else r.limAt }
  else h

/-- LIMIT_ACC_CLEAR (R113): t_LIMRST of driving without limiting, within its 5 %, returns the accumulator to 0. -/
def hswAccClear (n : Nat) (h : Hw) : Hw :=
  let r := hsw h n
  if r.st = .on ∧ 950 ≤ hswFree h n then setHsw h n { r with acc := false } else h

/-- SHORT_CIRCUIT (R112): the current exceeds 1.5 times the limit, within 15 %; off at once, RETRY or LOCKOUT. -/
def hswShort (n mA : Nat) (h : Hw) : Hw :=
  let r := hsw h n
  if (r.st = .on ∨ r.st = .limit) ∧ r.out = true ∧ hswScLimit h n * 3 * 85 < mA * 200 then
    hswTrip (pulse h 0x10 n 1) n (retryOrLockout r)
  else h

/-- REVERSE_CURRENT_TRIP (R638): reverse current above 1.5 times the class nominal acts as a short circuit. -/
def hswReverse (n mA : Nat) (h : Hw) : Hw :=
  let r := hsw h n
  if (r.st = .on ∨ r.st = .limit) ∧ r.out = true ∧ hswNominal n * 3 < mA * 2 then
    hswTrip (pulse h 0x10 n 1) n (retryOrLockout r)
  else h

/-- The limit time that LIM_CFG.LIMQ selects, in µs (R113). -/
def limqTime (h : Hw) (n : Nat) : Nat :=
  match dieF h 0x10 n 0x40C 16 3 with | 0 => 50 | 1 => 200 | 2 => 1000 | 3 => 5000 | 4 => 20000 | _ => 100000

/-- The retry delay that RETRY_CFG.RDLY selects, in µs (R115). -/
def retryTime (h : Hw) (n : Nat) : Nat :=
  match dieF h 0x10 n 0x410 4 3 with
  | 0 => 1000 | 1 => 10000 | 2 => 50000 | 3 => 100000 | 4 => 200000 | 5 => 500000 | 6 => 1000000 | _ => 2000000

/-- LIMQ (R113): the limit-time accumulator reaches the selected time, within its 5 %. -/
def hswLimq (n : Nat) (h : Hw) : Hw :=
  let r := hsw h n
  if r.st = .limit ∧ limqTime h n * 95 ≤ hswLimited h n * 100 then hswTrip (pulse h 0x10 n 2) n (retryOrLockout r) else h

/-- HSW_THERMAL_LATCH_SET (R114, R116): the junction reaches T_TL, 165 … 185 °C. -/
def hswTherm (n : Nat) (degC : Nat) (h : Hw) : Hw :=
  let r := hsw h n
  if r.supplied = true ∧ 165 ≤ degC then
    let h1 := { h with hsw := smPut {} n { r with tl := true } h.hsw }
    if r.st = .wire then setHsw h1 n { r with tl := true } else hswTrip h1 n .therm
  else h

/-- HSW_THERMAL_LATCH_RELEASE (R114, R116): the junction falls to T_TL − T_HYS; a full retry delay starts with retries left. -/
def hswThermRelease (n : Nat) (degC : Nat) (h : Hw) : Hw :=
  let r := hsw h n
  if r.tl = true ∧ degC ≤ 170 then
    let r1 := { r with tl := false }
    if r.st = .therm then setHsw h n { r1 with st := if r.cmd = 0 then .off else retryOrLockout r } else setHsw h n r1
  else h

/-- RETRY_DELAY_END (R115, R123, R124): the delay has passed, within its 5 %; one retry is used and the channel switches on again under
its applied command; under OFF it is in OFF. -/
def hswRetryEnd (n : Nat) (h : Hw) : Hw :=
  let r := hsw h n
  if r.st = .retry ∧ (hswT h n).retryAt + retryTime h n * 95 / 100 ≤ h.now then
    let r1 := { r with retryLeft := r.retryLeft - 1 }
    if r.cmd = 0 then setHsw h n { r1 with st := .off }
    else if feedNormal h (hswGroup n) then
      if r.cmd = 1 ∧ r.flashOff = false then
        setHsw h n { r1 with st := .on, out := true, inrush := decide (dieF h 0x10 n 0x40C 8 8 ≠ 0) }
      else setHsw h n { r1 with st := .on, fresh := true }
    else setHsw h n { r1 with st := .uvoff }
  else h

/-- A configuration that selects no model: no update runs, θ is 0 until a model is selected again, and WIRE ends at an applied OFF
(R121). -/
def wireSelect (n : Nat) (h : Hw) : Hw :=
  let r := hsw h n
  if r.supplied && wireOff h n then
    let r1 := { r with thetaX := 0, modelOff := true }
    setHsw h n (if r.st = .wire ∧ r.offSeen = true then hswSettle h n r1 else r1)
  else h

/-- WIRE_MODEL_UPDATE (R118, R120, R121): one update with the mean square current `i2` in units of (10 µA)², which is 0 for a channel that
has been off; the first update after a model is selected again starts θ at THINIT. The update takes A as configured now. -/
def hswWire (n i2 : Nat) (h : Hw) : Hw :=
  let r := hsw h n
  if r.supplied then
    if wireOff h n then wireSelect n h
    else
      let i2 := if r.out || r.ran then i2 else 0
      let steady : Int := (wireK h n * 65536 * i2 / 10 ^ 10 : Nat)
      let next : Int := if r.modelOff then (dieF h 0x10 n 0x418 24 8 * 2 ^ 32 : Nat)
        else r.thetaX + (steady - r.thetaX) / (100 * wireTau h n : Nat)
      let r1 := { r with thetaX := min (0xFFFE * 2 ^ 26) next.toNat, modelOff := false, ran := r.out, allow := wireA h n }
      let h1 := { h with hsw := smPut {} n r1 h.hsw }
      if r.st = .wire then setHsw h1 n (if wireCool h n r1 && r.offSeen then hswSettle h n r1 else r1)
      else if wireHot h n r1 then hswTrip { h1 with hsw := smPut {} n { r1 with offSeen := false } h1.hsw } n .wire
      else setHsw h1 n r1
  else h

/-- OPEN_LOAD_DETECT (R122): below OL_THR for OL_QT of evaluated time. -/
def hswOpen (n mA : Nat) (h : Hw) : Hw :=
  let r := hsw h n
  if (r.st = .on ∨ r.st = .limit) ∧ r.out = true ∧ dieF h 0x10 n 0x414 16 8 ≠ 0 ∧ mA * 100 < dieF h 0x10 n 0x414 0 12 * 102 + 100 then
    setHsw h n { r with ol := true }
  else h

/-- OPEN_LOAD_CLEAR (R122): above 1.125 × OL_THR for OL_QT of evaluated time. -/
def hswOpenClear (n mA : Nat) (h : Hw) : Hw :=
  let r := hsw h n
  if (r.st = .on ∨ r.st = .limit) ∧ r.out = true ∧ dieF h 0x10 n 0x414 0 12 * 9 * 98 < mA * 800 + 800 then
    setHsw h n { r with ol := false }
  else h

/-! ## What the feed group does to a channel (R126 … R128) -/

/-- Under-voltage: a conducting output switches off; ON and PWM enter UVOFF, a pending switch-off ends in OFF (R126). -/
def hswUv (n : Nat) (h : Hw) : Hw :=
  let r := hsw h n
  if r.st = .on ∨ r.st = .limit ∨ r.st = .off then
    setHsw h n { hswCut r with st := if r.cmd = 0 then .off else .uvoff }
  else setHsw h n r

/-- Restart of the group: a channel in UVOFF takes up its command, and RESTART pulses (R127, R134). -/
def hswGroupRestart (n : Nat) (h : Hw) : Hw :=
  let r := hsw h n
  pulse (setHsw h n (if r.st = .uvoff then hswRestart h n r else r)) 0x10 n 8

/-- The die loses its supply: the channel is off and its protection state is lost (R128). -/
def hswUnsupply (n : Nat) (h : Hw) : Hw :=
  let r := hsw h n
  setHsw h n { hswCut r with
    st := if r.cmd = 0 then .off else .uvoff, supplied := false, tl := false, ol := false, thetaX := 0, offSeen := false, ran := false }

/-- The die's supply starts: θ at THINIT, latches clear, RETRY_LEFT at RMAX (R128). -/
def hswSupply (n : Nat) (h : Hw) : Hw :=
  let r := hsw h n
  setHsw h n { hswCut r with
    st := if r.cmd = 0 then .off else .uvoff, supplied := true, tl := false, modelOff := wireOff h n, offSeen := false, ran := false, allow := wireA h n
    thetaX := if wireOff h n then 0 else dieF h 0x10 n 0x418 24 8 * 2 ^ 32, retryLeft := hswRmax h n }

/-! ## The composite read-only registers (R133, R134) -/

/-- The code of a state in STATE.ST (R123). -/
def hswCode : HswSt → Nat
  | .off => 0 | .on => 1 | .limit => 2 | .retry => 3 | .therm => 4 | .lockout => 5 | .wire => 6 | .uvoff => 7

/-- STATE of channel `n`. -/
def hswState (h : Hw) (n : Nat) : Nat :=
  let r := hsw h n
  r.retryLeft * 2 ^ 24 + r.pend.toNat * 2 ^ 16 + (r.supplied && wireWarn h n r).toNat * 2 ^ 12 + (feed h (hswGroup n)).uv.toNat * 2 ^ 11
    + r.ol.toNat * 2 ^ 10 + r.tl.toNat * 2 ^ 9 + r.out.toNat * 2 ^ 8 + hswCode r.st

/-- WIRE_THETA of channel `n`: 0xFFFF while its die has lost its supply (R128). -/
def hswTheta (h : Hw) (n : Nat) : Nat :=
  if (feed h (hswGroup n)).supply = .lost then 0xFFFF else theta (hsw h n)

/-- The index of a channel's current on its MEAS page (R67). -/
def hswMidx (n : Nat) : Nat := if n < 48 then n % 12 else if n < 80 then 12 + (n - 48) % 8 else 20 + (n - 80) % 4

/-- INFO of channel `n`. -/
def hswInfo (n : Nat) : Nat := hswMidx n * 256 + hswGroup n * 16 + hswClass n

/-- FEED_STAT of group `g`, but for UV_CNT, which is stored. -/
def feedStat (h : Hw) (g : Nat) : Nat :=
  (bit h.straps 4).toNat * 4 + (feed h g).rstPend.toNat * 2 + (feed h g).uv.toNat

end Sys2Proof.Machine
end

