-- ==== Sys2Proof/Machine/Hbr.lean ====
section
/-!
DEFINITION. The half-bridges of chapter 05: units and topologies, the application of commands, switch changes, PWM,
current regulation, trips, stall, position and park, under-voltage.
-/
namespace Sys2Proof.Machine

/-! ## Units (R137) -/

/-- The record of the unit led by half-bridge `u`. -/
def hbr (h : Hw) (u : Nat) : HbrU := smGet {} h.hbr u

/-- A field of the half-bridge configuration that the die holds. -/
def hbrF (h : Hw) (n off lo w : Nat) : Nat := dieF h 0x11 n off lo w

/-- The lead half-bridge of the unit that half-bridge `n` belongs to. -/
def hbrLead (h : Hw) (n : Nat) : Nat :=
  let b := 6 * (n / 6)
  let e := n - n % 2
  if hbrF h b 0x408 0 2 = 2 ∧ n < b + 4 then b
  else if hbrF h e 0x408 0 2 = 1 ∨ hbrF h e 0x408 0 2 = 2 then e
  else n

/-- The half-bridges of the unit led by `u`. -/
def hbrMembers (h : Hw) (u : Nat) : List Nat := (List.range 24).filter (fun n => decide (hbrLead h n = u))

/-- The unit is a single half-bridge. -/
def hbrSingle (h : Hw) (u : Nat) : Bool := decide ((hbrMembers h u).length ≤ 1)

/-- INFO.ROLE of half-bridge `n`. -/
def hbrRole (h : Hw) (n : Nat) : Nat :=
  let u := hbrLead h n
  if u ≠ n then 3 else match (hbrMembers h n).length with | 2 => 1 | 4 => 2 | _ => 0

/-- A command drives: HIGH, LOW, PWM of a single half-bridge; FWD, REV, FPWM, RPWM otherwise (R141). -/
def hbrDrives (single : Bool) (c : Nat) : Bool := if single then decide (1 ≤ c ∧ c ≤ 3) else decide (c = 1 ∨ c = 2 ∨ c = 5 ∨ c = 6)

/-- A command is a PWM command (R141). -/
def hbrIsPwm (single : Bool) (c : Nat) : Bool := if single then decide (c = 3) else decide (c = 5 ∨ c = 6)

/-- The direction a command drives: 1 FWD, 2 REV, 0 none; a single half-bridge has no direction. -/
def hbrDir (single : Bool) (c : Nat) : Nat := if single then 0 else if c = 1 ∨ c = 5 then 1 else if c = 2 ∨ c = 6 then 2 else 0

/-- The switches a command asks for outside PWM off-phases (R141). -/
def hbrSw (single : Bool) (c : Nat) : Sw :=
  if single then (match c with | 1 => .fwd | 2 => .rev | 3 => .fwd | _ => .open)
  else match c with | 1 => .fwd | 2 => .rev | 3 => .lows | 4 => .highs | 5 => .fwd | 6 => .rev | _ => .open

/-- The switches of the off-phase: slow decay turns on every low side, fast decay turns every switch off (R142). -/
def hbrDecaySw (h : Hw) (u : Nat) : Sw := if hbrF h u 0x408 4 1 = 0 then .lows else .open

/-- STATE.OUT of half-bridge `n`: 0 both off, 1 high, 2 low. -/
def hbrOut (h : Hw) (n : Nat) : Nat :=
  let u := hbrLead h n
  let isA := decide ((n - u) % 2 = 0)
  match (hbr h u).sw with
  | .open => 0
  | .lows => 2
  | .highs => 1
  | .fwd => if isA then 1 else 2
  | .rev => if isA then 2 else 1

/-! ## Writing a unit: its level sources follow on every page of it (R165) -/

/-- The level sources of half-bridge `n`. -/
def hbrLevels (n : Nat) (h : Hw) : Hw :=
  let r := hbr h (hbrLead h n)
  let h1 := level h 0x11 n 0 r.regAct
  let h2 := level h1 0x11 n 3 (smGet false h.hbrTl n)
  let h3 := level h2 0x11 n 4 (decide (r.st = .trip))
  let h4 := level h3 0x11 n 8 (feed h (n / 6)).uv
  level h4 0x11 n 10 (decide (r.st = .uvlock))

/-- Replace the record of the unit led by `u`; the level sources of its pages follow. -/
def setHbr (h : Hw) (u : Nat) (r : HbrU) : Hw :=
  let h1 := { h with hbr := smPut {} u r h.hbr }
  forL (hbrMembers h u) hbrLevels h1

/-- Pulse source `k` on every page of the unit. -/
def hbrPulse (h : Hw) (u k : Nat) : Hw := forL (hbrMembers h u) (fun n x => pulse x 0x11 n k) h

/-- Every switch of the unit is off and nothing is pending; that regulation acted stays known for its 1 ms (R146). -/
def hbrCut (r : HbrU) : HbrU := { r with sw := .open, pend := false, decay := false, onPh := false }

/-- The unit's state: REG stands above DRIVE, BRAKE and OFF while regulation has acted within the last 1 ms (R156). -/
def hbrSt (r : HbrU) : HbrSt :=
  match r.st with
  | .drive | .brake | .off => if r.regAct then .reg else r.st
  | s => s

/-- An entry into TRIP, THERM or HALT counts on every page of the unit (R156). -/
def hbrCount (h : Hw) (u : Nat) : Hw :=
  forL (hbrMembers h u) (fun n x => if pageOn x 0x11 n then incSat x 0x11 n 0x04C 0 16 1 else x) h

/-- A latch of the unit is set. -/
def hbrLatched (h : Hw) (u : Nat) : Bool := (hbrMembers h u).any (fun n => smGet false h.hbrTl n)

/-- The state a command gives once its switches act (R156). -/
def hbrStOf (single : Bool) (c : Nat) : HbrSt := if hbrDrives single c then .drive else if c = 0 then .off else .brake

/-! ## Commands (R143, R145, R154, R157) -/

/-- A drive phase: the unit's switches drive the load. -/
def hbrDriving (r : HbrU) : Bool := decide (r.st = .drive) && (decide (r.sw = .fwd) || decide (r.sw = .rev))

/-- The instant at which a switch change asked for now starts (R143). -/
def hbrEdge (h : Hw) (u : Nat) : Nat := h.now + hbrF h u 0x404 0 16

/-- The unit's switches follow command `r.cmd` from now on, in state `st`; a drive start is an entry into DRIVE (R151). -/
def hbrTake (h : Hw) (u : Nat) (st : HbrSt) (r : HbrU) : HbrU :=
  let d := hbrDir (hbrSingle h u) r.cmd
  { r with
    act := r.cmd, st := st, pend := false, decay := false, dir := if d = 0 then r.dir else d
    driveAt := if st = .drive ∧ r.st ≠ .drive then h.now else r.driveAt }

/-- The unit goes to command `r.cmd`: for PWM at once, and a unit that drives goes on until the first period starts (R109, R144); else by
a switch change that waits for its instant (R143). -/
def hbrGo (h : Hw) (u : Nat) (r : HbrU) : HbrU :=
  let r1 := { r with halted := false }
  if hbrIsPwm (hbrSingle h u) r.cmd then
    { hbrTake h u .drive r1 with onPh := hbrDriving r, pwm := { r.pwm with stay := hbrDriving r } }
  else { r1 with pend := true, edgeAt := hbrEdge h u }

/-- The unit enters REVDLY: every switch off, REV_T counts from the instant of R143; REV_T = 0 gives only the dead time (R145). -/
def hbrRev (h : Hw) (u : Nat) (r : HbrU) : HbrU :=
  let t := hbrF h u 0x408 16 8
  if t = 0 then hbrGo h u r
  else { hbrCut r with st := .revdly, halted := false, act := 0, revAt := hbrEdge h u + t * 950 }

/-- The command drives the direction opposite to the last driven one (R145). -/
def hbrOpp (h : Hw) (u : Nat) (r : HbrU) : Bool :=
  let d := hbrDir (hbrSingle h u) r.cmd
  decide (d ≠ 0) && decide (r.dir ≠ 0) && decide (d ≠ r.dir)

/-- What a boundary that applies `r.cmd`, after `old`, makes of a unit. -/
def hbrMove (h : Hw) (u : Nat) (r : HbrU) (old : Nat) : HbrU :=
  let c := r.cmd
  let r := { r with halted := r.halted && decide (c = r.haltCmd) }
  match hbrSt r with
  | .therm => r
  | .trip | .uvlock | .uvoff => if c = 0 then { hbrCut r with st := .off } else r
  | .halt =>
    if c = r.haltCmd then r else if hbrOpp h u r then hbrRev h u r else hbrGo h u r
  | .revdly => if hbrOpp h u r then r else if c = 0 then { r with st := .off } else hbrGo h u { r with st := .off }
  | .off =>
    if c = old then r
    else if c = 0 then { r with pend := false }
    else if feedNormal h (u / 6) then hbrGo h u r else { hbrCut r with st := .uvoff }
  | .brake => if c = old then r else hbrGo h u r
  | .drive | .reg =>
    if c = old then r
    else if c ≠ 0 ∧ feedNormal h (u / 6) = false then { hbrCut r with st := .uvoff }
    else if hbrOpp h u r then hbrRev h u r else hbrGo h u r

/-- A boundary applies command `c` with duty `d` to the unit led by `u`; `keep` as for `hswApply`. -/
def hbrApply (u c d : Nat) (keep : Bool) (h : Hw) : Hw :=
  let r := hbr h u
  let single := hbrSingle h u
  let is := hbrIsPwm single c
  let was := hbrIsPwm single r.cmd
  let r1 : HbrU := { r with cmd := c, pwm := pwmApply r.pwm d is was (r.pend && hbrIsPwm single r.act) h.tbCopy }
  let h1 := setHbr h u (hbrMove h u r1 r.cmd)
  if is && !keep then
    let g := hbrF h u 0x404 16 4
    if g = 0 then { h1 with hbr := smPut {} u { hbr h1 u with pwm := { (hbr h1 u).pwm with epoch := h.tbCopy * 64 } } h1.hbr }
    else { h1 with epochs := smPut 0 g (h.tbCopy * 64) h1.epochs }
  else h1

/-- R140: a boundary changes the unit's topology: its half-bridges switch off and the unit starts in OFF, in THERM with a latch; nothing
else of the old unit stays (log entry 77). -/
def hbrFresh (u : Nat) (h : Hw) : Hw :=
  setHbr h u { ({} : HbrU) with st := if hbrLatched h u then .therm else .off }

/-- The pending change of the unit's switches takes place. -/
def hbrSwitchGo (u : Nat) (h : Hw) : Hw :=
  let r := hbr h u
  let single := hbrSingle h u
  setHbr h u { hbrTake h u (hbrStOf single r.cmd) r with sw := hbrSw single r.cmd, onPh := false }

/-- HBR_SWITCH_CHANGE (R143, R158): the instant of the unit's pending change; time moves up to it. -/
def hbrSwitch (u : Nat) (h : Hw) : Hw :=
  if (hbr h u).pend then
    match edgeLeft h (u / 6) (hbr h u).edgeAt with
    | some 0 => hbrSwitchGo u h
    | some k => hbrSwitchGo u (advance k h)
    | none => h
  else h

/-- REVDLY_END (R145): REV_T has passed, within its 5 %, and the new direction starts. -/
def hbrRevEnd (u : Nat) (h : Hw) : Hw :=
  let r := hbr h u
  if r.st = .revdly ∧ r.revAt ≤ h.now then
    let single := hbrSingle h u
    setHbr h u { hbrTake h u .drive r with sw := if hbrIsPwm single r.cmd then .open else hbrSw single r.cmd }
  else h

/-! ## PWM (R144) -/

/-- The PWM period of a unit, within 2560 … 640 000 cycles (R144). -/
def hbrPer (h : Hw) (u : Nat) : Nat := min 640000 (max 2560 (hbrF h u 0x400 0 20))

/-- The shortest phase that a half-bridge switches: at most 3, 6, 15 or 40 µs (R166). -/
def hbrShort (slew t : Nat) : Bool :=
  let top := match slew with | 0 => 192 | 1 => 384 | 2 => 960 | _ => 2560
  decide (t ≠ 0) && decide (t < top) && decide (t < Config.minPhase (slew + 4))

/-- PWM_PERIOD_START of a unit. -/
def hbrPeriod (u m tOa : Nat) (h : Hw) : Hw :=
  let r := hbr h u
  let single := hbrSingle h u
  let is := hbrIsPwm single r.cmd
  if hbrIsPwm single r.act = true ∧ r.st = .drive then
    let e := epochOf h (hbrF h u 0x404 16 4) r.pwm.epoch
    match pwmStart (hbrPer h u) (64 * hbrF h u 0x404 0 16) e m tOa is r.pwm with
    | none => h
    | some q =>
      let slew := hbrF h u 0x408 12 2
      let clipOn := hbrShort slew q.onT
      let clipOff := hbrShort slew q.offT
      let go := decide (q.onT ≠ 0) && !clipOn
      let r1 : HbrU := { r with
        onPh := go
        sw := if go && !r.decay then hbrSw single r.act else hbrDecaySw h u
        pwm := { q.p with stay := go && (clipOff || decide (q.offT = 0)) } }
      setHbr (if clipOn || (go && clipOff) then hbrPulse h u 12 else h) u r1
  else h

/-- PWM_ON_PHASE_END of a unit: the off-phase decays as DECAY selects (R107, R142). -/
def hbrOnEnd (u : Nat) (h : Hw) : Hw :=
  let r := hbr h u
  if r.onPh = true ∧ pwmOffNow h r.pwm = true then setHbr h u { r with onPh := false, sw := hbrDecaySw h u } else h

/-! ## Regulation and trips -/

/-- REGULATION_DECAY (R146): I_BR rises above IREG, within 3 % + 50 mA. -/
def hbrReg (u mA : Nat) (h : Hw) : Hw :=
  let r := hbr h u
  let ireg := hbrF h u 0x40C 0 12 * 10
  if hbrDriving r = true ∧ ireg ≠ 0 ∧ ireg * 97 < mA * 100 + 5000 then
    setHbr h u { r with regAct := true, regAt := h.now, decay := true, sw := hbrDecaySw h u }
  else h

/-- The off-time that REG_CFG.TOFF selects, in µs (R146). -/
def regOff (h : Hw) (u : Nat) : Nat := match hbrF h u 0x40C 24 2 with | 0 => 10 | 1 => 20 | 2 => 50 | _ => 100

/-- REGULATION_OFF_TIME_END (R146): the off-time has passed, within its 5 %; the unit drives again under the command that its switches follow, unless its on-phase has ended in
the meantime. -/
def hbrRegEnd (u : Nat) (h : Hw) : Hw :=
  let r := hbr h u
  let single := hbrSingle h u
  if r.decay = true ∧ regOff h u * 95 ≤ (h.now - r.regAt) * 100 then
    setHbr h u { r with decay := false, sw := if hbrIsPwm single r.act && !r.onPh then r.sw else hbrSw single r.act }
  else h

/-- REGACT_EXPIRY (R146): regulation has not acted within the last 1 ms. -/
def hbrRegExpire (u : Nat) (h : Hw) : Hw :=
  let r := hbr h u
  if r.decay = false ∧ r.regAt + 1000 ≤ h.now then setHbr h u { r with regAct := false } else h

/-- A trip of the unit with `cause`, pulsing source `k` (R147, R148, R157). -/
def hbrTrip (u cause k : Nat) (h : Hw) : Hw :=
  let r := hbr h u
  if r.st = .therm ∨ r.st = .trip ∨ (feed h (u / 6)).supply ≠ .on then h
  else setHbr (hbrCount (hbrPulse h u k) u) u { hbrCut r with st := .trip, cause := cause, halted := false }

/-- HBR_OVERCURRENT (R147): a half-bridge's current exceeds the OC_LVL of its lead, within 10 %. -/
def hbrOver (n mA : Nat) (h : Hw) : Hw :=
  let u := hbrLead h n
  let lvl := match hbrF h u 0x40C 28 2 with | 0 => 16000 | 1 => 20000 | 2 => 25000 | _ => 30000
  if lvl * 9 < mA * 10 then hbrTrip u 1 1 h else h

/-- HBR_DESATURATION (R148): the drain-source voltage of a switch that is on exceeds V_DSAT, 1.6 … 2.4 V (R166); a high side records SCG, a
low side SCB. -/
def hbrDesat (n : Nat) (high : Bool) (mV : Nat) (h : Hw) : Hw :=
  if hbrOut h n = (if high then 1 else 2) ∧ 1600 < mV then hbrTrip (hbrLead h n) (if high then 2 else 3) 2 h else h

/-- HBR_THERMAL_LATCH_SET (R150): a latch of the unit sets; every switch off, THERM. -/
def hbrTherm (n degC : Nat) (h : Hw) : Hw :=
  if (feed h (n / 6)).supply = .on ∧ 165 ≤ degC then
    let u := hbrLead h n
    let r := hbr h u
    let h1 := { h with hbrTl := smPut false n true h.hbrTl }
    setHbr (if r.st = .therm then h1 else hbrCount h1 u) u { hbrCut r with st := .therm, halted := false }
  else h

/-- HBR_THERMAL_LATCH_RELEASE (R150): the last latch of the unit releases; TRIP with CAUSE THERM, or OFF under 0b000. -/
def hbrThermRelease (n degC : Nat) (h : Hw) : Hw :=
  if smGet false h.hbrTl n = true ∧ degC ≤ 170 then
    let u := hbrLead h n
    let h1 := { h with hbrTl := smPut false n false h.hbrTl }
    let r := hbr h1 u
    if r.st = .therm ∧ hbrLatched h1 u = false then
      if r.cmd = 0 then setHbr h1 u { r with st := .off } else setHbr (hbrCount h1 u) u { r with st := .trip, cause := 7 }
    else setHbr h1 u r
  else h

/-! ## Stall, position and park (R151 … R154) -/

/-- The unit halts with `cause`, braked or coasting. -/
def hbrHalt (u cause : Nat) (brake : Bool) (h : Hw) : Hw :=
  let r := hbr h u
  setHbr (hbrCount h u) u { hbrCut r with
    st := .halt, cause := cause, halted := true, haltCmd := r.cmd, haltBrake := brake, sw := if brake then .lows else .open }

/-- The last `ms` of a drive phase of the unit, outside the blanking after its drive start and not counted yet, carried `mA`, at or above
THR; BL holds within its 5 % (R151, R166). -/
def stalling (h : Hw) (u mA ms : Nat) : Bool :=
  let r := hbr h u
  decide (r.st = .drive) && decide (hbrF h u 0x410 0 12 * 10 ≤ mA) && decide (max (r.driveAt + hbrF h u 0x410 24 6 * 9500) r.stallAt + ms * 1000 ≤ h.now)

/-- STALL (R151): `ms` of such drive time enter the stall accumulator, and it reaches QT, within its 5 %. -/
def hbrStall (u mA ms : Nat) (h : Hw) : Hw :=
  let r := hbr h u
  let qt := hbrF h u 0x410 16 8
  if stalling h u mA ms = true ∧ qt ≠ 0 then
    let h0 := setHbr h u { r with stallAcc := r.stallAcc + ms, stallAt := h.now }
    if r.stallAcc * 100 < qt * 95 ∧ qt * 95 ≤ (r.stallAcc + ms) * 100 then
      let h1 := pulse (setHbr h0 u { hbr h0 u with cause := 4 }) 0x11 u 5
      match hbrF h u 0x410 30 2 with | 0 => h1 | 2 => hbrHalt u 4 false h1 | _ => hbrHalt u 4 true h1
    else h0
  else h

/-- STALL_ACC_RESET (R151): the current has stayed below the stall level for 10 ms. -/
def hbrStallReset (u : Nat) (h : Hw) : Hw := setHbr h u { hbr h u with stallAcc := 0 }

/-- A debounced edge of switch input `swi`, to level `up`, reaches the lead page `u` (R152, R153). -/
def hbrPosEdge (swi : Nat) (up : Bool) (u : Nat) (h : Hw) : Hw :=
  let r := hbr h u
  if hbrLead h u = u ∧ hbrF h u 0x414 31 1 = 1 ∧ hbrF h u 0x414 16 7 = swi then
    let drives := decide (r.st = .drive)
    let park := decide (hbrF h u 0x414 30 1 = 1)
    let counted := (up || decide (hbrF h u 0x414 28 1 = 1)) && decide (r.dir ≠ 0) && decide ((feed h (u / 6)).supply = .on)
    let old := fld (rd h 0x11 u 0x050) 0 16
    let new := (if r.dir = 1 then old + 1 else old + 65535) % 65536
    let h1 := if counted && pageOn h 0x11 u then wrF h 0x11 u 0x050 0 16 new else h
    if drives && !park && counted && decide (new = hbrF h u 0x414 0 16) then hbrHalt u 5 true (pulse h1 0x11 u 6)
    else if drives && park && decide (up.toNat = hbrF h u 0x414 29 1) then hbrHalt u 6 true (pulse h1 0x11 u 7)
    else h1
  else h

/-- A debounced edge of switch input `swi` reaches every lead page that counts it. -/
def posEdge (swi : Nat) (up : Bool) (h : Hw) : Hw := forN 24 (hbrPosEdge swi up) h

/-- PD41 leaves ON: POSLOST on every lead page that counts (R152). -/
def posLost (h : Hw) : Hw :=
  forN 24 (fun u x => if hbrLead x u = u ∧ hbrF x u 0x414 31 1 = 1 then pulse x 0x11 u 11 else x) h

/-! ## What the feed group does to a unit (R157 … R159) -/

/-- Under-voltage of the group. -/
def hbrUv (u : Nat) (h : Hw) : Hw :=
  let r := hbr h u
  match r.st with
  | .therm | .trip | .uvlock => setHbr h u r
  | _ => setHbr h u { hbrCut r with st := if r.cmd = 0 then .off else .uvoff }

/-- Restart of the group (R158): RESTART pulses on every page in both cases. -/
def hbrRestart (u : Nat) (h : Hw) : Hw :=
  let r := hbr h u
  let h1 :=
    if r.st = .uvoff then
      if hbrF h u 0x408 8 1 = 0 then setHbr h u { r with st := .uvlock }
      else if r.halted then setHbr h u { r with st := .halt, sw := if r.haltBrake then .lows else .open }
      else if hbrOpp h u r then setHbr h u (hbrRev h u { r with st := .off })
      else setHbr h u (hbrGo h u { r with st := .off })
    else setHbr h u r
  hbrPulse h1 u 9

/-- The die loses its supply: every switch off, latches and the stall accumulator lost (R159); TRIP and UVLOCK stand above UVOFF (R156). -/
def hbrUnsupply (u : Nat) (h : Hw) : Hw :=
  let r := hbr h u
  let h1 := { h with hbrTl := (hbrMembers h u).foldl (fun m n => smPut false n false m) h.hbrTl }
  let st : HbrSt := match r.st with | .trip => .trip | .uvlock => .uvlock | _ => if r.cmd = 0 then .off else .uvoff
  setHbr h1 u { hbrCut r with st := st, stallAcc := 0 }

/-! ## The composite read-only registers (R164) -/

/-- The code of a state in STATE.ST (R156). -/
def hbrCode : HbrSt → Nat
  | .off => 0 | .drive => 1 | .reg => 2 | .brake => 3 | .revdly => 4 | .halt => 5 | .trip => 6 | .therm => 7 | .uvoff => 8 | .uvlock => 9

/-- STATE of half-bridge `n`: the unit's state, this half-bridge's own output and latch (R139). -/
def hbrState (h : Hw) (n : Nat) : Nat :=
  let r := hbr h (hbrLead h n)
  r.cause * 2 ^ 20 + r.pend.toNat * 2 ^ 16 + r.regAct.toNat * 2 ^ 12 + (feed h (n / 6)).uv.toNat * 2 ^ 11
    + (smGet false h.hbrTl n).toNat * 2 ^ 9 + hbrOut h n * 64 + hbrCode (hbrSt r)

/-- INFO of half-bridge `n`. -/
def hbrInfo (h : Hw) (n : Nat) : Nat := (36 + n % 6) * 2 ^ 16 + (24 + n % 6) * 256 + (n / 6) * 16 + hbrRole h n

end Sys2Proof.Machine
end

