-- ==== Sys2Proof/Machine/Sol.lean ====
section
/-!
DEFINITION. The valves and solenoid banks of chapter 06: admission, the peak-and-hold profile, armature detection, the duty
limit, protection, under-voltage and restart.
-/
namespace Sys2Proof.Machine

/-- The number of valve `v` of bank `g` (R167). -/
def solNo (g v : Nat) : Nat := 4 * g + v

/-- The record of valve `v` of bank `g`. -/
def valve (h : Hw) (g v : Nat) : Valve := smGet {} h.valves (solNo g v)

/-- The record of bank `g`. -/
def bank (h : Hw) (g : Nat) : Bank := smGet {} h.banks g

/-- `h` with the record of bank `g` replaced. -/
def setBank (h : Hw) (g : Nat) (b : Bank) : Hw := { h with banks := smPut {} g b h.banks }

/-! ## Applied configuration, with the limits the manual gives each field -/

def iPeakOf (h : Hw) (g v : Nat) : Nat := min 1200 (dieF h 0x12 g (0x440 + 0x20 * v) 0 11)
def pkHysOf (h : Hw) (g v : Nat) : Nat := max 1 (dieF h 0x12 g (0x440 + 0x20 * v) 16 8)
def tPeakOf (h : Hw) (g v : Nat) : Nat := max 100 (dieF h 0x12 g (0x444 + 0x20 * v) 16 16)
def soffOf (h : Hw) (g v : Nat) : Nat := max 1 (dieF h 0x12 g (0x444 + 0x20 * v) 0 16)
def tHoldOf (h : Hw) (g v : Nat) : Nat := dieF h 0x12 g (0x448 + 0x20 * v) 16 16
def iHoldOf (h : Hw) (g v : Nat) : Nat := min 4000 (max 200 (dieF h 0x12 g (0x448 + 0x20 * v) 0 12))
def hlimOf (h : Hw) (g : Nat) : Nat := min 800 (dieF h 0x12 g 0x400 10 10)
def dmaxOf (h : Hw) (g : Nat) : Nat := dieF h 0x12 g 0x400 24 8
def dlimOf (h : Hw) (g v : Nat) : Nat := max 1 (dieF h 0x12 g (0x450 + 0x20 * v) 16 7)
def dwinOf (h : Hw) (g v : Nat) : Nat := min 600 (max 1 (dieF h 0x12 g (0x450 + 0x20 * v) 0 10))

/-- The hold period in CK_SOL cycles, of which 40 make a microsecond (R174). -/
def holdPer (h : Hw) (g : Nat) : Nat := match dieF h 0x12 g 0x400 8 2 with | 0 => 4000 | 1 => 2000 | 2 => 1600 | _ => 1000

/-- The shortest phase of the low side in CK_SOL cycles: at most 1, 2, 5 or 12 µs (R201). -/
def solMin (h : Hw) (g : Nat) : Nat :=
  let slew := dieF h 0x12 g 0x400 4 2
  min (match slew with | 0 => 40 | 1 => 80 | 2 => 200 | _ => 480) (Config.solMinTime slew)

/-- The longest on-time that the hold regulator gives (R174). -/
def holdTop (h : Hw) (g : Nat) : Nat := holdPer h g - solMin h g

/-- A hold period of valve `v` starts within the present microsecond: the periods lag those of valve 0 by `v` quarters (R174). -/
def holdDue (h : Hw) (g v : Nat) : Bool :=
  let per := holdPer h g
  decide ((Config.holdGrid g + v * per / 4 + (per - h.now * 40 % per)) % per < 40)

/-- The low side of valve `v` conducts at this instant: as regulated in PEAK, in HOLD in the on-time of its period (R173, R174). -/
def lsOn (h : Hw) (g v : Nat) : Bool :=
  let r := valve h g v
  if r.st = .hold then decide ((h.now - r.holdAt) * 40 < r.holdOn) else r.ls

/-- The planned peak start of a valve in WAIT: SOFF and t_BSET after its admission, as SOFF stands until the peak start comes (R172,
R177). -/
def planOf (h : Hw) (g v : Nat) : Nat :=
  let r := valve h g v
  if r.st = .wait ∧ r.queued = false then r.admitAt + soffOf h g v + 20 else r.planAt

/-! ## Duty bins (R185) -/

/-- The valve is energized: in PEAK or HOLD. -/
def energized (r : Valve) : Bool := decide (r.st = .peak) || decide (r.st = .hold)

/-- The duty window in µs. -/
def dutyLen (h : Hw) (g v : Nat) : Nat := dwinOf h g v * 100000

/-- The bin that instant `t` of the grid lies in: bin `k` begins at `k × len / 64`, in whole microseconds (log entry 78). -/
def binNo (len t : Nat) : Nat := ((t + 1) * 64 - 1) / len

/-- The time that the interval from `a` to `b` shares with bin `k`. -/
def binPart (len a b k : Nat) : Nat := min b ((k + 1) * len / 64) - max a (k * len / 64)

/-- The bins as they stand at instant `now`: those that have begun since the last accounting come in, the oldest leave the window, and the
energized time since then goes into the bins that it falls in. -/
def binsAt (len now : Nat) (r : Valve) : List Nat :=
  if r.bins.isEmpty && !energized r then []
  else
    let a := r.binFrom - r.binOrg
    let b := now - r.binOrg
    let l := (List.range 64).map (fun j =>
      let k := binNo len b - j
      if binNo len b < j then 0
      else (if k ≤ binNo len a then (r.bins[binNo len a - k]?).getD 0 else 0) + (if energized r then binPart len a b k else 0))
    if l.all (fun x => decide (x = 0)) then [] else l

/-- The energized time up to now goes into the bins. -/
def solAccount (h : Hw) (g v : Nat) (r : Valve) : Valve := { r with bins := binsAt (dutyLen h g v) h.now r, binFrom := h.now }

/-- The window sum S in µs. -/
def windowSum (h : Hw) (g v : Nat) : Nat := (binsAt (dutyLen h g v) h.now (valve h g v)).foldl (· + ·) 0

/-- The duty check fails: DLIM < 100 and S has reached its share of the window. -/
def dutyReached (h : Hw) (g v : Nat) : Bool :=
  decide (dlimOf h g v < 100) && decide (dlimOf h g v * dutyLen h g v ≤ windowSum h g v * 100)

/-- DUTY_NOW in ‰, ten bits. -/
def dutyNow (h : Hw) (g v : Nat) : Nat := min 1023 (1000 * windowSum h g v / dutyLen h g v)

/-! ## Writing a valve: level sources follow (R199) -/

/-- A valve is in WAIT, PEAK or HOLD. -/
def busyValve (r : Valve) : Bool := decide (r.st = .wait) || energized r

/-- The level sources of bank `g`. -/
def solLevels (g : Nat) (h : Hw) : Hw :=
  let one (v : Nat) (x : Hw) : Hw :=
    let r := valve x g v
    level (level x 0x12 g (16 + v) (decide (r.st = .trip) || decide (r.st = .therm))) 0x12 g (20 + v) r.holdLow
  let h1 := forN 4 one h
  let b := bank h g
  let h2 := level h1 0x12 g 24 b.trip
  let h3 := level h2 0x12 g 25 b.therm
  let h4 := level h3 0x12 g 26 (feed h g).uv
  level h4 0x12 g 28 ((List.range 4).any (fun v => dutyReached h g v))

/-- Replace the record of a valve; the bank switch is off when no valve of the bank is in WAIT, PEAK or HOLD (R169). -/
def setValve (h : Hw) (g v : Nat) (r : Valve) : Hw :=
  let h1 := { h with valves := smPut {} (solNo g v) r h.valves }
  let any := (List.range 4).any (fun k => busyValve (valve h1 g k))
  solLevels g (if any then h1 else setBank h1 g { bank h1 g with sw := false })

/-- The valve stops what it does: low side off, out of the queue. -/
def solCut (h : Hw) (g v : Nat) (r : Valve) : Valve :=
  { solAccount h g v r with ls := false, holdOn := 0, queued := false, holdLow := false }

/-! ## Armature detection and the end of a peak (R175, R178, R179) -/

/-- A peak ends, whatever ends it: a miss without a confirmed detection while detection is on (R179). -/
def solPeakDone (g v : Nat) (h : Hw) : Hw :=
  let r := valve h g v
  if r.st = .peak then
    let h1 := setBank h g { bank h g with lastPeak := some h.now }
    if bit r.armCfg 31 && !r.det then
      pulse (setValve h1 g v { r with armT := setFld (setFld r.armT 0 16 0xFFFF) 24 8 (fld r.armT 24 8 + 1) }) 0x12 g (4 + v)
    else h1
  else h

/-- The later of two instants, where they exist. -/
def laterOf : Option Nat → Option Nat → Option Nat
  | some a, some b => some (max a b)
  | some a, none => some a
  | none, o => o

/-- The hold end of a valve that has passed its peak: the later of the one of its peak's end and that of its last extension (R175). -/
def holdEndOf (r : Valve) : Option Nat := laterOf r.holdEnd r.extEnd

/-- The valve enters HOLD: its hold end is the peak end plus T_HOLD, or the one kept across an under-voltage (R175, R191); the low side is
off until its first hold period. -/
def solHold (h : Hw) (g v : Nat) (r : Valve) : Valve :=
  let t := tHoldOf h g v
  { solAccount h g v r with
    st := .hold, passed := true, queued := false, ls := false, holdOn := 0, holdAt := h.now
    holdEnd := match r.keepEnd with | some e => some e | none => if t = 0 then none else some (h.now + t * 1000) }

/-! ## Trips (R186 … R188) -/

/-- Count an entry of valve `v` into TRIP or THERM. -/
def solCount (g v : Nat) (h : Hw) : Hw := if pageOn h 0x12 g then incSat h 0x12 g 0x0B4 (8 * v) 8 1 else h

/-- A valve trip with `cause`; a valve in THERM stays there (R190). -/
def solTrip (g v cause : Nat) (h : Hw) : Hw :=
  if (valve h g v).st = .therm ∨ (feed h g).supply ≠ .on then h
  else
    let h1 := solPeakDone g v h
    let r := valve h1 g v
    solCount g v (setValve h1 g v { solCut h g v r with st := .trip, cause := cause })

/-- A valve enters THERM (R186, R187); `byBank` when the bank latch put it there. -/
def solThermIn (g v : Nat) (byBank : Bool) (h : Hw) : Hw :=
  let h1 := solPeakDone g v h
  let r := valve h1 g v
  let h2 := setValve h1 g v { solCut h g v r with st := .therm, cause := 5, tl := r.tl || !byBank }
  if r.st = .therm then h2 else solCount g v h2

/-- A valve in THERM whose own latch and the bank's are released leaves it: TRIP under FIRE, IDLE under OFF (R187). -/
def solThermOut (g v : Nat) (h : Hw) : Hw :=
  let r := valve h g v
  if r.st = .therm ∧ r.tl = false ∧ (bank h g).therm = false then
    if r.cmd = 0 then setValve h g v { r with st := .idle }
    else solCount g v (setValve h g v { r with st := .trip, cause := 5 })
  else h

/-- The bank enters BTRIP or BTHERM with `cause`: bank switch off, every valve in WAIT, PEAK or HOLD off (R187). -/
def bankTrip (g cause vno : Nat) (h : Hw) : Hw :=
  if (feed h g).supply ≠ .on then h
  else
    let b := bank h g
    let h1 := setBank h g { b with
      sw := false, cause := cause, valve := if cause = 3 then vno else b.valve
      trip := b.trip || decide (cause ≠ 4), therm := b.therm || decide (cause = 4) }
    solLevels g (forN 4 (fun v x =>
      if busyValve (valve x g v) then (if cause = 4 then solThermIn g v true x else solTrip g v 4 x) else x) h1)

/-! ## Admission (R172, R181, R182) -/

/-- Reject a FIRE of valve `v` with code `c`. -/
def solReject (g v c : Nat) (h : Hw) : Hw := pulse (setValve h g v { valve h g v with rejc := c }) 0x12 g (8 + v)

/-- I_HOLD of every valve of the bank in WAIT, PEAK or HOLD, in mA. -/
def holdSum (h : Hw) (g : Nat) : Nat :=
  (List.range 4).foldl (fun a k => if busyValve (valve h g k) then a + iHoldOf h g k else a) 0

/-- The overlap check fails: the candidate's peak start falls before the latest possible peak end of another valve (R182). -/
def overlaps (h : Hw) (g v : Nat) : Bool :=
  let start := h.now + soffOf h g v + 20
  decide (iPeakOf h g v ≠ 0) && (List.range 4).any (fun k =>
    let o := valve h g k
    decide (k ≠ v) &&
      ((decide (o.st = .wait) && decide (iPeakOf h g k ≠ 0) && decide (start < planOf h g k + tPeakOf h g k + 5))
        || (decide (o.st = .peak) && decide (o.iPeak ≠ 0) && decide (start < o.planAt + o.tPeak + 5))))

/-- The first check of R182 that fails, as its REJC code; 0 when every check passes. -/
def admitCheck (h : Hw) (g v : Nat) : Nat :=
  let b := bank h g
  if b.trip || b.therm then 5
  else if !feedNormal h g then 6
  else if dutyReached h g v then 1
  else if hlimOf h g * 10 < iHoldOf h g v + holdSum h g then 2
  else if decide (dieF h 0x12 g 0x400 0 1 = 1) && overlaps h g v then 3
  else 0

/-- Admit valve `v`, or reject it; `keep` is the hold end kept across an under-voltage. A rejected valve of UVOFF becomes IDLE. -/
def solAdmit (g v : Nat) (keep : Option Nat) (h : Hw) : Hw :=
  let r := valve h g v
  match admitCheck h g v with
  | 0 =>
    let b := bank h g
    setValve (setBank h g { b with ordNext := b.ordNext + 1 }) g v { solCut h g v r with
      st := .wait, admitAt := h.now, ord := b.ordNext, passed := false, det := false, deferT := 0
      holdEnd := none, extEnd := none, keepEnd := keep }
  | c => solReject g v c (setValve h g v { r with st := if r.st = .rel then .rel else .idle })

/-- A new FIRE reaches valve `v`: an extension of a running profile, a rejection, or admission (R181, R182). -/
def solFire (g v : Nat) (h : Hw) : Hw :=
  let r := valve h g v
  match r.st with
  | .trip | .therm => solReject g v 5 h
  | .uvoff => solReject g v 6 h
  | .idle | .rel => solAdmit g v none h
  | .wait | .peak | .hold =>
    if dutyReached h g v then solReject g v 1 h
    else
      let t := tHoldOf h g v
      setValve h g v { r with extEnd := if t = 0 then r.extEnd else some (h.now + t * 1000) }

/-- An applied OFF reaches valve `v` (R176, R188, R190). -/
def solOff (g v : Nat) (h : Hw) : Hw :=
  let r := valve h g v
  match r.st with
  | .wait | .trip | .uvoff => setValve h g v { solCut h g v r with st := .idle }
  | .peak | .hold =>
    let h1 := solPeakDone g v h
    setValve h1 g v { solCut h g v (valve h1 g v) with st := .rel }
  | _ => h

/-- The bank leaves BTRIP at the first boundary at which every valve has OFF applied (R187). -/
def bankClear (g : Nat) (h : Hw) : Hw :=
  if (List.range 4).all (fun v => decide ((valve h g v).cmd = 0)) then
    solLevels g (setBank h g { bank h g with trip := false })
  else h

/-- A newly applied DWIN clears the valve's bins (R185). -/
def dutyWindow (g v was : Nat) (h : Hw) : Hw :=
  if was = dwinOf h g v then h else setValve h g v { valve h g v with bins := [], binFrom := h.now, binOrg := h.now }

/-- A boundary copies the command image of a bank into its APPLIED registers; FCNT counts the new FIREs (R170, R500). -/
def solPage (g : Nat) (h : Hw) : Hw :=
  forN 4 (fun v x =>
    let c := fld (rd x 0x12 g (0x040 + 4 * v)) 0 2
    let fcnt := fld (rd x 0x12 g (0x050 + 4 * v)) 8 8 + ((valve x g v).newFire && decide (c = 1)).toNat
    wr x 0x12 g (0x050 + 4 * v) (BitVec.ofNat 32 (fcnt % 256 * 256 + c))) h

/-- The new FIREs of a bank end with the boundary. -/
def solTaken (g : Nat) (h : Hw) : Hw :=
  forN 4 (fun v x => setValve x g v { valve x g v with newFire := false }) h

/-- The die takes the image that the APPLIED registers hold: the OFFs, the end of BTRIP, then the new FIREs in ascending order. -/
def solApply (g : Nat) (h : Hw) : Hw :=
  let setCmd (v : Nat) (x : Hw) : Hw :=
    { x with valves := smPut {} (solNo g v) { valve x g v with cmd := fld (rd x 0x12 g (0x050 + 4 * v)) 0 2 } x.valves }
  let h1 := forN 4 setCmd h
  let h2 := forN 4 (fun v x => if (valve x g v).cmd = 0 then solOff g v x else x) h1
  let h3 := bankClear g h2
  let h4 := forN 4 (fun v x => if (valve x g v).newFire && decide ((valve x g v).cmd = 1) then solFire g v x else x) h3
  solTaken g h4

/-! ## The profile -/

/-- VALVE_START_INSTANT (R169, R172): the start instant of the valve first admitted among those of the bank in WAIT, PEAK or HOLD has
come, and the bank switch turns on. -/
def solStart (g v : Nat) (h : Hw) : Hw :=
  let r := valve h g v
  let first := (List.range 4).all (fun k => decide (k = v) || !busyValve (valve h g k) || decide (r.ord < (valve h g k).ord))
  if r.st = .wait ∧ first = true ∧ feedNormal h g = true ∧ planOf h g v ≤ h.now + 20 then setBank h g { bank h g with sw := true } else h

/-- The peak of valve `v` begins under the values applied now (R177); I_PEAK = 0 goes to HOLD at once (R173). -/
def solPeakGo (g v : Nat) (h : Hw) : Hw :=
  let r := solAccount h g v (valve h g v)
  let ip := iPeakOf h g v
  let r1 : Valve := { r with
    queued := false, ls := true, lsAt := h.now, planAt := planOf h g v, peakAt := h.now
    iPeak := ip, pkHys := pkHysOf h g v, tPeak := tPeakOf h g v, det := false
    armCfg := if ip = 0 then 0 else die h 0x12 g (0x44C + 0x20 * v)
    deferT := if r.queued then min 0xFFFFF (h.now - r.planAt) else 0 }
  setValve h g v (if ip = 0 then solHold h g v r1 else { r1 with st := .peak })

/-- Some valve of the bank is in PEAK. -/
def peakActive (h : Hw) (g : Nat) : Bool := (List.range 4).any (fun v => decide ((valve h g v).st = .peak))

/-- A peak of the bank ended less than t_PKGAP ago (R183). -/
def inGap (h : Hw) (g : Nat) : Bool := match (bank h g).lastPeak with | some t => decide (h.now < t + 5) | none => false

/-- The valves of the bank whose peak is deferred. -/
def deferred (h : Hw) (g : Nat) : List Nat := (List.range 4).filter (fun v => (valve h g v).queued && decide ((valve h g v).st = .wait))

/-- PEAK_START (R172, R173, R183): the planned peak start has come; a valve behind another peak, or behind a valve whose deferred peak is
due, is deferred. -/
def solPeakStart (g v : Nat) (h : Hw) : Hw :=
  let r := valve h g v
  if r.st = .wait ∧ r.queued = false ∧ planOf h g v ≤ h.now then
    if iPeakOf h g v ≠ 0 ∧ (peakActive h g = true ∨ inGap h g = true ∨ (deferred h g).isEmpty = false) then
      pulse (setValve h g v { r with queued := true, planAt := planOf h g v }) 0x12 g (12 + v)
    else solPeakGo g v h
  else h

/-- DEFERRED_PEAK_START (R183): t_PKGAP after a peak's end, the deferred valve that is earliest in admission order starts its peak. -/
def solDeferred (g : Nat) (h : Hw) : Hw :=
  if peakActive h g || inGap h g then h
  else
    match deferred h g with
    | [] => h
    | v0 :: vs => solPeakGo g (vs.foldl (fun a v => if (valve h g v).ord < (valve h g a).ord then v else a) v0) h

/-- The shortest phase of the low side has passed since its last edge (R173). -/
def lsFree (h : Hw) (g v : Nat) : Bool := decide (solMin h g ≤ (h.now - (valve h g v).lsAt) * 40)

/-- The coil current `mA` crosses a level of the peak regulation, within 3 % + 30 mA of I_PEAK (R201): above I_PEAK while the low side is on,
below I_PEAK − PK_HYS while it is off. -/
def crosses (r : Valve) (mA : Nat) : Bool :=
  let tol := r.iPeak * 30 + 3000
  if r.ls then decide (r.iPeak * 1000 < mA * 100 + tol) else decide (mA * 100 < (r.iPeak - r.pkHys) * 1000 + tol)

/-- PEAK_REGULATION_CROSSING (R173): the low side turns off above I_PEAK, and on again below I_PEAK − PK_HYS. -/
def solCross (g v mA : Nat) (h : Hw) : Hw :=
  let r := valve h g v
  if r.st = .peak ∧ crosses r mA = true ∧ lsFree h g v = true then setValve h g v { r with ls := !r.ls, lsAt := h.now } else h

/-- What the detector has seen shows an end of travel (R178): in dip mode currents in mA, in slope mode slopes; `top` the largest since the
blanking, `low` the smallest after it, `up` the one that confirms. -/
def armShows (cfg : Word) (top low up : Int) : Bool :=
  let thr : Int := fld cfg 0 8
  if bit cfg 30 then decide (low * 256 < thr * top ∧ 2 * thr * top < up * 256) else decide (low + thr * 10 ≤ top ∧ low + thr * 10 ≤ up)

/-- ARMATURE_DETECTED (R178, R179): a first detection, `t` µs after peak start and after the blanking, is confirmed in a rise segment. -/
def solArm (g v t : Nat) (top low up : Int) (h : Hw) : Hw :=
  let r := valve h g v
  if r.st = .peak ∧ r.ls = true ∧ bit r.armCfg 31 = true ∧ r.det = false ∧ fld r.armCfg 8 8 * 100 ≤ t ∧ r.peakAt + t ≤ h.now ∧
      armShows r.armCfg top low up = true then
    let a := setFld (setFld r.armT 0 16 (min 0xFFFE t)) 24 8 (fld r.armT 24 8 + 1)
    pulse (setValve h g v { r with det := true, detAt := r.peakAt + t, armT := a }) 0x12 g v
  else h

/-- The peak has lasted T_PEAK, or ARM_EXT has passed since a detection that is to cut it (R173). -/
def peakOver (h : Hw) (r : Valve) : Bool :=
  decide (r.peakAt + r.tPeak ≤ h.now) ||
    (bit r.armCfg 31 && bit r.armCfg 29 && r.det && decide (r.detAt + fld r.armCfg 16 8 * 100 ≤ h.now))

/-- PEAK_END (R173, R175, R186): the peak ends at T_PEAK or at the cut; `maxMa` is the largest current it reached. -/
def solPeakEnd (g v maxMa : Nat) (h : Hw) : Hw :=
  let r := valve h g v
  if r.st = .peak ∧ peakOver h r = true then
    if maxMa * 4 < r.iPeak * 10 then solTrip g v 3 h
    else
      let h1 := solPeakDone g v h
      setValve h1 g v (solHold h1 g v (valve h1 g v))
  else h

/-- HOLD_PERIOD (R174, R186): a hold period begins; the regulator has chosen its on-time, in CK_SOL cycles, from the mean of the period
before. Hold too low ends where the current is back or the on-time leaves its upper limit. -/
def solHoldPeriod (g v onT meanMa : Nat) (h : Hw) : Hw :=
  let r := valve h g v
  if r.st = .hold ∧ holdDue h g v = true then
    let on := min (holdTop h g) (max (solMin h g) onT)
    setValve h g v { r with
      holdAt := h.now, holdOn := on
      holdLow := r.holdLow && decide (on = holdTop h g) && decide (meanMa * 100 < iHoldOf h g v * 97) }
  else h

/-- The hold end that releases a valve now: of a valve in HOLD, or the kept one of a restarted valve in PEAK (R175, R191). -/
def holdOver (h : Hw) (r : Valve) : Bool :=
  let e := match r.st with | .hold => holdEndOf r | .peak => r.keepEnd.bind (fun k => laterOf (some k) r.extEnd) | _ => none
  match e with | some t => decide (t ≤ h.now) | none => false

/-- HOLD_END (R175, R176, R191): a timed hold ends; a kept hold end also ends a restarted peak. -/
def solHoldEnd (g v : Nat) (h : Hw) : Hw :=
  if holdOver h (valve h g v) then
    let h1 := solPeakDone g v h
    setValve h1 g v { solCut h g v (valve h1 g v) with st := .rel, holdEnd := none, keepEnd := none, extEnd := none }
  else h

/-- VALVE_RELEASED (R176): the current of a valve in REL falls below I_REL, 40 … 60 mA (R201). -/
def solReleased (g v mA : Nat) (h : Hw) : Hw :=
  let r := valve h g v
  if r.st = .rel ∧ mA < 60 then setValve h g v { r with st := .idle } else h

/-- DEFER_TIMEOUT (R184): a deferred valve has waited DMAX milliseconds since its planned peak start. -/
def solDeferOut (g v : Nat) (h : Hw) : Hw :=
  let r := valve h g v
  if r.st = .wait ∧ r.queued = true ∧ dmaxOf h g ≠ 0 ∧ r.planAt + dmaxOf h g * 1000 ≤ h.now then
    solReject g v 4 (setValve h g v { r with st := .idle, queued := false })
  else h

/-- DUTY_BIN_ADVANCE (R185): the bins are brought up to the present instant. -/
def solBin (g v : Nat) (h : Hw) : Hw := setValve h g v (solAccount h g v (valve h g v))

/-! ## Protection events (R186, R187) -/

/-- LOW_SIDE_THERMAL_LATCH. -/
def solLsTherm (g v : Nat) (h : Hw) : Hw := if (feed h g).supply = .on then solThermIn g v false h else h

/-- SOL_THERMAL_LATCH_RELEASE of valve `v`'s own latch, or of the bank latch. -/
def solThermRelease (g : Nat) (v : Option Nat) (h : Hw) : Hw :=
  match v with
  | some k => solThermOut g k (setValve h g k { valve h g k with tl := false })
  | none => forN 4 (fun k x => solThermOut g k x) (solLevels g (setBank h g { bank h g with therm := false }))

/-- OPEN_COIL_IN_HOLD: below half of I_HOLD at the upper on-time limit. -/
def solOpenHold (g v mA : Nat) (h : Hw) : Hw :=
  if (valve h g v).st = .hold ∧ holdTop h g ≤ (valve h g v).holdOn ∧ mA * 2 < iHoldOf h g v then solTrip g v 3 h else h

/-- HOLD_TOO_LOW: below 97 % of I_HOLD at the upper on-time limit. -/
def solHoldLow (g v mA : Nat) (h : Hw) : Hw :=
  let r := valve h g v
  if r.st = .hold ∧ holdTop h g ≤ r.holdOn ∧ mA * 100 < iHoldOf h g v * 97 then setValve h g v { r with holdLow := true } else h

/-- VALVE_CONTACT_TO_GROUND: the bank switch is on and a valve in IDLE, WAIT or REL shows its contact at ground. -/
def solContactGnd (g v : Nat) (h : Hw) : Hw :=
  let r := valve h g v
  if (bank h g).sw = true ∧ (r.st = .idle ∨ r.st = .wait ∨ r.st = .rel) then bankTrip g 3 v h else h

/-! ## What the feed group does to a bank (R126, R191, R192) -/

/-- Under-voltage of the group: valves in WAIT, PEAK or HOLD enter UVOFF. -/
def solUv (g : Nat) (h : Hw) : Hw :=
  solLevels g (forN 4 (fun v x =>
    let x1 := solPeakDone g v x
    let r := valve x1 g v
    if busyValve r then setValve x1 g v { solCut h g v r with st := .uvoff } else x1) h)

/-- Restart of the group (R191). -/
def solRestart (g : Nat) (h : Hw) : Hw :=
  let one (v : Nat) (x : Hw) : Hw :=
    let r := valve x g v
    if r.st = .uvoff then
      if dieF x 0x12 g 0x400 2 1 = 1 ∧ r.cmd = 1 then
        match (if r.passed then holdEndOf r else none) with
        | some e => if e ≤ x.now then setValve x g v { r with st := .idle } else solAdmit g v (some e) x
        | none => solAdmit g v none x
      else setValve x g v { r with st := .idle }
    else x
  solLevels g (pulse (forN 4 one h) 0x12 g 27)

/-- The die loses its supply (R192). -/
def solUnsupply (g : Nat) (h : Hw) : Hw :=
  let one (v : Nat) (x : Hw) : Hw :=
    let x1 := solPeakDone g v x
    let r := valve x1 g v
    setValve x1 g v { solCut h g v r with
      st := if busyValve r || decide (r.st = .uvoff) then .uvoff else .idle, tl := false, det := false, bins := [] }
  solLevels g (setBank (forN 4 one h) g {})

/-! ## The composite read-only registers (R198) -/

/-- The code of a state in VSTATE.ST (R189). -/
def valveCode : ValveSt → Nat
  | .idle => 0 | .wait => 1 | .peak => 2 | .hold => 3 | .rel => 4 | .trip => 5 | .therm => 6 | .uvoff => 7

/-- VSTATE[v]. -/
def vstate (h : Hw) (g v : Nat) : Nat :=
  let r := valve h g v
  r.rejc * 2 ^ 24 + r.cause * 2 ^ 20 + r.queued.toNat * 2 ^ 16 + r.holdLow.toNat * 2 ^ 12 + (feed h g).uv.toNat * 2 ^ 11
    + r.tl.toNat * 2 ^ 9 + (lsOn h g v).toNat * 2 ^ 8 + valveCode r.st

/-- BANK_STAT. -/
def bankStat (h : Hw) (g : Nat) : Nat :=
  let b := bank h g
  let pk := (List.range 4).filter (fun v => decide ((valve h g v).st = .peak))
  let bst := if b.therm then 3 else if b.trip then 2 else if (feed h g).uv then 4 else if b.sw then 1 else 0
  b.valve * 2 ^ 12 + b.cause * 2 ^ 8 + (match pk with | [] => 0 | v :: _ => 64 + v * 16) + bst

end Sys2Proof.Machine
end

