-- ==== Sys2Proof/Machine/Meas.lean ====
section
/-!
DEFINITION. The measurement engine of chapter 03: results through calibration and overlay, snapshots, background
self-calibration and calibration on request.
-/
namespace Sys2Proof.Machine

/-- The record of measurement group `g`. -/
def meas (h : Hw) (g : Nat) : MeasG := smGet {} h.meas g

/-- `h` with the record of group `g` replaced. -/
def setMeas (h : Hw) (g : Nat) (r : MeasG) : Hw := { h with meas := smPut {} g r h.meas }

/-- The factory trim of a T-coded register: the implementation's, or the identity `ident` after a failed check (R508). -/
def trim (h : Hw) (a : Nat) (ident : Word) : Word := if bit (rd h 1 0 0x08C) 5 then ident else Config.trimWord a

/-- FTRIM_G[i] of group `g`. -/
def ftrimG (h : Hw) (g i : Nat) : Nat := fld (trim h (pg 0x14 g + 0x900 + 4 * i) 0x100000) 0 22

/-- FTRIM_O[i] of group `g`. -/
def ftrimO (h : Hw) (g i : Nat) : Int := sext 24 (fld (trim h (pg 0x14 g + 0xA00 + 4 * i) 0) 0 24)

/-- The upper end of channel `i`'s measuring range in LSB (R67, R68). -/
def measTop (i : Nat) : Int :=
  if i < 12 then 1000000 else if i < 20 then 3200000 else if i < 24 then 8000000 else if i < 30 then 4000000
  else if i < 34 then 1600000 else if i < 46 then 700000 else 17500

/-- The lower end of channel `i`'s measuring range in LSB. -/
def measBot (i : Nat) : Int := if i < 34 then -measTop i else if i < 46 then -50000 else -5500

/-- The nominal of a current channel in LSB (R67). -/
def measNominal (i : Nat) : Nat := if i < 12 then 250000 else if i < 20 then 800000 else if i < 24 then 2000000 else if i < 30 then 1000000 else 200000

/-- The high-side channel of current index `i < 24` of group `g` (R67). -/
def measHsw (g i : Nat) : Nat := if i < 12 then 12 * g + i else if i < 20 then 48 + 8 * g + (i - 12) else 80 + 4 * g + (i - 20)

/-- A current channel is not off, and its applied PWM duty lies strictly between 0 % and 100 % (R72, R193). -/
def pwmPartial (h : Hw) (g i : Nat) : Bool :=
  if i < 24 then
    let r := hsw h (measHsw g i)
    (decide (r.st = .on) || decide (r.st = .limit)) && decide (r.cmd = 2) && decide (0 < r.pwm.duty) && decide (r.pwm.duty < 65535)
  else if i < 30 then
    let u := hbrLead h (6 * g + (i - 24))
    let r := hbr h u
    decide (r.st = .drive) && hbrIsPwm (hbrSingle h u) r.cmd && decide (0 < r.pwm.duty) && decide (r.pwm.duty < 65535)
  else if i < 34 then let r := valve h g (i - 30); decide (r.st = .hold) && decide (0 < r.holdOn)
  else false

/-- The PWM-period mean replaces the results of channel `i` (R72). -/
def usesMean (h : Hw) (g i : Nat) : Bool :=
  decide (i < 34) && bit (cfg h 0x14 g (0x408 + 4 * (i / 32))) (i % 32) && pwmPartial h g i

/-- The applied command of a current channel is off (R81). -/
def measOff (h : Hw) (g i : Nat) : Bool :=
  if i < 24 then decide ((hsw h (measHsw g i)).cmd = 0)
  else if i < 30 then decide ((hbr h (hbrLead h (6 * g + (i - 24)))).cmd = 0)
  else if i < 34 then decide ((valve h g (i - 30)).cmd = 0) && !busyValve (valve h g (i - 30))
  else true

/-- CAL_AGE[i] exceeds CAL_MAXAGE (R86); with AGE = 0xFFFF none does, 0xFFFF neither (log entry 73). -/
def isStale (h : Hw) (g i : Nat) : Bool :=
  decide (fld (cfg h 0x14 g 0x404) 0 16 < fld (rd h 0x14 g (0xD00 + 4 * i)) 0 16)

/-- STALE_LO and STALE_HI: word `w` of the stale bits of channels 0…45. -/
def staleWord (h : Hw) (g w : Nat) : Nat :=
  (List.range 32).foldl (fun a b => if 32 * w + b < 46 ∧ isStale h g (32 * w + b) = true then a + 2 ^ b else a) 0

/-- FEED_OK: the power die of group `g` is supplied (R91). -/
def feedOk (h : Hw) (g : Nat) : Bool := decide ((feed h g).supply = .on)

/-- The level sources of the MEAS page (R95). -/
def measLevels (g : Nat) (h : Hw) : Hw :=
  let h1 := level h 0x14 g 3 ((List.range 46).any (fun i => isStale h g i))
  let h2 := level h1 0x14 g 4 (!bit (rd h1 0x14 g 0x040) 1)
  level h2 0x14 g 5 (!feedOk h2 g)

/-- Set a W1C bit of channel `i` in a LO/HI register pair at `off`, pulsing source `src` where it was 0. -/
def flagBit (h : Hw) (g off i src : Nat) : Hw :=
  let o := off + 4 * (i / 32)
  let w := rd h 0x14 g o
  if bit w (i % 32) then h else pulse (wr h 0x14 g o (setBit w (i % 32) true)) 0x14 g src

/-- A completed decimator output `d` of channel `i` becomes a result (R69, R70, R73, R74). -/
def measStore (g i : Nat) (d : Int) (h : Hw) : Hw :=
  let within := decide (measBot i ≤ d ∧ d ≤ measTop i)
  let raw := if within then calStage d (fld (rd h 0x14 g (0xB00 + 4 * i)) 0 22) (sext 24 (fld (rd h 0x14 g (0xC00 + 4 * i)) 0 24))
    else clampInt (measBot i) (measTop i) d
  let ug := fld (cfg h 0x14 g (0x500 + 4 * i)) 0 22
  let uo := sext 24 (fld (cfg h 0x14 g (0x600 + 4 * i)) 0 24)
  let value := overlay raw (ftrimG h g i) (ftrimO h g i) ug uo
  let seq := (fld (rd h 0x14 g (0x100 + 4 * i)) 24 6 + 1) % 64
  let h1 := wr h 0x14 g (0x100 + 4 * i) (BitVec.ofNat 32 (0xC0000000 + seq * 2 ^ 24 + field24 value))
  let h2 := { h1 with newSince := smPut false (64 * g + i) true h1.newSince }
  if within then h2 else flagBit h2 g 0x050 i 1

/-- The kind of channel `i` in the settling times of R97, and the largest such time in µs. -/
def settleKind (i : Nat) : Nat × Nat := if i < 24 then (0, 80) else if i < 34 then (1, 20) else (2, 310)

/-- Channel `i` has settled: t_SETL has passed since its last injection window ended or its feed returned (R82, R83, R91, R97). -/
def settled (h : Hw) (g i : Nat) : Bool :=
  match smGet 0 (meas h g).settle i with
  | 0 => true
  | t + 1 => decide (t + min (settleKind i).2 (Config.settleTime (settleKind i).1) ≤ h.now)

/-- Channel `i` begins to settle. -/
def settleFrom (h : Hw) (i : Nat) (r : MeasG) : MeasG := { r with settle := smPut 0 i (h.now + 1) r.settle }

/-- A channel can produce a result: its domain is ON, no injection window of it runs, it has settled, and a current channel's die is
supplied (R82, R83, R91). -/
def measLive (h : Hw) (g i : Nat) : Bool :=
  domOn h (31 + g) && decide ((meas h g).win.map Prod.fst ≠ some i) && settled h g i && (decide (34 ≤ i) || decide ((feed h g).supply = .on))

/-- MEAS_RESULT (R69 … R74): decimator output `d` of channel `i` completes. -/
def measResult (g i : Nat) (d : Int) (h : Hw) : Hw := if measLive h g i && !usesMean h g i then measStore g i d h else h

/-- PWM_PERIOD_MEAN (R72): the mean over one PWM period completes. -/
def measMean (g i : Nat) (d : Int) (h : Hw) : Hw := if measLive h g i && usesMean h g i then measStore g i d h else h

/-! ## Calibration (R81 … R88) -/

/-- The round moves on to the next of the channels 0…45. -/
def roundNext (r : MeasG) : MeasG := { r with idx := if r.idx < 45 then r.idx + 1 else 0 }

/-- Report the outcome of a request (R88): RESULT and CALDONE. -/
def calDone (g res : Nat) (h : Hw) : Hw := pulse (wrF h 0x14 g 0x048 8 2 res) 0x14 g 6

/-- Channel `i` is idle: voltage channels always, a current channel with a supplied die, an off command and a current below
1 % of nominal (R81). -/
def measIdle (h : Hw) (g i : Nat) (lsb : Nat) : Bool :=
  decide (34 ≤ i) || (decide ((feed h g).supply = .on) && measOff h g i && decide (lsb * 100 < measNominal i))

/-- INJECTION_WINDOW_START (R81, R87): the round reaches its channel, whose current is `lsb`; a channel that is not idle is
skipped. While a request waits or runs, the round pauses. -/
def winStart (g lsb : Nat) (h : Hw) : Hw :=
  let r := meas h g
  if domOpen h (31 + g) = true ∧ r.win = none ∧ r.reqWait = none ∧ cfgF h 0x14 g 0x400 0 1 = 1 then
    if measIdle h g r.idx lsb then setMeas h g { r with win := some (r.idx, false) } else setMeas h g (roundNext r)
  else h

/-- The injection window of the group, if one runs, ends now (R82, R83). -/
def winOver (h : Hw) (r : MeasG) : MeasG :=
  match r.win with
  | some (i, _) => settleFrom h i { r with win := none }
  | none => r

/-- The injection window of the group ends before its time and its measurement is discarded: a round moves on to its next channel (log
entry 72), a request is dropped (R83, R87, R88). -/
def winAbort (g : Nat) (h : Hw) : Hw :=
  let r := meas h g
  match r.win with
  | some (_, false) => setMeas h g (roundNext (winOver h r))
  | some (_, true) => calDone g 2 (setMeas h g (winOver h r))
  | none => h

/-- The window's channel is no longer idle: its applied command is not off (R81, R83). -/
def winBusy (h : Hw) (g : Nat) : Bool := match (meas h g).win with | some (i, _) => decide (i < 34) && !measOff h g i | none => false

/-- A window whose channel has been switched on ends (R81, R83). -/
def winOnCmd (g : Nat) (h : Hw) : Hw := if winBusy h g then winAbort g h else h

/-- A window of the rounds ends where CAL_EN = 0 has been applied (R87). -/
def winDisabled (g : Nat) (h : Hw) : Hw :=
  match (meas h g).win with
  | some (_, false) => if cfgF h 0x14 g 0x400 0 1 = 0 then winAbort g h else h
  | _ => h

/-- The three conditions of R84 on measured coefficients. -/
def calOk (h : Hw) (g i gain : Nat) (ofs : Int) : Bool :=
  let g0 := fld (rd h 0x14 g (0xB00 + 4 * i)) 0 22
  let fresh := decide (fld (rd h 0x14 g (0xD00 + 4 * i)) 0 16 = 0xFFFF)
  let bound : Int := if 34 ≤ i then 50 else (measNominal i * 5 / 10000 : Nat)
  decide (98 * 1048576 ≤ gain * 100 ∧ gain * 100 ≤ 102 * 1048576) && (fresh || decide (max gain g0 * 1000 - min gain g0 * 1000 ≤ g0))
    && decide (-bound ≤ ofs ∧ ofs ≤ bound)

/-- INJECTION_WINDOW_END (R84, R85, R88): the window of the group ends with gain `gain` and offset `ofs`. -/
def winEnd (g gain : Nat) (ofs : Int) (h : Hw) : Hw :=
  let r := meas h g
  match r.win with
  | none => h
  | some (i, isReq) =>
    let refOk := bit (rd h 0x14 g 0x040) 1
    let ok := refOk && calOk h g i gain ofs
    let h1 := setMeas h g (if isReq then winOver h r else roundNext (winOver h r))
    let h2 :=
      if ok then
        wr (wr (wr h1 0x14 g (0xB00 + 4 * i) (BitVec.ofNat 32 gain)) 0x14 g (0xC00 + 4 * i) (BitVec.ofNat 32 (field24 ofs)))
          0x14 g (0xD00 + 4 * i) 0
      else if refOk then flagBit h1 g 0x058 i 2
      else h1
    measLevels g (if isReq then calDone g (if ok then 1 else 3) h2 else h2)

/-- CAL_ROUND_END (R85, R86): the references are compared, and the ages count. -/
def roundEnd (g : Nat) (refOk : Bool) (h : Hw) : Hw :=
  if domOn h (31 + g) then
    let age (i : Nat) (x : Hw) : Hw :=
      let a := fld (rd x 0x14 g (0xD00 + 4 * i)) 0 16
      if a = 0xFFFF then x else wr x 0x14 g (0xD00 + 4 * i) (BitVec.ofNat 32 (min 0xFFFE (a + 1)))
    measLevels g (forN 46 age (wrF h 0x14 g 0x040 1 1 refOk.toNat))
  else h

/-- CAL_REQ_GO (R88): a request is written; it registers at the next boundary. -/
def calGo (g idx : Nat) (h : Hw) : Hw := setMeas h g { meas h g with reqNew := some idx }

/-- CAL_REQ_IDLE (R88): the requested channel becomes idle within t_IW, and its window runs at once. -/
def calIdle (g lsb : Nat) (h : Hw) : Hw :=
  let r := meas h g
  match r.reqWait with
  | some i => if domOpen h (31 + g) && measIdle h g i lsb && decide (r.win = none) then setMeas h g { r with win := some (i, true), reqWait := none } else h
  | none => h

/-- CAL_REQ_IDLE_TIMEOUT (R88): the requested channel did not become idle; the request is dropped. -/
def calTimeout (g : Nat) (h : Hw) : Hw :=
  let r := meas h g
  if r.reqWait.isSome then calDone g 2 (setMeas h g { r with reqWait := none }) else h

/-- A window, and a request that waits, end with a request of RET or OFF for the group's domain (R93). -/
def calAbandon (g : Nat) (h : Hw) : Hw :=
  let r := meas h g
  let req := r.reqWait.isSome || r.reqNew.isSome || (match r.win with | some (_, b) => b | none => false)
  let h1 := setMeas h g { winOver h r with reqWait := none, reqNew := none }
  if req then calDone g 2 h1 else h1

/-- The calibration at a boundary: CAL_EN = 0 and an on command end a round's window before a written request registers, so that the round
does not resume at its channel then (R83, R87, R88, log entry 72). -/
def calBoundary (g : Nat) (h : Hw) : Hw :=
  let h1 := winDisabled g (winOnCmd g h)
  let r1 := meas h1 g
  match r1.reqNew with
  | none => h1
  | some i =>
    let old := r1.reqWait.isSome || (match r1.win with | some (_, b) => b | none => false)
    let h2 := setMeas h1 g { winOver h1 r1 with reqWait := none, reqNew := none }
    let h3 := if old then calDone g 2 h2 else h2
    if 45 < i ∨ bit (rd h3 0x14 g 0x040) 1 = false then calDone g 3 h3
    else setMeas h3 g { meas h3 g with reqWait := some i }

/-! ## Snapshots (R78) -/

/-- SNAP[i] of one channel. -/
def snapOne (g : Nat) (prev : Bool) (i : Nat) (h : Hw) : Hw :=
  let w := rd h 0x14 g (0x100 + 4 * i)
  let fresh := smGet false h.newSince (64 * g + i) || (!prev && bit w 30)
  { wr h 0x14 g (0x800 + 4 * i) (setBit w 31 fresh) with newSince := smErase (64 * g + i) h.newSince }

/-- The snapshot of group `g` at the boundary that begins `frame`; its strobe is `measSnapDone`. -/
def measSnapshot (g frame : Nat) (h : Hw) : Hw :=
  if domOn h (31 + g) then
    let h1 := forN 48 (snapOne g (meas h g).prevSnap) h
    let h2 := setMeas h1 g { meas h1 g with prevSnap := true }
    wr h2 0x14 g 0x044 (BitVec.ofNat 32 frame)
  else setMeas h g { meas h g with prevSnap := false }

/-- The snapshot of group `g` is complete (R92, R95); this pulse comes after the copy of EV_STAT (R44). -/
def measSnapDone (g : Nat) (h : Hw) : Hw := if domOn h (31 + g) then pulse h 0x14 g 0 else h

/-- The feed of the power die of group `g` is lost: VALID of the current channels falls (R91), and a window of one of them ends (log entry
72). -/
def measFeedLost (g : Nat) (h : Hw) : Hw :=
  let h1 := forN 34 (fun i x => wr x 0x14 g (0x100 + 4 * i) (setBit (rd x 0x14 g (0x100 + 4 * i)) 30 false)) h
  match (meas h1 g).win with
  | some (i, _) => if i < 34 then winAbort g h1 else h1
  | none => h1

/-- The feed returns: the current channels resume after t_SETL (R91). -/
def measFeedBack (g : Nat) (h : Hw) : Hw := setMeas h g ((List.range 34).foldl (fun r i => settleFrom h i r) (meas h g))

/-- The feed of the power die of group `g` is lost or returns (R91, R81). -/
def measFeed (g : Nat) (ok : Bool) (h : Hw) : Hw :=
  if domOn h (31 + g) then measLevels g (if ok then measFeedBack g h else measFeedLost g h) else h

/-- The group's domain returns from RET: VALID and FRESH cleared, CAL_AGE 0xFFFF (R91). -/
def measFromRet (g : Nat) (h : Hw) : Hw :=
  forN 48 (fun i x =>
    let w := rd x 0x14 g (0x100 + 4 * i)
    wr (wr x 0x14 g (0x100 + 4 * i) (setBit (setBit w 31 false) 30 false)) 0x14 g (0xD00 + 4 * i) 0xFFFF) h

/-- STATUS of the MEAS page. -/
def measStatus (h : Hw) (g : Nat) : Word :=
  let r := meas h g
  setFld (setBit (setBit (rd h 0x14 g 0x040) 0 (feedOk h g)) 2 r.win.isSome) 4 6 r.idx

end Sys2Proof.Machine
end

