-- ==== Sys2Proof/Machine/Swi.lean ====
section
/-!
DEFINITION. The switch inputs, the parking poll and the capacitive handle channels of chapter 07.
-/
namespace Sys2Proof.Machine

/-- The record of switch input `n`. -/
def swiIn (h : Hw) (n : Nat) : SwiIn := smGet {} h.swi n

/-- The configuration CFG[j] applied for input `n`, a field of it. -/
def swiCfg (h : Hw) (n lo w : Nat) : Nat := cfgF h 0x13 (n / 32) (0x480 + 4 * (n % 32)) lo w

/-- The logical state of input `n`: its debounced level XOR INV (R205); the kept state until PD41 has given it a first level (R213). -/
def swiState (h : Hw) (n : Nat) : Bool :=
  let r := swiIn h n
  if r.first then r.kept else r.deb ^^ decide (swiCfg h n 8 1 = 1)

/-- STATE of page `i`. -/
def swiStateWord (h : Hw) (i : Nat) : Nat := (List.range 32).foldl (fun a j => if swiState h (32 * i + j) then a + 2 ^ j else a) 0

/-- The low threshold in mV of selection `tsel`, under STRAP4 (R204). -/
def thrLow (h : Hw) (tsel : Nat) : Int :=
  let v : Int := match tsel with | 0 => 2000 | 1 => 3500 | 2 => 5000 | _ => 7000
  if bit h.straps 4 then 2 * v else v

/-- The high threshold in mV of selection `tsel`, under STRAP4 (R204). -/
def thrHigh (h : Hw) (tsel : Nat) : Int :=
  let v : Int := match tsel with | 0 => 3000 | 1 => 4500 | 2 => 6000 | _ => 8000
  if bit h.straps 4 then 2 * v else v

/-- A new debounced level of input `n` (R209, R211): CHG, source 0, the position counters; nothing where the logical state
stays as it was. -/
def swiChange (n : Nat) (lvl : Bool) (h : Hw) : Hw :=
  let i := n / 32
  let j := n % 32
  let r := swiIn h n
  let h1 := { h with swi := smPut {} n { r with deb := lvl, kept := false, cnt := 0, first := false } h.swi }
  if swiState h n = swiState h1 n then h1
  else
    let h2 := wr h1 0x13 i 0x048 (setBit (rd h1 0x13 i 0x048) j true)
    let h3 := if bit (rd h2 0x13 i 0x04C) j then pulse h2 0x13 i 0 else h2
    posEdge n (swiState h3 n) h3

/-- One input's sample of `mv` millivolts (R204, R207, R209, R213). -/
def swiOne (i : Nat) (j : Nat) (mv : Int) (h : Hw) : Hw :=
  let n := 32 * i + j
  let r := swiIn h n
  let was := bit (rd h 0x13 i 0x040) j
  let tsel := swiCfg h n 4 2
  let lvl := if thrHigh h tsel < mv then true else if mv < thrLow h tsel then false else was
  let h1 := wr h 0x13 i 0x040 (setBit (rd h 0x13 i 0x040) j lvl)
  let need := swiCfg h n 0 4 + 1
  let cnt := if r.first then (if r.cnt = 0 ∨ r.cl ≠ lvl then 1 else r.cnt + 1) else if lvl = r.deb then 0 else r.cnt + 1
  if cnt ≠ 0 ∧ need ≤ cnt then swiChange n lvl h1
  else { h1 with swi := smPut {} n { r with cnt := cnt, cl := lvl } h1.swi }

/-- The sample period of page `i` in µs. -/
def swiPeriod (h : Hw) (i : Nat) : Nat := match cfgF h 0x13 i 0x400 0 2 with | 0 => 100 | 1 => 250 | 2 => 1000 | _ => 5000

/-- Page `i` has taken its sample of this instant. -/
def swiTaken (h : Hw) (i : Nat) : Bool := decide (smGet 0 h.swiAt i = h.now + 1)

/-- A sample instant of page `i`: a whole multiple of its period on the block's copy of the timebase, not yet sampled (R208). -/
def swiDue (h : Hw) (i : Nat) : Bool := domOn h 41 && decide (h.tbCopy % swiPeriod h i = 0) && !swiTaken h i

/-- SWI_SAMPLE (R208): page `i` is sampled at its instant; `mvs` are the voltages of its inputs in mV, an open input reads 0 (R610). -/
def swiSample (i : Nat) (mvs : List Int) (h : Hw) : Hw :=
  if swiDue h i then forN 32 (fun j x => swiOne i j (mvs.getD j 0) x) { h with swiAt := smPut 0 i (h.now + 1) h.swiAt } else h

/-- INPUT_OVERVOLTAGE (R207): the wetting source disconnects and OVR is set. -/
def swiOver (n : Nat) (h : Hw) : Hw :=
  if domOn h 41 then
    let i := n / 32
    let w := rd h 0x13 i 0x050
    let h1 := { h with swi := smPut {} n { swiIn h n with disc := true } h.swi }
    if bit w (n % 32) then h1 else pulse (wr h1 0x13 i 0x050 (setBit w (n % 32) true)) 0x13 i 1
  else h

/-- WETTING_RECONNECT (R207). -/
def swiReconnect (n : Nat) (h : Hw) : Hw := { h with swi := smPut {} n { swiIn h n with disc := false } h.swi }

/-- WETTING_OVERTEMP and WETTING_OVERTEMP_CLEAR (R206). -/
def swiTherm (i : Nat) (b : Bool) (h : Hw) : Hw :=
  if domOn h 41 then level (wr h 0x13 i 0x05C (BitVec.ofNat 32 b.toNat)) 0x13 i 2 b else h

/-- PG_CFG.WPW of page `i` in µs. -/
def wetPulse (h : Hw) (i : Nat) : Nat := match cfgF h 0x13 i 0x400 2 2 with | 0 => 20 | 1 => 50 | 2 => 100 | _ => 200

/-- The wetting current of input `n` flows at this instant as WMODE has it: always, or for WPW before each sample (R203). -/
def wetTime (h : Hw) (n : Nat) : Bool :=
  let i := n / 32
  let p := swiPeriod h i
  decide (swiCfg h n 9 1 = 0) || decide (p ≤ wetPulse h i) ||
    (if h.tbCopy % p = 0 then !swiTaken h i else decide (p ≤ h.tbCopy % p + wetPulse h i))

/-- The wetting current of input `n` in mA: positive from the battery rail, negative to ground (R203, R206, R207, R212). -/
def wetting (h : Hw) (n : Nat) : Int :=
  if domOn h 41 = true ∧ (swiIn h n).disc = false ∧ rd h 0x13 (n / 32) 0x05C = 0 ∧ wetTime h n = true then
    (if swiCfg h n 10 1 = 1 then -(swiCfg h n 12 4 : Int) else swiCfg h n 12 4)
  else 0

/-- The switch snapshot of page `i` (R210). -/
def swiSnapshot (i frame : Nat) (h : Hw) : Hw :=
  if domOn h 41 then
    wr (wr h 0x13 i 0x054 (BitVec.ofNat 32 (swiStateWord h i))) 0x13 i 0x058 (BitVec.ofNat 32 frame)
  else h

/-! ## Parking poll (R214 … R217) -/

/-- Slot `k` of the applied PARK_SEL is enabled. -/
def slotOn (h : Hw) (k : Nat) : Bool := bit (cfg h 0x13 0 (0x408 + 4 * (k / 4))) (8 * (k % 4) + 7)

/-- The input of slot `k`. -/
def slotInput (h : Hw) (k : Nat) : Nat := cfgF h 0x13 0 (0x408 + 4 * (k / 4)) (8 * (k % 4)) 7

/-- The level sources of SWI[0] that PD00 holds (R225). -/
def parkLevels (h : Hw) : Hw :=
  let c := rd h 0x13 0 0x064
  let h1 := level h 0x13 0 3 (decide (fld (rd h 0x13 0 0x060) 0 16 ≠ 0))
  let h2 := level h1 0x13 0 4 (decide (fld c 8 8 ≠ 0))
  level (level h2 0x13 0 5 (decide (fld c 16 8 ≠ 0))) 0x13 0 6 (decide (fld c 24 8 ≠ 0))

/-- PD41 leaves ON: the copies of R214 for each enabled slot. -/
def parkCopy (h : Hw) : Hw :=
  forN 16 (fun k x =>
    if slotOn x k then
      let n := slotInput x k
      let x1 := wr x 0x13 0 0x060 (setBit (rd x 0x13 0 0x060) (16 + k) (swiState x n))
      { x1 with park := smPut {} k { tsel := swiCfg x n 4 2, wdir := decide (swiCfg x n 10 1 = 1), inv := decide (swiCfg x n 8 1 = 1), cnt := 0, met := false } x1.park }
    else x) h

/-- One slot of a poll: `mv` is the input's voltage at the end of its pulse; a slot that has met the wake rule is polled no more in this
parking (R215, R216). -/
def parkSlot (mvs : List Int) (k : Nat) (h : Hw) : Hw :=
  let s := smGet {} h.park k
  if slotOn h k && !s.met then
    let st := decide (thrHigh h s.tsel < mvs.getD k 0) ^^ s.inv
    let w := rd h 0x13 0 0x060
    let cnt := if st = bit w (16 + k) then 0 else s.cnt + 1
    let due := decide (cfgF h 0x13 0 0x404 0 2 + 1 ≤ cnt)
    let h1 := { h with park := smPut {} k { s with cnt := min cnt 4, met := due } h.park }
    if due then parkLevels (wr h1 0x13 0 0x060 (setBit w k true)) else h1
  else h

/-- The parking poll runs: PARK_CFG.EN with PD41 in RET or OFF (R214). -/
def parkRuns (h : Hw) : Bool := decide (cfgF h 0x13 0 0x404 31 1 = 1) && !domOn h 41

/-- PARK_POLL: every enabled slot, in ascending order; `mvs` are the slots' voltages. -/
def parkPoll (mvs : List Int) (h : Hw) : Hw := if parkRuns h then forN 16 (parkSlot mvs) h else h

/-- A slot has just met the wake rule: the Plinth raises its switch-input wake source (R216). -/
def parkWakes (before after : Hw) : Bool :=
  (List.range 16).any (fun k => !(smGet {} before.park k).met && (smGet {} after.park k).met)

/-! ## Capacitive channels (R218 … R223) -/

/-- The record of capacitive channel `c`. -/
def cap (h : Hw) (c : Nat) : Cap := smGet {} h.caps c

/-- `h` with the record of channel `c` replaced. -/
def setCap (h : Hw) (c : Nat) (r : Cap) : Hw := { h with caps := smPut {} c r h.caps }

/-- TTHR of channel `c` in 10 fF. -/
def tthr (h : Hw) (c : Nat) : Int := (cfgF h 0x13 0 (0x420 + 4 * c) 0 8 : Nat)

/-- Set bit `n` of CAP_STAT. -/
def capStat (h : Hw) (n : Nat) (b : Bool) : Hw := parkLevels (wr h 0x13 0 0x064 (setBit (rd h 0x13 0 0x064) n b))

/-- No sample is taken now: an LF telegram runs, or ended less than t_LFB ago (R218). A postponed sample is a later command. -/
def capBlocked (h : Hw) : Bool := decide (h.now < h.acc.lfClear)

/-- A raw value out of range (R223). -/
def outOfRange (raw : Nat) : Bool := decide (raw = 0 ∨ raw = 0xFFFF)

/-- FAULT of channel `c` after the raw value `raw` (R223). -/
def capFault (h : Hw) (c raw : Nat) : Bool :=
  let r := cap h c
  if outOfRange raw then bit (rd h 0x13 0 0x064) (16 + c) || decide (1 ≤ r.bad)
  else bit (rd h 0x13 0 0x064) (16 + c) && decide (r.good = 0)

/-- The record of channel `c` with `raw` as its last raw value, counted within or out of range. -/
def capRaw (r : Cap) (raw : Nat) : Cap :=
  { r with raw := raw, bad := if outOfRange raw then min 2 (r.bad + 1) else 0, good := if outOfRange raw then 0 else min 2 (r.good + 1) }

/-- A regular sample of the enabled channel `c` reads `raw` (R219, R220, R222, R223). -/
def capOne (c raw : Nat) (h : Hw) : Hw :=
  if bit (cfg h 0x13 0 0x418) c then
    let r := cap h c
    let t := tthr h c
    let fault := capFault h c raw
    let base := if r.based then r.base else raw
    let delta : Int := (raw : Int) - (base : Int)
    let touched := bit (rd h 0x13 0 0x064) c
    let drift := if r.drift < cfgF h 0x13 0 0x418 16 8 then r.drift + 1 else 0
    let step := decide (drift = 0) && !touched && decide (-t ≤ 2 * delta ∧ 2 * delta ≤ t)
    let base1 := if delta < -t then raw else if step then (if base < raw then base + 1 else if raw < base then base - 1 else base) else base
    let confirm := if !touched && !fault && decide (t ≤ delta) then cfgF h 0x13 0 0x418 12 3 + 1 else 0
    let h1 := setCap h c { capRaw r raw with
      base := if touched then (if delta < -t then raw else base) else base1, based := true, drift := drift, confirm := confirm }
    let h2 := capStat h1 (16 + c) fault
    let h3 := if touched && decide (2 * delta < t) then capStat h2 c false else h2
    if 2 * delta < -t then capStat h3 (24 + c) false else h3
  else h

/-- CAP_SAMPLE (R218): the enabled channels are sampled together; `raws` are the raw values of channels 0 … 7. -/
def capSample (raws : List Nat) (h : Hw) : Hw := if capBlocked h then h else forN 8 (fun c x => capOne c (raws.getD c 0) x) h

/-- A confirming sample of channel `c` reads `raw` (R220, R223): the last one qualifies the touch; a channel at fault qualifies none. -/
def capConfirmOne (c raw : Nat) (h : Hw) : Hw :=
  let r := cap h c
  if r.confirm ≠ 0 then
    let fault := capFault h c raw
    let goes := !fault && decide (tthr h c ≤ (raw : Int) - (r.base : Int))
    let h1 := capStat (setCap h c { capRaw r raw with confirm := if goes then r.confirm - 1 else 0 }) (16 + c) fault
    if goes && decide (r.confirm = 1) then capStat (capStat h1 c true) (8 + c) true else h1
  else h

/-- CAP_CONFIRM_SAMPLE (R220, R221): the channels of the round that still confirm are sampled together. -/
def capConfirm (raws : List Nat) (h : Hw) : Hw := if capBlocked h then h else forN 8 (fun c x => capConfirmOne c (raws.getD c 0) x) h

/-- The channels whose touch the confirming samples about to be taken qualify. -/
def capQualified (before after : Hw) : List Nat :=
  (List.range 8).filter (fun c => !bit (rd before 0x13 0 0x064) c && bit (rd after 0x13 0 0x064) c)

/-- STUCK_TOUCH (R222): a touch has lasted TMAX seconds. -/
def capStuck (c : Nat) (h : Hw) : Hw :=
  if bit (rd h 0x13 0 0x064) c = true ∧ cfgF h 0x13 0 0x418 24 8 ≠ 0 then
    let r := cap h c
    capStat (capStat (setCap h c { r with base := r.raw }) (24 + c) true) c false
  else h

/-- A commit of CAP_CFG: a channel that is disabled takes a new baseline when it is enabled again (R219). -/
def capCommit (h : Hw) : Hw :=
  forN 8 (fun c x => if bit (cfg x 0x13 0 0x418) c then x else setCap x c { cap x c with based := false, confirm := 0 }) h

/-- CAP_CH[c]. -/
def capCh (h : Hw) (c : Nat) : Nat := (cap h c).base * 65536 + (cap h c).raw

/-- PD41 returns to ON: every input keeps its state until its first debounced level (R213), and the block's timebase is the master's
where that runs (R472). -/
def swiReturn (h : Hw) : Hw :=
  { h with
    tbCopy := if domOn h 18 then h.timebase else h.tbCopy
    swi := h.swi.filterMap (fun e =>
      let r : SwiIn := { e.2 with deb := false, kept := swiState h e.1, cnt := 0, cl := false, first := true, disc := false }
      if r = {} then none else some (e.1, r)) }

end Sys2Proof.Machine
end

