-- ==== Sys2Proof/Machine/Acc.lean ====
section
/-!
DEFINITION. The access front end of chapter 18: polls, response windows, button telegrams, reports, learning, and the
immobiliser relay with its authorisation window.
-/
namespace Sys2Proof.Machine

/-! ## Reading the front end -/

/-- The level sources of the ACC page (R537). -/
def accLevels (h : Hw) : Hw :=
  let h1 := level h 0x40 0 6 (decide (rd h 0x40 0 0x074 ≠ 0))
  let h2 := level h1 0x40 0 7 (bit (rd h 0x40 0 0x070) 5)
  level h2 0x40 0 8 (bit (rd h 0x40 0 0x070) 1)

/-- Replace the record of the front end. -/
def setAcc (h : Hw) (r : Acc) : Hw := { h with acc := r }

/-- Slot `k` as it reads: not enrolled while the completion mark is absent (R518). -/
def slot (h : Hw) (k : Nat) : Slot := if h.acc.mark then smGet {} h.acc.slots k else {}

/-- A poll or a learn runs. -/
def accBusy (h : Hw) : Bool := h.acc.poll.isSome || h.acc.learn.isSome

/-- The length of the LF telegram in µs (R519). -/
def lfLen (h : Hw) : Nat := max 1 (cfgF h 0x40 0 0x400 8 4) * 500 + 15360

/-- An LF telegram runs (R519, R523). -/
def lfTx (h : Hw) : Bool :=
  match h.acc.poll with
  | some p => p.chal.isSome && decide (h.now < p.txEnd)
  | none => false

/-- The response window is open: from t_RWO to t_RWE after the telegram (R523). -/
def inWindow (h : Hw) : Bool :=
  match h.acc.poll with
  | some p => p.chal.isSome && decide (p.txEnd + 1000 ≤ h.now ∧ h.now ≤ p.txEnd + 14000)
  | none => false

/-- The receiver listens outside windows: while LISTEN is 1, and for t_UL after a wake by source 16 (R526). -/
def listens (h : Hw) : Bool :=
  domOn h 42 && ((h.acc.ul && decide (h.now ≤ h.acc.ulAt + 200000)) || bit (cfg h 0x40 0 0x404) 3)

/-! ## Telegrams (R520, R521, R524) -/

/-- The payload bytes of a telegram. -/
def payload (t : Telegram) : List Byte :=
  [t.type] ++ beBytes 4 t.tid.toNat ++ [t.flags, t.aux] ++ beBytes 3 t.cnt.toNat ++ t.mac.take 8

/-- The MAC of an answer for a challenge and an antenna mask. -/
def answerMac (key chal : List Byte) (ant : Nat) (t : Telegram) : List Byte :=
  (cmac16 key (chal ++ [t.type] ++ beBytes 4 t.tid.toNat ++ [t.flags, t.aux, BitVec.ofNat 8 ant])).take 8

/-- The MAC of a button telegram. -/
def buttonMac (key : List Byte) (t : Telegram) : List Byte :=
  (cmac16 key ([t.type] ++ beBytes 4 t.tid.toNat ++ [t.flags, t.aux] ++ beBytes 3 t.cnt.toNat ++ List.replicate 6 0)).take 8

/-- Log a telegram (R524): count, identity, reason, slot; the poll's report keeps the first four. -/
def accLog (t : Telegram) (reason k : Nat) (h : Hw) : Hw :=
  let h1 := wr (incSat h 0x40 0 0x05C 16 16 1) 0x40 0 0x058 t.tid
  let h2 := wrF (wrF h1 0x40 0 0x05C 4 3 reason) 0x40 0 0x05C 0 3 k
  let h3 := match h2.acc.poll with
    | some p =>
      if p.logs.length < 4 then
        setAcc h2 { h2.acc with poll := some { p with
          logs := p.logs ++ [payload t ++ [BitVec.ofNat 8 k, BitVec.ofNat 8 reason]] } }
      else h2
    | none => h2
  pulse h3 0x40 0 3

/-- Why an answer is invalid for slot `k`; 0 for a valid one. -/
def answerReason (h : Hw) (k : Nat) (chal : List Byte) (ant : Nat) (t : Telegram) : Nat :=
  if t.type ≠ 0x51 then 3
  else if t.tid.toNat ≠ (slot h k).tid then 1
  else if t.mac.take 8 ≠ answerMac (slot h k).key chal ant t then 2
  else 0

/-! ## Reports (R529) -/

/-- Write a report of eight header words and a tail into the report ring; without a ring or a page it is lost. -/
def accReport (hdr : List Nat) (tail : List Byte) (m : Mach) : Mach :=
  match ringQueue m.hw 0x40 0 with
  | none => m
  | some q =>
    match claimFrame 0x40 0 q 1 m.hw with
    | (none, h1) => { m with hw := h1 }
    | (some pgs, h1) =>
      let seq := (h1.acc.seq + 1) % 65536
      let w := [0x80000000 + hdr.getD 0 0 * 0x8000000 + seq, hdr.getD 1 0, hdr.getD 2 0, h1.frame % 65536, h1.tbCopy % 2 ^ 32,
        hdr.getD 3 0, hdr.getD 4 0, hdr.getD 5 0]
      (fillPages pgs (w.flatMap wordBytes ++ tail) { m with hw := h1 }).onHw (fun h =>
        queueFed q (joinQueue q (pgs.headD 0) 256 0 (setAcc h { h.acc with seq := seq })))

/-! ## Button telegrams (R526) -/

/-- The slot that a button telegram names. -/
def buttonSlot (h : Hw) (t : Telegram) : Option Nat :=
  (List.range 8).find? (fun k => (slot h k).en && decide ((slot h k).tid = t.tid.toNat))

/-- A decoded button telegram is checked: accepted with a report, or logged. The slot logged for a TID of no slot is open (log
entry 8). -/
def buttonCheck (t : Telegram) (m : Mach) : Mach :=
  let h := m.hw
  match buttonSlot h t with
  | none => m.onHw (fun x =>
      accLog t 1 ((Config.openWord x.freeCnt).toNat % 8) { x with freeCnt := x.freeCnt + 1 })
  | some k =>
    let s := slot h k
    let win := max 1 (cfgF h 0x40 0 0x408 8 12)
    if s.btn = false then m.onHw (accLog t 5 k)
    else if t.mac.take 8 ≠ buttonMac s.key t then m.onHw (accLog t 2 k)
    else if t.cnt.toNat ≤ s.cnt ∨ s.cnt + win < t.cnt.toNat then m.onHw (accLog t 4 k)
    else
      let m1 := m.onHw (fun x => setAcc x { x.acc with slots := smPut {} k { s with cnt := t.cnt.toNat } x.acc.slots })
      let m2 := accReport [1, t.tid.toNat, t.cnt.toNat * 0x100 + t.aux.toNat, k * 0x100 + t.flags.toNat, 0, 0] [] m1
      m2.onHw (fun x => pulse x 0x40 0 4)

/-- BUTTON_TELEGRAM: a button telegram is decoded while the receiver listens, outside a response window; the telegrams of a window come
with its end (R516, R526). -/
def buttonHeard (t : Telegram) (m : Mach) : Mach :=
  if decide (t.type = 0x52) && listens m.hw && !inWindow m.hw then buttonCheck t m else m

/-! ## Polls (R522 … R527) -/

/-- The slots of a mask that are enrolled, ascending. -/
def pollSlots (h : Hw) (mask : Nat) : List Nat :=
  (List.range 8).filter (fun k => mask.testBit k && (slot h k).en)

/-- IMMO_CFG.WIN × 100 ms in µs. -/
def winTime (h : Hw) : Nat := max 1 (cfgF h 0x40 0 0x41C 0 8) * 100000

/-- The results of a poll that ends (R527). -/
def pollResults (p : Poll) (h : Hw) : Hw :=
  let info := ((fld (rd h 0x40 0 0x04C) 24 8 + 1) % 256) * 0x1000000 + p.ant * 0x100 + p.cause * 0x40 + p.cap * 4
  let h1 := wr (wr h 0x40 0 0x048 (BitVec.ofNat 32 p.out)) 0x40 0 0x04C (BitVec.ofNat 32 info)
  let h2 := wr (wr h1 0x40 0 0x050 (BitVec.ofNat 32 p.rssi)) 0x40 0 0x054 (BitVec.ofNat 32 (p.rssi / 2 ^ 32))
  setAcc h2 { h2.acc with poll := none }

/-- POLLDONE, and the authorisation window that an immobiliser poll opens (R527, R534). -/
def pollDone (p : Poll) (h : Hw) : Hw :=
  let h1 := pulse h 0x40 0 0
  match p.cause, p.imm.head? with
  | 3, some k =>
    let h2 := wrF (wrF h1 0x40 0 0x070 1 1 1) 0x40 0 0x070 2 3 k
    accLevels (setAcc h2 { h2.acc with authEnd := h2.now + winTime h2 })
  | _, _ => h1

/-- The header words of the report on a poll (R527). -/
def pollHdr (p : Poll) (h : Hw) : List Nat :=
  [0, (rd h 0x40 0 0x04C).toNat, p.out, p.rssi % 2 ^ 32, p.rssi / 2 ^ 32, p.logs.length]

/-- The telegrams that a report logs, each in 32 bytes. -/
def pollLogs (p : Poll) : List Byte := p.logs.flatMap (fun l => l ++ List.replicate (32 - l.length) 0)

/-- The poll ends (R527): results, report, POLLDONE, and the authorisation window. -/
def pollEnd (p : Poll) (m : Mach) : Mach :=
  (accReport (pollHdr p (pollResults p m.hw)) (pollLogs p) (m.onHw (pollResults p))).onHw (pollDone p)

/-- Start a poll; with no slot to visit it ends at once (R528). -/
def pollStart (cause cap ant mask : Nat) (m : Mach) : Mach :=
  let p : Poll := { cause := cause, cap := cap, ant := ant, slots := pollSlots m.hw mask }
  if p.slots.isEmpty then pollEnd p m else m.onHw (fun h => setAcc h { h.acc with poll := some p })

/-- A write of POLL_CMD (R522, R528). -/
def pollCmd (w : Word) (m : Mach) : Mach :=
  if bit w 31 then
    if accBusy m.hw then m.onHw (fun h => err h 0x40 0 17)
    else if fld w 16 8 = 0 ∨ fld w 0 8 = 0 then m.onHw (fun h => err h 0x40 0 16)
    else pollStart (if bit w 30 then 3 else 1) 0 (fld w 0 8) (fld w 16 8) m
  else m

/-- TOUCH_POLL_START: with PD42 ON and nothing running, the lowest pending touch starts its poll (R522). -/
def touchPoll (m : Mach) : Mach :=
  let h := m.hw
  if domOn h 42 && !accBusy h then
    match (List.range 8).find? (fun c => bit (rd h 0x40 0 0x07C) c) with
    | some c =>
      let ant := if c < 4 then cfgF h 0x40 0 0x410 (8 * c) 8 else cfgF h 0x40 0 0x414 (8 * (c - 4)) 8
      pollStart 2 c ant (cfgF h 0x40 0 0x40C 16 8) (m.onHw (fun x => wrF x 0x40 0 0x07C c 1 0))
    | none => m
  else m

/-- A touch that qualifies on channel `c` requests a poll (R522); AUTO_STAT is held in PD00. -/
def touchReq (c : Nat) (h : Hw) : Hw :=
  if bit (cfg h 0x40 0 0x40C) 31 && bit (cfg h 0x40 0 0x40C) c then wrF h 0x40 0 0x07C c 1 1 else h

/-- POLL_ATTEMPT_START: a new challenge is drawn and the telegram sent (R523). -/
def attempt (h : Hw) : Hw :=
  match h.acc.poll with
  | some p =>
    if domOn h 42 && p.chal.isNone then
      setAcc { h with freeCnt := h.freeCnt + 1 } { h.acc with
        poll := some { p with chal := some ((List.range 8).map (Config.randByte h.freeCnt)), txEnd := h.now + lfLen h, faults := 0 }
        lfClear := h.now + lfLen h + 2000 }
    else h
  | none => h

/-- ANTENNA_FAULT: antenna `a` is open or shorted during a telegram (R515). -/
def antFault (a : Nat) (short : Bool) (h : Hw) : Hw :=
  match h.acc.poll with
  | some p =>
    if lfTx h && p.ant.testBit a then
      let h1 := wrF h 0x40 0 0x074 (if short then 8 + a else a) 1 1
      accLevels (setAcc h1 { h1.acc with poll := some { p with faults := Nat.lor p.faults (2 ^ a) } })
    else h
  | none => h

/-- Slot `k` of the poll ends with an outcome code; `aux` is the signal strength of an acceptance. -/
def slotEnd (p : Poll) (k code : Nat) (aux : Nat) (m : Mach) : Mach :=
  let acc := decide (code = 1 ∨ code = 2)
  let logs := match m.hw.acc.poll with | some x => x.logs | none => p.logs
  let p1 : Poll := { p with
    slots := p.slots.tail, tries := 0, chal := none, faults := 0, out := p.out + code * 2 ^ (4 * k)
    rssi := if acc then p.rssi + aux * 2 ^ (8 * k) else p.rssi, logs := logs
    imm := if acc && (slot m.hw k).immo then p.imm ++ [k] else p.imm }
  let m1 := m.onHw (fun h => if acc then pulse h 0x40 0 1 else if code = 4 ∨ code = 5 then pulse h 0x40 0 2 else h)
  if p1.slots.isEmpty ∨ (acc && bit (cfg m.hw 0x40 0 0x408) 4) = true then pollEnd p1 m1
  else m1.onHw (fun h => setAcc h { h.acc with poll := some p1 })

/-- RESPONSE_WINDOW_END, t_RWE after the telegram: the telegrams decoded, strongest first, and carrier sense decide the attempt (R523 … R525). -/
def windowEnd (l : List Telegram) (cs : Bool) (m : Mach) : Mach :=
  match m.hw.acc.poll with
  | none => m
  | some p =>
    if m.hw.now < p.txEnd + 14000 then m else
    match p.chal, p.slots with
    | some chal, k :: _ =>
      let two := l.take 2
      let m1 := (two.filter (fun t => decide (t.type = 0x52))).foldl (fun a t => buttonCheck t a) m
      let ans := two.filter (fun t => decide (t.type ≠ 0x52))
      let bad := ans.filter (fun t => decide (answerReason m.hw k chal p.ant t ≠ 0))
      let good := ans.filter (fun t => decide (answerReason m.hw k chal p.ant t = 0))
      let m2 := bad.foldl (fun a t => a.onHw (accLog t (answerReason m.hw k chal p.ant t) k)) m1
      match good with
      | g :: _ :: _ => slotEnd p k 2 g.aux.toNat m2
      | [g] => slotEnd p k 1 g.aux.toNat m2
      | [] =>
        if bad ≠ [] then slotEnd p k 5 0 m2
        else if cs then
          if p.tries < min 3 (cfgF m.hw 0x40 0 0x408 0 2) then
            m2.onHw (fun h => setAcc h { h.acc with poll := some { p with
              tries := p.tries + 1, chal := none, logs := (match h.acc.poll with | some x => x.logs | none => p.logs) } })
          else slotEnd p k 4 0 m2
        else if p.ant ≠ 0 ∧ Nat.land p.ant p.faults = p.ant then slotEnd p k 6 0 m2
        else slotEnd p k 3 0 m2
    | _, _ => m

/-- A wake by source 16 now would bring PD42 to ON (R450, R526). -/
def wakesAcc (h : Hw) : Bool := !domOn h 42 && bit (cfg h 2 0 0x404) 16 && bit (cfg h 2 0 0x504) 10

/-- UHF_WAKE: the sniffing detector finds the wake word (R535). -/
def uhfWake (h : Hw) : Hw :=
  if bit (cfg h 0x40 0 0x418) 31 && !listens h && !inWindow h then
    plinthWake 16 (setAcc h { h.acc with uwWake := wakesAcc h })
  else h

/-- PD42 is ON: listening for t_UL begins where wake source 16 brought it up (R526). -/
def accUp (h : Hw) : Hw := if h.acc.uwWake then setAcc h { h.acc with ul := true, ulAt := h.now, uwWake := false } else h

/-- UHF_LISTEN_END: t_UL has passed (R526). -/
def listenEnd (h : Hw) : Hw := if h.acc.ulAt + 200000 ≤ h.now then setAcc h { h.acc with ul := false } else h

/-! ## Learning (R530 … R532) -/

/-- The record at the address in NV that is in force of two copies: valid by MAGIC and CRC, the higher SEQ (R541). -/
def nvRecord (m : Mem) (a b magic crcOff lo hi : Nat) : Option Nat :=
  let ok (x : Nat) : Bool := decide (rdMem m x 4 = magic) &&
    decide (rdMem m (x + crcOff) 4 = crc32 (rdBytes m (x + lo) (hi - lo)))
  let seq (x : Nat) : Nat := rdMem m (x + 4) 4
  match ok a, ok b with
  | true, true => some (if seq a < seq b then b else a)
  | true, false => some a
  | false, true => some b
  | false, false => none

/-- The key record in force (R545). -/
def keyRecord (m : Mem) : Option Nat := nvRecord m 0x0000 0x1000 0x4B530001 0x190 0 0x190

/-- A key of the record in force that is present: not all zero (R545). -/
def recordKey (m : Mem) (off : Nat) : Option (List Byte) :=
  match keyRecord m with
  | some a => let k := rdBytes m (a + off) 96; if k.all (fun b => decide (b = 0)) then none else some k
  | none => none

/-- The public half of DIK (R542). -/
def dikPub : List Byte :=
  match ecMul 384 (Config.dikKey % bpQ) (some bpG) with
  | some (x, y) => beBytes 48 x ++ beBytes 48 y
  | none => List.replicate 96 0

/-- The transport key (R517). -/
def ktBytes : List Byte := (List.range 16).map Config.ktByte

/-- The ticket of 416 bytes at `a` may be read: its memory and the fabric are ON (R482). -/
def ticketOpen (h : Hw) (a : Nat) : Bool := domOpen h 18 && (List.range 26).all (fun k => domOpen h (memDomain (a + 16 * k)))

/-- A write of LEARN_CTL (R531 steps 1 and 2, R528); a copy that meets a memory that is not ON waits for it, until LEARN_DONE. -/
def learnCtl (w : Word) (m : Mach) : Mach :=
  if fld w 24 8 = 0x9E ∧ bit w 0 = true then
    if accBusy m.hw then m.onHw (fun h => err h 0x40 0 17)
    else
      let a := (rd m.hw 0x40 0 0x064).toNat
      let bad := decide (a < 0x20000000) || decide (0x20200000 < a + 416) || decide (a % 16 ≠ 0)
      m.onHw (fun h =>
        let h1 := wrF h 0x40 0 0x068 0 3 1
        let busy := h1.cry.run.isSome
        { h1 with acc := { h1.acc with learn := some (if bad || !ticketOpen m.hw a then [] else rdBytes m.mem a 416), learnBad := bad }
                  cry := { h1.cry with lrnWait := busy } })
  else m

/-- The fields of slot `k` of a ticket (R530). -/
def ticketSlot (t : List Byte) (k : Nat) : Slot :=
  let at4 (o : Nat) : Nat := leNat ((t.drop (o + 0x20 * k)).take 4)
  let f := at4 0x44
  { en := f.testBit 0, immo := f.testBit 1, btn := f.testBit 2, tid := at4 0x40, cnt := at4 0x48
    key := (t.drop (0x50 + 0x20 * k)).take 16 }

/-- The ticket breaks the format of R530. -/
def ticketBad (t : List Byte) : Bool :=
  let w (o : Nat) : Nat := leNat ((t.drop o).take 4)
  let s := (List.range 8).map (ticketSlot t)
  decide (w 0 ≠ 0x4B4C0001) || decide (w 8 ≠ 0) || decide (w 12 ≠ 0) ||
    (List.range 8).any (fun k =>
      let x := ticketSlot t k
      decide (8 ≤ w (0x44 + 0x20 * k)) || decide (w (0x4C + 0x20 * k) ≠ 0) || ((x.immo || x.btn) && !x.en) ||
        (x.en && (decide (x.tid = 0) || decide (x.tid = 0xFFFFFFFF) || decide (2 ^ 24 ≤ x.cnt)))) ||
    decide (((s.filter (·.en)).map (·.tid)) ≠ distinct ((s.filter (·.en)).map (·.tid)))

/-- The result of a learn's checks, steps 2 to 6 of R531: 2 for a ticket that passes. -/
def learnResult (m : Mach) (t : List Byte) : Nat :=
  if m.hw.acc.learnBad || ticketBad t then 3
  else if (t.drop 0x10).take 48 ≠ sha384 dikPub then 5
  else if leNat ((t.drop 4).take 4) ≤ m.hw.acc.lctr then 6
  else match recordKey m.mem 0x70, domOn m.hw 43 with
    | some k, true => if ecdsaOk (sha384 (t.take 0x140)) k ((t.drop 0x140).take 96) then 2 else 4
    | _, _ => 7

/-- The slot store that a ticket writes (R531 steps 7 to 9). -/
def learnSlots (t : List Byte) : List (Nat × Slot) :=
  (List.range 8).foldl (fun a k =>
    let s := ticketSlot t k
    if s.en then smPut {} k { s with key := aesDec ktBytes s.key } a else a) []

/-- The ticket of the learn that runs: its copy, or what its memory holds once that may be read; none while the copy waits (R531 step 2). -/
def learnTicket (m : Mach) : Option (List Byte) :=
  let a := (rd m.hw 0x40 0 0x064).toNat
  match m.hw.acc.learn with
  | some [] => if m.hw.acc.learnBad then some [] else if ticketOpen m.hw a then some (rdBytes m.mem a 416) else none
  | x => x

/-- LEARN_DONE: the learn finishes its checks and writes the store, or ends with a failure (R531). -/
def learnDone (m : Mach) : Mach :=
  match learnTicket m with
  | none => m
  | some t =>
    let r := learnResult m t
    m.onHw (fun h =>
      let h1 := wrF h 0x40 0 0x068 0 3 r
      let h2 := if r = 2 then wrF h1 0x40 0 0x070 1 1 0 else h1
      let a := { h2.acc with learn := none, learnBad := false }
      let a' := if r = 2 then { a with slots := learnSlots t, lctr := leNat ((t.drop 4).take 4), mark := true } else a
      accLevels (pulse { h2 with acc := a', cry := { h2.cry with lrnWait := false } } 0x40 0 5))

/-- A reset or supply loss cuts a poll and a learn short (R528, R532): whether the learn had reached step 7 is open. -/
def accCut (m : Mach) : Mach :=
  let h := m.hw
  let cut := match h.acc.learn with
    | some t => decide (learnResult m t = 2) && Config.learnCut h.freeCnt
    | none => false
  m.onHw (fun x => { x with
    freeCnt := if x.acc.learn.isSome then x.freeCnt + 1 else x.freeCnt
    acc := { x.acc with
      poll := none, learn := none, learnBad := false, ul := false, lfClear := min x.acc.lfClear (x.now + 2000)
      slots := if cut then [] else x.acc.slots, mark := x.acc.mark && !cut } })

/-! ## Immobiliser relay (R533, R534) -/

/-- A write of IMMO_CTL. -/
def immoCtl (w : Word) (h : Hw) : Hw :=
  if fld w 24 8 = 0x6D then
    match fld w 0 2 with
    | 1 =>
      if bit (rd h 0x40 0 0x070) 1 && decide (h.now < h.acc.authEnd) then accLevels (wrF (wrF h 0x40 0 0x070 0 1 1) 0x40 0 0x070 1 1 0)
      else err h 0x40 0 18
    | 2 => wrF h 0x40 0 0x070 0 1 0
    | _ => h
  else h

/-- AUTH_WINDOW_END, WIN × 100 ms after the acceptance (R527, R533). -/
def authExpire (h : Hw) : Hw := if h.acc.authEnd ≤ h.now then accLevels (wrF h 0x40 0 0x070 1 1 0) else h

/-- RELAY_OVERCURRENT: a driver current above I_RLYOC (0.5 A at least) opens the relay (R534). -/
def relayTrip (mA : Nat) (h : Hw) : Hw :=
  if bit (rd h 0x40 0 0x070) 0 && decide (500 ≤ mA) then accLevels (wrF (wrF h 0x40 0 0x070 0 1 0) 0x40 0 0x070 5 1 1) else h

/-- Every reset opens the relay (R534). -/
def immoReset (h : Hw) : Hw :=
  if bit (rd h 0x40 0 0x070) 0 then accLevels (wrF (wrF h 0x40 0 0x070 0 1 0) 0x40 0 0x070 6 1 1) else h

/-! ## Composite read-only registers -/

/-- STATUS of the ACC page. -/
def accStatus (h : Hw) : Nat :=
  h.acc.learn.isSome.toNat * 8 + (listens h || inWindow h).toNat * 4 + (lfTx h).toNat * 2 + h.acc.poll.isSome.toNat

/-- IMMO_STAT with LEFT, in 100 ms, rounded up. -/
def immoStat (h : Hw) : Nat :=
  let w := rd h 0x40 0 0x070
  w.toNat + (if bit w 1 then min 255 ((h.acc.authEnd - h.now + 99999) / 100000) * 0x100 else 0)

/-- LEARN_STAT. -/
def learnStat (h : Hw) : Nat := (!h.acc.mark).toNat * 0x10 + fld (rd h 0x40 0 0x068) 0 3

/-- SLOT_INFO[k]. -/
def slotInfo (h : Hw) (k : Nat) : Nat :=
  let s := slot h k
  s.cnt * 0x100 + s.btn.toNat * 4 + s.immo.toNat * 2 + s.en.toNat

end Sys2Proof.Machine
end

