-- ==== Sys2Proof/Machine/Cry.lean ====
section
/-!
DEFINITION. The crypto engine of chapter 19: records of the NV store, image verification and boot, the operations of R556 and
their results.
-/
namespace Sys2Proof.Machine

/-! ## Result codes (R560) -/

abbrev rOK : Nat := 0x01
abbrev rMISMATCH : Nat := 0x02
abbrev rALIGN : Nat := 0x03
abbrev rREGION : Nat := 0x04
abbrev rNOKEY : Nat := 0x05
abbrev rRUNSLOT : Nat := 0x06
abbrev rFORMAT : Nat := 0x07
abbrev rOLDSEQ : Nat := 0x08
abbrev rNOTERASED : Nat := 0x09
abbrev rBADOP : Nat := 0x0A
abbrev rNVFAIL : Nat := 0x0B
abbrev rNVOFF : Nat := 0x0C

/-! ## Records (R541, R545, R548, R553) -/

/-- The boot record in force. -/
def bootRecord (m : Mem) : Option Nat := nvRecord m 0x2000 0x3000 0xB0070001 0x10 0 0x10

/-- The user configuration in force. -/
def userRecord (m : Mem) : Option Nat := nvRecord m 0xC000 0xD000 0x55430001 0x08 0x10 0x1000

/-- PREF of the boot record; 0 while it is absent. -/
def bootPref (m : Mem) : Nat := match bootRecord m with | some a => rdMem m (a + 8) 4 % 2 | none => 0

/-- MINVER of the boot record; 0 while it is absent. -/
def minVer (m : Mem) : Nat := match bootRecord m with | some a => rdMem m (a + 12) 4 | none => 0

/-- The copy that a new record is written into: the other one, or copy A while the record is absent. -/
def otherCopy (a b : Nat) : Option Nat → Nat
  | some x => if x = a then b else a
  | none => a

/-- The SEQ of a new record: one higher, or 1 for the first record. -/
def nextSeq (m : Mem) : Option Nat → Nat
  | some x => (rdMem m (x + 4) 4 + 1) % 2 ^ 32
  | none => 1

/-- Write a record: the 4 KiB of the copy are erased, then hold the record's bytes. -/
def writeRecord (a : Nat) (l : List Byte) (m : Mach) : Mach :=
  storeBytes a (l ++ List.replicate (4096 - l.length) 0xFF) m

/-- The bytes of a boot record. -/
def bootBytes (seq pref minver : Nat) : List Byte :=
  let l := leBytes 4 0xB0070001 ++ leBytes 4 seq ++ leBytes 4 pref ++ leBytes 4 minver
  l ++ leBytes 4 (crc32 l)

/-- The bytes of a range after an interrupted or failed erase or program (R552). -/
def nvLost (a n : Nat) (m : Mach) : Mach :=
  let m1 := storeBytes a ((List.range n).map (fun i => Config.nvByte m.hw.freeCnt (a + i))) m
  m1.onHw (fun h => { h with freeCnt := h.freeCnt + 1 })

/-! ## Slots and images (R540, R546, R547) -/

/-- The base of image slot `s`. -/
def slotBase (s : Nat) : Nat := if s = 0 then 0x10000 else 0x800000

/-- BOOT_ENTRY.VALID. -/
def bootValid (h : Hw) : Bool := bit (rd h 1 0 0x090) 0

/-- BOOT_STAT.SLOT. -/
def bootSlot (h : Hw) : Nat := fld (rd h 1 0 0x08C) 2 2

/-- The SYS.DEV_REV word (R1, R8). -/
def devRev : Nat := 0x100 + Config.devMinor.toNat

/-- The FWK of the key record in force. -/
def fwk (m : Mem) : Option (List Byte) := (keyRecord m).map (fun a => rdBytes m (a + 0x10) 96)

/-- The checks of R547 for the image in slot `s`, in order: OK, or the result of the first that fails. -/
def verifyImage (m : Mem) (s : Nat) : Nat :=
  let b := slotBase s
  let w (o : Nat) : Nat := rdMem m (b + o) 4
  let byte (o : Nat) : Nat := (rdByte m (b + o)).toNat
  let len := w 0x0C
  match fwk m with
  | none => rNOKEY
  | some k =>
    if w 0 ≠ 0xC51A1000 ∨ w 4 ≠ 0x200 ∨ ((rdBytes m (b + 0x16) 10).all (fun x => decide (x = 0))) = false then rFORMAT
    else if (byte 0x14 ≠ 0 ∧ byte 0x14 ≠ 1) ∨ 4 ≤ byte 0x15 ∨ (byte 0x15).testBit s = false then rFORMAT
    else if len % 16 ≠ 0 ∨ len < 16 ∨ 0x7EFE00 < len ∨ w 0x10 % 2 ≠ 0 ∨ len ≤ w 0x10 then rFORMAT
    else if w 8 < minVer m then rOLDSEQ
    else if sha384 (rdBytes m (b + 0x200) len) ≠ rdBytes m (b + 0x20) 48 then rMISMATCH
    else if ecdsaOk (sha384 (rdBytes m b 0x1A0)) k (rdBytes m (b + 0x1A0) 96) then rOK else rMISMATCH

/-! ## The operations (R543, R545, R549 … R556) -/

/-- The first `n` bytes of an open byte stream of the factory. -/
def serialBytes : List Byte := (List.range 16).map Config.serialByte

/-- The device certificate (R543). -/
def certificate : List Byte :=
  let c (lo n : Nat) : List Byte := (List.range n).map (fun i => Config.certByte (lo + i))
  leBytes 4 0xC51ACE01 ++ leBytes 4 0xC51A9640 ++ serialBytes ++ c 0 4 ++ leBytes 4 0 ++ c 4 8 ++ leBytes 8 0 ++ dikPub ++ c 12 96
    ++ leBytes 16 0

/-- An ECDSA signature under DIK, with a fresh ephemeral value. -/
def dikSign (l : List Byte) (h : Hw) : List Byte × Hw :=
  let k := beNat ((List.range 48).map (Config.randByte h.freeCnt)) % bpQ
  (ecdsaSign (sha384 l) (Config.dikKey % bpQ) k, { h with freeCnt := h.freeCnt + 1 })

/-- A range lies wholly in shared SRAM. -/
def inSram (a n : Nat) : Bool := decide (0x20000000 ≤ a ∧ a + n ≤ 0x20200000)

/-- A range lies wholly in the NV store. -/
def inNv (a n : Nat) : Bool := decide (a + n ≤ 0x00FF0000)

/-- The outcome of a range check for ERASE and PROGRAM (R549). -/
def slotRange (h : Hw) (a n : Nat) : Nat :=
  let inside (s : Nat) : Bool := decide (slotBase s ≤ a ∧ a + n ≤ slotBase s + 0x7F0000)
  let touches (s : Nat) : Bool := decide (a < slotBase s + 0x7F0000 ∧ slotBase s < a + n)
  if bootValid h && touches (bootSlot h) then rRUNSLOT else if inside 0 || inside 1 then rOK else rREGION

/-- QUOTE (R554). -/
def quote (o : CryOp) (m : Mach) : Mach :=
  let h := m.hw
  let img := slotBase (bootSlot h)
  let v := bootValid h
  let key := match keyRecord m.mem with | some a => sha384 (rdBytes m.mem a 0x130) | none => List.replicate 48 0
  let l := leBytes 4 0x51540001 ++ leBytes 4 0xC51A9640 ++ leBytes 4 devRev
    ++ leBytes 4 (if v then rdMem m.mem (img + 8) 4 else 0) ++ serialBytes
    ++ (if v then sha384 (rdBytes m.mem img 0x200) else List.replicate 48 0) ++ key ++ rdBytes m.mem o.src 96
    ++ leBytes 4 (rd h 1 0 0x08C).toNat ++ leBytes 4 (rd h 1 0 0x080).toNat ++ leBytes 4 h.acc.lctr ++ leBytes 4 (minVer m.mem)
    ++ leBytes 8 h.pwr.rtc ++ leBytes 8 h.frame
  let (sig, h1) := dikSign l h
  storeBytes o.dst (l ++ sig) { m with hw := h1 }

/-- KTEXPORT (R555). -/
def ktExport (o : CryOp) (ltk : List Byte) (m : Mach) : Mach :=
  let h := m.hw
  let e := beNat ((List.range 48).map (Config.randByte h.freeCnt)) % bpQ
  let point (p : Option (Nat × Nat)) : List Byte :=
    match p with | some (x, y) => beBytes 48 x ++ beBytes 48 y | none => List.replicate 96 0
  let key := (sha384 ((point (ecMul 384 e (some (pubPoint ltk)))).take 48 ++ serialBytes)).take 16
  let l := leBytes 4 0x4B540001 ++ leBytes 4 h.acc.lctr ++ serialBytes ++ leBytes 8 0 ++ point (ecMul 384 e (some bpG))
    ++ aesEnc key ktBytes ++ leBytes 16 0
  let (sig, h1) := dikSign l { h with freeCnt := h.freeCnt + 1 }
  storeBytes o.dst (l ++ sig) { m with hw := h1 }

/-- The outcome of KEYSET's conditions (R545) for the record at `a`. -/
def keysetCheck (m : Mem) (a : Nat) : Nat :=
  let key (o : Nat) : List Byte := rdBytes m (a + o) 96
  let zero (l : List Byte) : Bool := l.all (fun b => decide (b = 0))
  let absentOrPoint (o : Nat) : Bool := zero (key o) || pubOk (key o)
  if rdMem m a 4 ≠ 0x4B530001 ∨ rdMem m (a + 8) 8 ≠ 0 ∨ pubOk (key 0x10) = false ∨ absentOrPoint 0x70 = false
      ∨ absentOrPoint 0xD0 = false then rFORMAT
  else if (match keyRecord m with | some x => decide (rdMem m (a + 4) 4 ≤ rdMem m (x + 4) 4) | none => false) = true then rOLDSEQ
  else if ecdsaOk (sha384 (rdBytes m a 0x130)) ((fwk m).getD (key 0x10)) (key 0x130) then rOK else rMISMATCH

/-- A record write that its read-back fails leaves the written copy open; otherwise it holds the record. -/
def recordOp (nvFail : Bool) (a : Nat) (l : List Byte) (m : Mach) : Nat × Mach :=
  if nvFail then (rNVFAIL, nvLost a 4096 m) else (rOK, writeRecord a l m)

/-- The effect of an operation at its end: its RESULT and the module after it. -/
def cryRun (o : CryOp) (nvFail : Bool) (m : Mach) : Nat × Mach :=
  let mm := m.mem
  if o.src % 16 ≠ 0 ∨ o.dst % 16 ≠ 0 ∨ o.len % 16 ≠ 0 then (rALIGN, m)
  else match o.op with
  | 0x01 =>
    if (inSram o.src o.len || inNv o.src o.len) && inSram o.dst 48 then
      (rOK, storeBytes o.dst (sha384 (rdBytes mm o.src o.len)) m)
    else (rREGION, m)
  | 0x02 =>
    if inSram o.src 240 then
      (if ecdsaOk (rdBytes mm o.src 48) (rdBytes mm (o.src + 48) 96) (rdBytes mm (o.src + 144) 96) then rOK else rMISMATCH, m)
    else (rREGION, m)
  | 0x03 => if inSram o.src 96 && inSram o.dst 352 then (rOK, quote o m) else (rREGION, m)
  | 0x04 => if inSram o.dst 256 then (rOK, storeBytes o.dst certificate m) else (rREGION, m)
  | 0x05 =>
    if inSram o.dst 256 then
      match recordKey mm 0xD0 with
      | some k => (rOK, ktExport o k m)
      | none => (rNOKEY, m)
    else (rREGION, m)
  | 0x06 =>
    if inSram o.src 0x190 then
      match keysetCheck mm o.src with
      | 0x01 =>
        let l := rdBytes mm o.src 0x190
        recordOp nvFail (otherCopy 0x0000 0x1000 (keyRecord mm)) (l ++ leBytes 4 (crc32 l)) m
      | r => (r, m)
    else (rREGION, m)
  | 0x07 =>
    if o.dst % 0x10000 ≠ 0 ∨ o.len % 0x10000 ≠ 0 then (rALIGN, m)
    else match slotRange m.hw o.dst o.len with
      | 0x01 =>
        if nvFail then (rNVFAIL, nvLost o.dst o.len m)
        else (rOK, { m with mem := { mm with cells := mm.cells.filter (fun c => decide (c.1 < o.dst ∨ o.dst + o.len ≤ c.1)) } })
      | r => (r, m)
  | 0x08 =>
    if inSram o.src o.len = false then (rREGION, m)
    else match slotRange m.hw o.dst o.len with
      | 0x01 =>
        if (rdBytes mm o.dst o.len).all (fun b => decide (b = 0xFF)) = false then (rNOTERASED, m)
        else if nvFail then (rNVFAIL, nvLost o.dst o.len m)
        else (rOK, storeBytes o.dst (rdBytes mm o.src o.len) m)
      | r => (r, m)
  | 0x09 =>
    let s := o.arg % 2
    if bootValid m.hw && decide (s = bootSlot m.hw) then (rRUNSLOT, m)
    else match verifyImage mm s with
      | 0x01 =>
        let r := recordOp nvFail (otherCopy 0x2000 0x3000 (bootRecord mm)) (bootBytes (nextSeq mm (bootRecord mm)) s (minVer mm)) m
        if r.1 = rOK then (rOK, r.2.onHw (fun h => wrF h 1 0 0x090 0 1 0)) else r
      | r => (r, m)
  | 0x0A =>
    if bootValid m.hw = false then (rRUNSLOT, m)
    else
      let v := rdMem mm (slotBase (bootSlot m.hw) + 8) 4
      if v ≤ minVer mm then (rOLDSEQ, m)
      else recordOp nvFail (otherCopy 0x2000 0x3000 (bootRecord mm)) (bootBytes (nextSeq mm (bootRecord mm)) (bootPref mm) v) m
  | 0x0B =>
    if inSram o.src 0xFF0 then
      let l := rdBytes mm o.src 0xFF0
      recordOp nvFail (otherCopy 0xC000 0xD000 (userRecord mm))
        (leBytes 4 0x55430001 ++ leBytes 4 (nextSeq mm (userRecord mm)) ++ leBytes 4 (crc32 l) ++ leBytes 4 0 ++ l) m
    else (rREGION, m)
  | 0x0C =>
    if inSram o.dst o.len then
      (rOK, storeBytes o.dst ((List.range o.len).map (Config.randByte m.hw.freeCnt))
        (m.onHw (fun h => { h with freeCnt := h.freeCnt + 1 })))
    else (rREGION, m)
  | _ => (rBADOP, m)

/-! ## Start and end of an operation (R556, R557, R560) -/

/-- The level source BUSY. -/
def cryLevels (h : Hw) : Hw := level h 0x41 0 2 h.cry.run.isSome

/-- An operation ends with RESULT `r`. -/
def cryEnd (r : Nat) (h : Hw) : Hw :=
  pulse (cryLevels { h with cry := { h.cry with run := none, result := r, lrnWait := false } }) 0x41 0 (if r = rOK then 0 else 1)

/-- The operation needs the NV store. -/
def needsNvStore (o : CryOp) : Bool :=
  match o.op with
  | 0x01 => decide (o.src < 0x01000000)
  | 0x03 | 0x05 | 0x06 | 0x07 | 0x08 | 0x09 | 0x0A | 0x0B => true
  | _ => false

/-- A write of CMD. -/
def cryCmd (w : Word) (h : Hw) : Hw :=
  if fld w 24 8 ≠ 0x7B then err h 0x41 0 16
  else if h.cry.run.isSome then err h 0x41 0 17
  else
    let o : CryOp := { op := fld w 0 8, src := (rd h 0x41 0 0x048).toNat, len := (rd h 0x41 0 0x04C).toNat
                       dst := (rd h 0x41 0 0x050).toNat, arg := (rd h 0x41 0 0x054).toNat }
    let h1 := { h with cry := { h.cry with run := some o, lastOp := o.op, result := 0 } }
    if o.op = 0 ∨ 0x0C < o.op then cryEnd rBADOP h1
    else if needsNvStore o && !domOn h 44 then cryEnd rNVOFF h1
    else cryLevels h1

/-- The bytes that an operation reads at SRC and those it writes at DST (R556). -/
def cryRead (o : CryOp) : Nat :=
  match o.op with | 0x01 | 0x08 => o.len | 0x02 => 240 | 0x03 => 96 | 0x06 => 0x190 | 0x0B => 0xFF0 | _ => 0
def cryWritten (o : CryOp) : Nat :=
  match o.op with | 0x01 => 48 | 0x03 => 352 | 0x04 | 0x05 => 256 | 0x0C => o.len | _ => 0

/-- The memories and the fabric that the operation reaches are ON; otherwise its accesses wait there (R482, R557). -/
def cryOpen (h : Hw) (o : CryOp) : Bool :=
  let spanOpen (a n : Nat) : Bool :=
    decide (n = 0) || !inSram a n || (List.range 45).all (fun d => decide (d < memDomain a ∨ memDomain (a + n - 1) < d) || domOpen h d)
  domOpen h 18 && spanOpen o.src (cryRead o) && spanOpen o.dst (cryWritten o) && (!needsNvStore o || domOpen h 44)

/-- CRYPTO_OPERATION_DONE: the running operation completes; `nvFail` says that the read-back of its NV write failed. -/
def cryDone (nvFail : Bool) (m : Mach) : Mach :=
  match m.hw.cry.run with
  | none => m
  | some o => if !cryOpen m.hw o then m else let r := cryRun o nvFail m; r.2.onHw (cryEnd r.1)

/-- A reset or supply loss interrupts the operation (R541, R552): no result; an ERASE or PROGRAM leaves its range open, a record
write its copy. -/
def cryCut (m : Mach) : Mach :=
  let m1 := match m.hw.cry.run with
    | some o =>
      let r := cryRun o true m
      if r.1 = rNVFAIL then r.2 else m
    | none => m
  m1.onHw (fun h => { h with cry := {} })

/-! ## Boot (R506 step 6, R548) -/

/-- BOOT_ENTRY for a verified image in slot `s`: PC in bits [31:1], VALID. -/
def entryWord (m : Mem) (s : Nat) : Word :=
  BitVec.ofNat 32 ((slotBase s + 0x200 + rdMem m (slotBase s + 0x10) 4) / 2 * 2 + 1)

/-- The slot that step 6 starts, if one passes, and the outcome for the slot tried last. -/
def bootPick (m : Mem) : Option Nat × Nat :=
  let p := bootPref m
  if verifyImage m p = rOK then (some p, rOK)
  else let r := verifyImage m (1 - p); (if r = rOK then some (1 - p) else none, r)

/-! ## Composite read-only registers -/

/-- STATUS of the CRY page. -/
def cryStatus (h : Hw) : Nat :=
  h.cry.result * 0x10000 + h.cry.lastOp * 0x100 + h.cry.lrnWait.toNat * 2 + h.cry.run.isSome.toNat

/-- KEYINFO. -/
def keyInfo (m : Mem) : Nat :=
  let seq := match keyRecord m with | some a => rdMem m (a + 4) 4 % 2 ^ 24 | none => 0
  seq * 0x100 + bootPref m * 8 + (recordKey m 0xD0).isSome.toNat * 4 + (recordKey m 0x70).isSome.toNat * 2
    + (keyRecord m).isSome.toNat

end Sys2Proof.Machine
end

