-- ==== Sys2Proof/Machine/Bond.lean ====
section
/-!
DEFINITION. The Bond link of chapter 20: addresses, the heard set and the lead, system time and frame alignment, message
delivery, mirroring and comparison in a pair, the Quoin line, the pair states and the gate.
-/
namespace Sys2Proof.Machine

/-! ## Reading the link -/

/-- The Bond address (R498, R562). -/
def bondAddr (h : Hw) : Nat := cfgF h 0x50 0 0x400 10 6 * 8 + fld h.straps 5 3

/-- The Bond link runs: PD30 is ON and the applied CFG.EN is 1. -/
def bondOn (h : Hw) : Bool := domOn h 30 && bit (cfg h 0x50 0 0x400) 0

/-- It sends and takes frames: it runs and is not silent after an address clash (R564). -/
def bondLive (h : Hw) : Bool := bondOn h && !h.bond.silent

/-- ROLE: 1 for the junior (R498). -/
def isJunior (h : Hw) : Bool := bit h.straps 0

/-- The pair is enabled. -/
def pairOn (h : Hw) : Bool := domOn h 30 && bit (cfg h 0x50 0 0x408) 31

/-- PARTNER. -/
def partner (h : Hw) : Nat := cfgF h 0x50 0 0x408 0 9

/-- The frame length in force (R13). -/
def appliedLen (h : Hw) : Nat := min 10000 (max 250 (cfgF h 1 0 0x400 0 14))

/-- LOSS_N. -/
def lossN (h : Hw) : Nat := max 1 (cfgF h 0x50 0 0x400 24 8)

/-- TSTATE is ALIGNED or LEAD. -/
def aligned (h : Hw) : Bool := decide (h.bond.ts = 3) || decide (h.bond.ts = 4)

/-- The port that carries the Bond link (R563); none while no port has BOND = 1. -/
def bondPort (h : Hw) : Option Nat :=
  if bit (cfg h 0x22 1 0x400) 1 then some 1 else if bit (cfg h 0x22 0 0x400) 1 then some 0 else none

/-- The level sources of the BOND page (R591). -/
def bondLevels (h : Hw) : Hw :=
  let b := h.bond
  let h1 := level h 0x50 0 1 (aligned h)
  let h2 := level h1 0x50 0 3 (decide (b.pst = 1) || decide (b.pst = 6))
  let h3 := level h2 0x50 0 5 (decide (b.pst = 4))
  let h4 := level h3 0x50 0 8 (!b.qAlive && pairOn h && b.mirRx)
  let h5 := level h4 0x50 0 10 (decide (b.pst = 5))
  level h5 0x50 0 11 (decide (b.ts = 5))

/-- Replace the record of the link; the level sources follow. -/
def setBond (h : Hw) (b : Bond) : Hw := bondLevels { h with bond := b }

/-- The Bond link takes frames: it is live, and its port is ON in RUN with the link up (R408, R563). -/
def bondHears (h : Hw) : Bool :=
  bondLive h && (match bondPort h with
    | some p => domOn h (29 + p) && decide (ethMode h p = 1) && (eth h p).link
    | none => false)

/-- The link sends a frame of type `typ` to `dst` on its port (R565, R566): SEQ counts it, and it waits for the port's transmitter; with an
address clash, or without a port, nothing is sent (R563, R564). -/
def bondSend (typ dst sfn dq : Nat) (data : List Byte) (h : Hw) : Hw :=
  match bondPort h with
  | some p =>
    if bondLive h && domOn h (29 + p) then
      let b := h.bond
      let flags := (isJunior h).toNat + (aligned h).toNat * 2 + (decide (b.ts = 4)).toNat * 4
      let seq := (b.seq + 1) % 65536
      let h1 := setBond h { b with seq := seq }
      let f : BondTx := ⟨typ, flags, bondAddr h, dst, seq, sfn, dq, data⟩
      ethKick p (setEth h1 p { eth h1 p with bond := (eth h1 p).bond ++ [f] })
    else h
  | none => h

/-- The bytes of a Bond frame on the wire, from its destination address on (R565). -/
def bondBytes (f : BondTx) : List Byte :=
  let mac (a : Nat) : List Byte := if a = 0x3FF then List.replicate 6 0xFF else beBytes 6 (0x02C51A960000 + a)
  mac f.dst ++ mac f.src ++ beBytes 2 0x88B5 ++ [BitVec.ofNat 8 (0x10 + f.typ), BitVec.ofNat 8 f.flags] ++ beBytes 2 f.src ++ beBytes 2 f.dst
    ++ beBytes 2 f.seq ++ beBytes 8 f.sfn ++ f.data

/-! ## Time state and lead (R568 … R574) -/

/-- The lead's frame length is not the one in force here. -/
def lenDiffers (h : Hw) (b : Bond) : Bool := match b.leadLen with | some l => decide (l ≠ appliedLen h) | none => false

/-- UNSYNC of the lead itself becomes LEAD; ACQ and ALIGNED under another frame length become LENERR until the lengths agree (R572). -/
def tsNorm (h : Hw) (b : Bond) : Bond :=
  if b.ts = 1 ∧ b.lead = bondAddr h ∧ b.silent = false then { b with ts := 4 }
  else if (b.ts = 2 ∨ b.ts = 3) ∧ lenDiffers h b = true then { b with ts := 5, tolRun := 0 }
  else if b.ts = 5 ∧ lenDiffers h b = false then { b with ts := 2, tolRun := 0 }
  else b

/-- The lead is the lowest address among the heard set and the module itself; a change of lead restarts the time state. -/
def relead (h : Hw) : Hw :=
  let l := h.bond.heard.foldl (fun a e => min a e.1) (bondAddr h)
  if l = h.bond.lead then setBond h (tsNorm h h.bond)
  else
    let b := { h.bond with lead := l, ts := 1, syncs := 0, pdelay := false, leadLen := none, tolRun := 0 }
    let h1 := if l = bondAddr h then wr h 0x50 0 0x04C 0 else h
    pulse (setBond h1 (tsNorm h b)) 0x50 0 0

/-- TAG of the module: bytes 0 … 3 of its SERIAL (R564). -/
def ownTag : Nat := leNat ((List.range 4).map Config.serialByte)

/-- BEACON_RECEIVED (R564, R572, R574): source, TAG and FRAME_LEN of a beacon. -/
def beacon (src tag len : Nat) (h : Hw) : Hw :=
  if bondHears h then
    if src = bondAddr h then
      if tag ≠ ownTag then err (setBond h { h.bond with silent := true, ts := 1, syncs := 0, pdelay := false }) 0x50 0 18 else h
    else
      let h1 := relead { h with bond := { h.bond with heard := smIns src 0 h.bond.heard } }
      if src = h1.bond.lead then setBond h1 (tsNorm h1 { h1.bond with leadLen := some len }) else h1
  else h

/-- HEARD_SET_EXPIRY: an address not heard for LOSS_N boundaries leaves the heard set. -/
def heardExpiry (a : Nat) (h : Hw) : Hw :=
  match h.bond.heard.find? (fun e => decide (e.1 = a)) with
  | some e => if bondOn h && decide (lossN h ≤ e.2) then relead { h with bond := { h.bond with heard := smErase a h.bond.heard } } else h
  | none => h

/-- A signed value as a pair of 32-bit words at `off`. -/
def wrPair (h : Hw) (off : Nat) (v : Int) : Hw :=
  let n := (v % (2 ^ 64 : Nat)).toNat
  wr (wr h 0x50 0 off (BitVec.ofNat 32 n)) 0x50 0 (off + 4) (BitVec.ofNat 32 (n / 2 ^ 32))

/-- Two Syncs and one Pdelay exchange from the lead take UNSYNC to ACQ. -/
def acquire (h : Hw) : Hw :=
  let b := h.bond
  if b.ts = 1 ∧ 2 ≤ b.syncs ∧ b.pdelay = true ∧ b.lead ≠ bondAddr h then
    setBond h (tsNorm h { b with ts := 2, tolRun := 0 })
  else h

/-- SYNC_RECEIVED (R568, R569, R572): the system time at this instant in ns, and the trim that it leads to, within ±100 ppm. -/
def sync (sysNs trim : Int) (h : Hw) : Hw :=
  if bondHears h ∧ h.bond.lead ≠ bondAddr h then
    let ofs := sysNs - (h.timebase : Int) * 1000
    let t := clampInt (-10000) 10000 trim
    let h1 := wrPair h 0x050 (ofs / 1000)
    let h2 := wr h1 0x50 0 0x04C (BitVec.ofNat 32 ((t % 65536).toNat))
    acquire (setBond h2 { h2.bond with ofs := ofs, syncs := min 2 (h2.bond.syncs + 1), syncAt := h.now })
  else h

/-- PDELAY_EXCHANGE. -/
def pdelay (h : Hw) : Hw := if bondHears h then acquire (setBond h { h.bond with pdelay := true }) else h

/-- SYNC_TIMEOUT (R567, R572): no Sync for 4 intervals of 31.25 ms. -/
def syncTimeout (h : Hw) : Hw :=
  let b := h.bond
  if (b.ts = 2 ∨ b.ts = 3 ∨ b.ts = 5) ∧ b.syncAt + 125000 ≤ h.now then setBond h { b with ts := 1, syncs := 0, pdelay := false, tolRun := 0 } else h

/-- The phase error in ns at a local boundary: the signed distance from the nearest system boundary (R570). -/
def phaseErr (h : Hw) (len : Nat) : Int :=
  let x := ((h.timebase : Int) * 1000 + h.bond.ofs) % (len * 1000 : Nat)
  if x ≤ (len * 500 : Nat) then x else x - (len * 1000 : Nat)

/-- The SFN of the frame that begins at this boundary (R570). -/
def sfnNow (h : Hw) (len : Nat) : Int :=
  ((h.timebase : Int) * 1000 + h.bond.ofs + (len * 500 : Nat)) / (len * 1000 : Nat)

/-- A boundary aligns the frame (R570 … R572); the frame that begins is `h.frame`, of length `len` unless this changes it. -/
def alignFrame (len : Nat) (h : Hw) : Hw :=
  if bondOn h then
    let b := h.bond
    let ended := b.aln
    let h1 := if ended then pulse (incSat h 0x50 0 0x068 0 16 1) 0x50 0 2 else h
    let follower := decide (b.ts = 2) || decide (b.ts = 3)
    let e := phaseErr h len
    let a : Nat := e.natAbs
    let tol := cfgF h 0x50 0 0x404 8 8 * 10
    let h2 := if follower then wr h1 0x50 0 0x048 (BitVec.ofNat 32 ((e % (2 ^ 32 : Nat)).toNat)) else h1
    let h3 := if follower || decide (b.ts = 4) then wrPair h2 0x058 (sfnNow h len - (h.frame : Int)) else h2
    let jump := decide (b.ts = 2) && decide (cfgF h 0x50 0 0x404 0 8 * 1000 < a)
    if jump then
      let p := ((((h.timebase : Int) * 1000 + b.ofs + 500) / 1000) % (len : Int)).toNat
      { setBond h3 { h3.bond with aln := true, tolRun := 0 } with frameLen := 2 * len - p }
    else
      let run := if follower && decide (a ≤ tol) then min 255 (b.tolRun + 1) else 0
      let ts := if b.ts = 2 ∧ max 1 (cfgF h 0x50 0 0x404 16 8) ≤ run then 3 else if b.ts = 3 ∧ tol < a then 2 else b.ts
      setBond h3 { h3.bond with aln := false, tolRun := run, ts := ts }
  else { h with bond := { h.bond with aln := false } }

/-- A signed pair of words as an integer. -/
def rdPair (h : Hw) (off : Nat) : Int := sext 64 ((rd h 0x50 0 off).toNat + (rd h 0x50 0 (off + 4)).toNat * 2 ^ 32)

/-- The SFN that a frame sent at this boundary carries for frame `k`; 0 outside ALIGNED and LEAD (R573). -/
def sfnOf (h : Hw) (k : Nat) : Nat := if aligned h then ((rdPair h 0x058 + (k : Int)) % (2 ^ 64 : Nat)).toNat else 0

/-! ## Message delivery (R577, R578) -/

/-- Queue `q` is an enabled software queue. -/
def softQueue (h : Hw) (q : Nat) : Bool := qEn h q && decide (fld (qcfg h q) 12 8 = 0)

/-- Store a Bond frame of payload `l` in queue `q` in the format of R578; false when the claim fails. -/
def bondStore (q fmt : Nat) (own : Bool) (src sfn : Nat) (l : List Byte) (m : Mach) : Bool × Mach :=
  let npg := pagesFor (32 + l.length)
  let r := if fmt = 3 then
      (if domOn m.hw 17 then
        match claimN .bond q (bit (qcfg m.hw q) 30) npg 0 m.hw with
        | some (p, h1) => (some p, msgLevels (linkPages p h1))
        | none => (none, dropFrame q m.hw)
      else (none, m.hw))
    else claimFrame 0x50 0 q npg m.hw
  match r with
  | (none, h1) => (false, { m with hw := h1 })
  | (some pgs, h1) =>
    let seq := (h1.bond.rseq + 1) % 65536
    let hdr : List Nat :=
      [0x80000000 + fmt * 0x8000000 + own.toNat * 0x4000000 + seq, src, npg * 0x10000 + l.length, h1.frame % 65536,
       h1.tbCopy % 2 ^ 32, sfn % 2 ^ 32, sfn / 2 ^ 32 % 2 ^ 32, 0]
    (true, (fillPages pgs (hdr.flatMap wordBytes ++ l) { m with hw := h1 }).onHw (fun h =>
      queueFed q (joinQueue q (pgs.headD 0) 256 0 { h with bond := { h.bond with rseq := seq } })))

/-- BOND_MSG_SEND: the link takes the chain at the head of its transmit queue, sends it, and the chain returns to the pool. -/
def msgSend (m : Mach) : Mach :=
  let h := m.hw
  let c := cfg h 0x50 0 0x420
  if bondLive h && bit c 31 && domOn h 17 then
    let q := fld c 24 6
    if softQueue h q && decide (fld (qcfg h q) 28 2 = 0) then
      match queue h q with
      | [] => m
      | i :: r =>
        let hdr := headerOf m.mem i.page
        let len := nfld (hdr.getD 2 0) 0 12
        let h1 := setQueue (moveChain i.page .bond h) q r
        let bad := decide (len = 0) || decide (1760 < len) || decide ((chainOf h1 i.page).length < pagesFor (32 + len))
        if bad then { m with hw := incSat (freeChain i.page h1) 0x50 0 0x084 0 16 1 }
        else
          let w := nfld (hdr.getD 1 0) 0 32
          let data := (((chainOf h1 i.page).flatMap (fun p => rdBytes m.mem (pageAddr p) 256)).drop 32).take len
          { m with hw := freeChain i.page (bondSend 7 (nfld w 0 10) (sfnOf h h.frame) (nfld w 16 6) data h1) }
    else m.onHw (fun x => err x 0x50 0 19)
  else m

/-- MSG_RECEIVED. -/
def msgReceived (src dq sfn : Nat) (l : List Byte) (m : Mach) : Mach :=
  let h := m.hw
  if bondHears h then
    let allowed := bit (cfg h 0x50 0 (if dq < 32 then 0x424 else 0x428)) (dq % 32) && softQueue h dq
    let r := if allowed then bondStore dq 3 false src sfn (l.take 1760) m else (false, m)
    if r.1 then r.2 else r.2.onHw (fun x => incSat x 0x50 0 0x084 16 16 1)
  else m

/-! ## Mirrors (R579 … R583) -/

/-- A 32-bit word, most significant byte first (R565). -/
def beWord (w : Nat) : List Byte := beBytes 4 w

/-- The words of registers `off` of pages `ty`, instances below `n`. -/
def pageWords (h : Hw) (ty n off : Nat) : List Byte := (List.range n).flatMap (fun i => beWord (rd h ty i off).toNat)

/-- The payload of MIRIN: the input snapshot of the frame that begins (R579). -/
def mirinData (h : Hw) : List Byte :=
  (List.range 4).flatMap (fun g => (List.range 48).flatMap (fun i => beWord (rd h 0x14 g (0x800 + 4 * i)).toNat))
    ++ pageWords h 0x13 4 0x054 ++ pageWords h 0x10 96 oSNAP ++ pageWords h 0x11 24 oSNAP ++ pageWords h 0x12 4 oSNAP
    ++ pageWords h 0x13 4 oSNAP ++ pageWords h 0x14 4 oSNAP ++ pageWords h 0x11 24 0x054
    ++ (List.range 4).flatMap (fun g => (List.range 4).flatMap (fun v => beWord (rd h 0x12 g (0x080 + 4 * v)).toNat))

/-- The entries of RXDIG of the frame that ends, in ring order: those of the members in RXMASK. -/
def rxEntries (h : Hw) : List RxDig :=
  (List.range 26).flatMap (fun i => if bit (cfg h 0x50 0 0x410) i then h.bond.rxs.filter (fun e => decide (e.idx = i)) else [])

/-- MARG: the entries that completed within RECW µs of a boundary of the frame from `s` to `e`. -/
def marginal (h : Hw) (s e : Nat) : Nat :=
  let w := cfgF h 0x50 0 0x404 24 8
  ((rxEntries h).filter (fun x => decide (x.at_ ≤ s + w) || decide (e ≤ x.at_ + w))).length

/-- The staged registers of a page that its map assigns, as applied. -/
def stagedBytes (h : Hw) (ty i : Nat) : List Byte :=
  ((List.range 256).filter (fun k => (findReg ty i (0x400 + 4 * k)).isSome)).flatMap (fun k => beWord (cfg h ty i (0x400 + 4 * k)).toNat)

/-- The command of high-side channel `n` that a boundary applies before the pair gate: its CTL, or OFF while its page is clamped. -/
def hswImage (h : Hw) (n : Nat) : Nat := if domOn h (35 + hswGroup n) then (rd h 0x10 n 0x040).toNat else 0

/-- The APPLIED word of half-bridge `n`: a member page has no command of its own (R139). -/
def hbrImage (h : Hw) (n : Nat) : Nat := if domOn h 39 ∧ hbrLead h n = n then (rd h 0x11 n 0x040).toNat else 0

/-- The payload of MIROUT for the frame from `s` to `e` that ends (R580). -/
def miroutData (h : Hw) (s e : Nat) : List Byte :=
  beWord (rd h 0x30 0 0x05C).toNat ++ beWord ((aligned h).toNat * 0x80000 + h.bond.pst * 0x10000 + min 65535 (marginal h s e))
    ++ List.replicate 8 0 ++ sha384 ((rxEntries h).flatMap (·.data)) ++ (List.range 12).flatMap (fun i => beWord (rd h 0x50 0 (0x0C0 + 4 * i)).toNat)
    ++ sha384 ((List.range 96).flatMap (stagedBytes h 0x10) ++ (List.range 24).flatMap (stagedBytes h 0x11)
        ++ (List.range 4).flatMap (stagedBytes h 0x12))
    ++ (List.range 96).flatMap (fun n => beWord (hswImage h n)) ++ (List.range 24).flatMap (fun n => beWord (hbrImage h n))
    ++ (List.range 4).flatMap (fun g => (List.range 4).flatMap (fun v => beWord (rd h 0x12 g (0x050 + 4 * v)).toNat))

/-- A received entry of ring `idx` counts in the digest of the present frame (R582). -/
def digest (idx : Nat) (l : List Byte) (h : Hw) : Hw :=
  if bondOn h then { h with bond := { h.bond with rxs := h.bond.rxs ++ [⟨idx, h.timebase, l⟩] } } else h

/-- Store a mirror frame in the mirror ring, if there is one. -/
def mirStore (fmt : Nat) (own : Bool) (src sfn : Nat) (l : List Byte) (m : Mach) : Mach :=
  match ringQueue m.hw 0x50 0 with
  | some q => (bondStore q fmt own src sfn l m).2
  | none => m

/-- A big-endian word of a payload. -/
def payWord (l : List Byte) (o : Nat) : Nat := beNat ((l.drop o).take 4)

/-- The paired channels' APPLIED words of a MIROUT. -/
def pairedCmds (h : Hw) (l : List Byte) : List Nat :=
  ((List.range 96).filter (fun n => bit (cfg h 0x50 0 (0x414 + 4 * (n / 32))) (n % 32))).map (fun n => payWord l (0x0A0 + 4 * n))

/-- The pair state table's row for MMN mismatches in a row (R586). -/
def diverge (h : Hw) : Hw :=
  let b := h.bond
  if isJunior h = true ∧ b.pst = 2 ∧ bit (cfg h 0x50 0 0x408) 30 = true ∧ max 1 (cfgF h 0x50 0 0x408 18 4) ≤ b.mmRun then
    setBond h { b with pst := 5, closed := true }
  else h

/-- Record a comparison in CMP_STAT and count it (R583). -/
def cmpRecord (sfn res : Nat) (rx sd cm : Bool) (h : Hw) : Hw :=
  let h1 := wr h 0x50 0 0x060 (BitVec.ofNat 32 (sfn % 65536 * 0x10000 + cm.toNat * 64 + sd.toNat * 32 + rx.toNat * 16 + res))
  let b := { h1.bond with own := none, peer := none, mmRun := if res = 3 then h1.bond.mmRun + 1 else 0 }
  let h2 := setBond h1 b
  match res with
  | 2 => pulse (incSat h2 0x50 0 0x064 0 16 1) 0x50 0 7
  | 3 => diverge (pulse (incSat h2 0x50 0 0x064 16 16 1) 0x50 0 6)
  | _ => h2

/-- Both MIROUTs of one SFN are compared. -/
def compare (o p : BFrame) (h : Hw) : Hw :=
  let part (f : BFrame) (a n : Nat) : List Byte := (f.data.drop a).take n
  let rx := decide (part o 0x010 48 ≠ part p 0x010 48)
  let sd := decide (part o 0x040 48 ≠ part p 0x040 48)
  let cm := decide (pairedCmds h o.data ≠ pairedCmds h p.data)
  let bad (f : BFrame) : Bool := (payWord f.data 0).testBit 31 || !(payWord f.data 4).testBit 19
  let marg (f : BFrame) : Nat := payWord f.data 4 % 65536
  let res := if bad o || bad p then 4 else if !rx && !sd && !cm then 1
    else if rx && !sd && !cm && decide (marg o ≠ 0 ∨ marg p ≠ 0) then 2 else 3
  cmpRecord o.sfn res rx sd cm h

/-- Compare when both are present with the same SFN. -/
def tryCompare (h : Hw) : Hw :=
  match h.bond.own, h.bond.peer with
  | some o, some p => if o.sfn = p.sfn then compare o p h else h
  | _, _ => h

/-! ## The pair state (R584 … R588) -/

/-- Set the pair state and its gate; `delay` starts the takeover delay. -/
def setPst (h : Hw) (pst : Nat) (closed delay : Bool) : Hw :=
  setBond h { h.bond with pst := pst, closed := closed, delay := delay, delayAt := if delay then h.now else h.bond.delayAt }

/-- A SPLIT pulse of a senior that is ALONE with QALIVE = 1, once for each time it comes to be ALONE (R588). -/
def aloneSplit (h : Hw) : Hw :=
  if h.bond.pst = 6 ∧ h.bond.qAlive = true ∧ h.bond.split = false then pulse (setBond h { h.bond with split := true }) 0x50 0 4 else h

/-- The partner is present again. -/
def partnerBack (h : Hw) : Hw :=
  if isJunior h then
    match h.bond.pst with
    | 1 | 3 | 4 => setPst h 2 false false
    | _ => h
  else if pairOn h then setBond h { h.bond with pst := 2, split := false } else h

/-- The partner is lost. -/
def partnerLost (h : Hw) : Hw :=
  if h.bond.pst = 2 then
    let h1 := incSat h 0x50 0 0x068 16 16 1
    if isJunior h then setPst h1 1 h1.bond.closed true else aloneSplit (setBond h1 { h1.bond with pst := 6 })
  else h

/-- MIRIN_RECEIVED: from the partner, within t_MIRW of the boundary it counts as present (R586). -/
def mirin (src sfn : Nat) (peerAligned : Bool) (l : List Byte) (m : Mach) : Mach :=
  let h := m.hw
  if bondHears h && pairOn h && decide (src = partner h) then
    let m1 := mirStore 1 false src sfn (l.take 1472) m
    m1.onHw (fun x =>
      let inTime := decide (x.timebase ≤ x.frameStart + 200)
      setBond x { x.bond with
        mirRx := true, mirNow := x.bond.mirNow || inTime
        met := if inTime && !(peerAligned && aligned x) then 0 else x.bond.met })
  else m

/-- MIROUT_RECEIVED. -/
def mirout (src sfn : Nat) (l : List Byte) (m : Mach) : Mach :=
  let h := m.hw
  if bondHears h && pairOn h && decide (src = partner h) then
    let m1 := mirStore 2 false src sfn (l.take 704) m
    m1.onHw (fun x => if x.timebase ≤ x.frameStart + 200 then tryCompare (setBond x { x.bond with peer := some ⟨sfn, l.take 704⟩ }) else x)
  else m

/-- MIRROR_WINDOW_END (R583, R586): t_MIRW after a boundary, once. -/
def mirWindow (h0 : Hw) : Hw :=
  if pairOn h0 && h0.bond.mirOpen && decide (h0.frameStart + 200 ≤ h0.timebase) then
    let h := { h0 with bond := { h0.bond with mirOpen := false } }
    let b := h.bond
    let h1 := match b.own with | some o => cmpRecord o.sfn 4 false false false h | none => h
    if b.mirNow then
      let met := if aligned h then min 2 (b.met + 1) else 0
      let h2 := setBond h1 { h1.bond with mirNow := false, miss := 0, met := met }
      if 2 ≤ met then partnerBack (setBond h2 { h2.bond with present := true }) else h2
    else
      let miss := min 255 (b.miss + 1)
      let h2 := setBond h1 { h1.bond with mirRx := false, miss := miss, met := 0 }
      if lossN h ≤ miss then partnerLost (setBond h2 { h2.bond with present := false }) else h2
  else h0

/-- A write of QKICK (R584). -/
def qkick (w : Word) (h : Hw) : Hw :=
  if fld w 0 8 = 0x9D then { h with bond := { h.bond with kick := true } } else err h 0x50 0 16

/-- QUOIN_EDGE (R585, R586). -/
def quoinEdge (h : Hw) : Hw :=
  if domOn h 30 then
    let h1 := setBond h { h.bond with qAlive := true, qAt := h.now }
    if h1.bond.pst = 4 ∧ isJunior h = true then pulse (setPst h1 3 true false) 0x50 0 4 else aloneSplit h1
  else h

/-- QTO in ms. -/
def qto (h : Hw) : Nat := max 2 (cfgF h 0x50 0 0x40C 8 8)

/-- QUOIN_TIMEOUT: QTO passes without an edge, within its 5 %. -/
def quoinTimeout (h : Hw) : Hw :=
  if domOn h 30 ∧ h.bond.qAlive = true ∧ h.bond.qAt + qto h * 950 ≤ h.now then
    let h1 := setBond h { h.bond with qAlive := false }
    if h1.bond.pst = 3 ∧ isJunior h = true then setPst h1 1 true true else h1
  else h

/-- TKO in µs (R586, R591). -/
def tkoOf (h : Hw) : Nat := min 200 (max 5 (cfgF h 0x50 0 0x408 22 8)) * 10000

/-- TAKEOVER_DELAY_END (R586). -/
def takeoverEnd (h : Hw) : Hw :=
  if h.bond.pst = 1 ∧ h.bond.delay = true ∧ isJunior h = true ∧ h.bond.delayAt + tkoOf h ≤ h.now then
    if h.bond.qAlive then pulse (setPst h 3 true false) 0x50 0 4 else setPst h 4 false false
  else h

/-- A write of GATE. -/
def gateWrite (w : Word) (h : Hw) : Hw :=
  if fld w 24 8 ≠ 0x6B then err h 0x50 0 16
  else if h.bond.pst = 5 ∧ bit w 0 = true then
    let h1 := { h with bond := { h.bond with mmRun := 0 } }
    if h.bond.present then setPst h1 2 false false else setPst h1 1 true true
  else h

/-! ## Commits and boundaries -/

/-- A commit of the page applies EN and PEN (R564, R572, R586). -/
def bondCommit (old h : Hw) : Hw :=
  let en := bit (cfg h 0x50 0 0x400) 0
  let enWas := bit (cfg old 0x50 0 0x400) 0
  let h1 :=
    if !en then setBond (wr h 0x50 0 0x04C 0) { h.bond with ts := 0, heard := [], lead := 0, silent := false, syncs := 0, pdelay := false, tolRun := 0 }
    else if !enWas || h.bond.silent then
      setBond (wr h 0x50 0 0x04C 0) (tsNorm h { h.bond with
        ts := 1, heard := [], lead := bondAddr h, silent := false, syncs := 0, pdelay := false, leadLen := none, tolRun := 0 })
    else relead h
  let pen := bit (cfg h1 0x50 0 0x408) 31
  let penWas := bit (cfg old 0x50 0 0x408) 31
  if pen && !penWas then
    let b := { h1.bond with miss := 0, met := 0, present := false, mmRun := 0, split := false, own := none, peer := none }
    if isJunior h1 then setPst { h1 with bond := b } 1 true true else aloneSplit (setBond h1 { b with pst := 6, closed := false })
  else if !pen then setBond h1 { h1.bond with pst := 0, closed := false, delay := false, present := false } else h1

/-- SYS.OUT_STAT.OUT: 1 HOLD, 2 FALLBACK, 0 NORMAL (R512). -/
def outState (h : Hw) : Nat :=
  if (List.range 4).any (fun g => decide ((smGet {} h.feeds g).mode = .hold)) then 1
  else if (List.range 4).any (fun g => decide ((smGet {} h.feeds g).mode = .fallback)) then 2 else 0

/-- What the Bond link does as a frame begins: the heard set ages, QUOIN_OUT toggles, and the frame that begins takes its length
(R564, R571, R584). -/
def bondFrame (len : Nat) (h : Hw) : Hw :=
  if domOn h 30 then
    let q := bit (cfg h 0x50 0 0x40C) 0 && h.bond.kick && decide (outState h = 0)
    let b := { h.bond with
      heard := h.bond.heard.map (fun e => (e.1, min 255 (e.2 + 1))), kick := false, qOut := h.bond.qOut ^^ q, mirOpen := true }
    alignFrame len (setBond h (tsNorm h b))
  else h

/-- The payload of a BEACON (R573). -/
def beaconData (h : Hw) : List Byte :=
  (List.range 4).map Config.serialByte ++ beBytes 2 h.bond.lead ++ beBytes 2 h.bond.heard.length ++ beBytes 4 (appliedLen h)
    ++ beBytes 2 ((pairOn h).toNat * 0x8000 + partner h) ++ List.replicate 18 0

/-- What the Bond link sends at a boundary: beacon and mirrors (R573, R580 … R582). `mo` is the payload of MIROUT, taken before the
gate; `k` is the frame that ends. -/
def bondBoundary (k : Nat) (mo : List Byte) (m : Mach) : Mach :=
  if domOn m.hw 30 then
    let h2 := m.hw
    let h3 := bondSend 1 0x3FF (sfnOf h2 h2.frame) 0 (beaconData h2) h2
    if bondLive h3 && pairOn h3 && aligned h3 then
      let si := sfnOf h3 h3.frame
      let so := sfnOf h3 k
      let mi := mirinData h3
      let h4 := bondSend 3 (partner h3) so 0 mo (bondSend 2 (partner h3) si 0 mi h3)
      let m1 := mirStore 2 true (bondAddr h3) so mo (mirStore 1 true (bondAddr h3) si mi { m with hw := h4 })
      m1.onHw (fun x => setBond x { x.bond with own := some ⟨so, mo⟩, peer := none, rxs := [] })
    else { m with hw := setBond h3 { h3.bond with rxs := [], own := none, peer := none } }
  else m

/-! ## Remote access: the requester (R575) -/

/-- The request ends with `res`. -/
def rqEnd (res : Nat) (h : Hw) : Hw :=
  pulse (wr { h with bond := { h.bond with rq := none } } 0x50 0 0x080 (BitVec.ofNat 32 res)) 0x50 0 9

/-- A write of RQ_CTL. -/
def rqCtl (w : Word) (h : Hw) : Hw :=
  if bit w 31 then
    if h.bond.rq.isSome then err h 0x50 0 17
    else
      let dst := fld w 16 9
      let wr := bit w 30
      if bondLive h && h.bond.heard.any (fun e => decide (e.1 = dst)) then
        let a := beBytes 4 (rd h 0x50 0 0x074).toNat
        let h1 := bondSend (if wr then 5 else 4) dst (sfnOf h h.frame) 0 (if wr then a ++ beBytes 4 (rd h 0x50 0 0x078).toNat else a) h
        { h1 with bond := { h1.bond with rq := some (h1.bond.seq, wr), rqAt := h.now } }
      else rqEnd 6 h
  else h

/-- RESP_RECEIVED. -/
def respReceived (reqSeq res data : Nat) (h : Hw) : Hw :=
  match h.bond.rq with
  | some (s, isWr) =>
    if bondHears h && decide (s = reqSeq) then
      rqEnd (res % 8) (if isWr then h else wr h 0x50 0 0x078 (BitVec.ofNat 32 data))
    else h
  | none => h

/-- REQUEST_TIMEOUT (R575, R593): t_RTO, at least 1.9 ms, has passed. -/
def rqTimeout (h : Hw) : Hw := if h.bond.rq.isSome ∧ h.bond.rqAt + 1900 ≤ h.now then rqEnd 4 h else h

/-- The window rights of R576 for an address. -/
def rwinAllows (h : Hw) (a : Nat) (isWr : Bool) : Bool :=
  (List.range 4).any (fun j =>
    let w := cfg h 0x50 0 (0x430 + 4 * j)
    let k := fld w 0 5
    decide (12 ≤ k) && decide (a / 2 ^ k = w.toNat / 4096 * 4096 / 2 ^ k) && bit w (if isWr then 6 else 5))

/-- Send the RESP of a request. -/
def sendResp (src reqSeq res data : Nat) (h : Hw) : Hw :=
  bondSend 6 src (sfnOf h h.frame) 0 (beBytes 2 reqSeq ++ [0, BitVec.ofNat 8 res] ++ beBytes 4 data)
    { h with bond := { h.bond with resp := some (src, reqSeq, res, data) } }

/-! ## Composite read-only registers -/

/-- STATUS of the BOND page. -/
def bondStatus (h : Hw) : Nat :=
  let b := h.bond
  b.lead * 2 ^ 23 + (isJunior h).toNat * 2 ^ 22 + b.ts * 2 ^ 18 + b.qAlive.toNat * 2 ^ 17 + b.mirRx.toNat * 2 ^ 16 + b.pst * 2 ^ 9
    + bondAddr h

/-- RQ_STAT. -/
def rqStat (h : Hw) : Nat := h.bond.rq.isSome.toNat * 0x100 + fld (rd h 0x50 0 0x080) 0 3

end Sys2Proof.Machine
end

