-- ==== Sys2Proof/Machine/Dma.lean ====
section
/-!
DEFINITION. The DMA channels but for their accesses (chapter 11): commands, states, the checks of a descriptor, the pacing gate, the
boundary, and which domains a channel's present descriptor uses.
-/
namespace Sys2Proof.Machine

/-- The record of channel `n`. -/
def dma (h : Hw) (n : Nat) : DmaCh := smGet {} h.dma n

/-- Replace the record of channel `n`, with the level sources HALT and WAIT (R349). -/
def setDma (h : Hw) (n : Nat) (r : DmaCh) : Hw :=
  level (level { h with dma := smPut {} n r h.dma } 0x31 n 2 (decide (r.st = .halt))) 0x31 n 5 (decide (r.st = .wait))

/-- The code of a state (R338). -/
def dmaCode : DmaSt → Nat
  | .idle => 0 | .armed => 1 | .run => 2 | .wait => 3 | .halt => 4

/-- A field of the applied CFG. -/
def dmaCfg (h : Hw) (n lo w : Nat) : Nat := cfgF h 0x31 n 0x400 lo w

/-- A field of a quadword of a descriptor (R331). -/
def qf (d lo w : Nat) : Nat := d / 2 ^ lo % 2 ^ w

/-- TYPE, SQ and DQ of the descriptor in progress. -/
def dmaType (r : DmaCh) : Nat := match r.desc with | some d => qf d.2 0 3 | none => 0
def dmaSq (r : DmaCh) : Nat := match r.desc with | some d => qf d.2 8 6 | none => 0
def dmaDq (r : DmaCh) : Nat := match r.desc with | some d => qf d.2 14 6 | none => 0

/-- A register of the channel's page as a number. -/
def dmaReg (h : Hw) (n off : Nat) : Nat := (rd h 0x31 n off).toNat

/-- Set a register of the channel's page. -/
def setDmaReg (h : Hw) (n off v : Nat) : Hw := wr h 0x31 n off (BitVec.ofNat 32 v)

/-- The pacing gate after one evaluation from `g` (R339). -/
def gateEval (h : Hw) (n : Nat) (g : Bool) : Bool :=
  let p := cfg h 0x31 n 0x404
  let f := fill h (fld p 24 6)
  let above := decide (fld p 12 12 ≤ f)
  let below := decide (f ≤ fld p 0 12)
  let opens := if bit p 30 then below else above
  let closes := if bit p 30 then above else below
  if g then !closes else opens

/-- The next unit may not start: the gate is closed, SQ is empty, or DQ is full (R332, R339). -/
def dmaWaits (h : Hw) (n : Nat) (r : DmaCh) : Bool :=
  let ty := dmaType r
  let paced := bit (cfg h 0x31 n 0x400) 11 && (match r.desc with | some d => d.2.testBit 7 | none => false)
  (paced && !r.gate) || (decide (ty = 2 ∨ ty = 3) && r.pages.isEmpty && (queue h (dmaSq r)).isEmpty) ||
    (decide (ty = 3) && qFull h (dmaDq r) 0)

/-- RUN or WAIT of a channel between units. -/
def dmaPoll (n : Nat) (h : Hw) : Hw :=
  let r := dma h n
  if (r.st = .run ∨ r.st = .wait) ∧ r.desc.isSome = true ∧ r.unit = 0 ∧ r.hung = false then
    setDma h n { r with st := if dmaWaits h n r then .wait else .run }
  else h

/-- What a channel still owns goes back: a DRAIN chain to the head of SQ, a FILL chain to the free pool (R341). -/
def dmaRelease (n : Nat) (h : Hw) : Hw :=
  let r := dma h n
  let h0 := setDma h n { r with pages := [], item := none }
  match r.item, r.pages with
  | some i, p :: l =>
    let h1 := forL (p :: l) (fun k x => setPage x k { apage x k with own := .queue (dmaSq r) }) h0
    setQueue h1 (dmaSq r) ({ i with page := p } :: queue h1 (dmaSq r))
  | _, l => if l.isEmpty then h0 else msgLevels (forL l (fun k x => setPage x k {}) h0)

/-- The record of a channel between chains, in state `st`. -/
def dmaBlank (st : DmaSt) (r : DmaCh) : DmaCh := { st := st, cause := r.cause, gate := r.gate }

/-- The chain of channel `n` ends before its last descriptor: IDLE (R338). -/
def dmaIdle (n : Nat) (h : Hw) : Hw :=
  let h1 := dmaRelease n h
  setDma h1 n (dmaBlank .idle (dma h1 n))

/-- START (R338, R343): CUR takes HEAD; at START the gate is closed and is evaluated at once (R339). -/
def dmaStart (n : Nat) (h : Hw) : Hw :=
  let h1 := setDmaReg (dmaIdle n h) n 0x4C (dmaReg h n 0x48)
  setDma h1 n { dmaBlank (if dmaCfg h1 n 31 1 = 1 then .armed else .run) (dma h1 n) with gate := gateEval h1 n false }

/-- ABORT (R338); of a channel that hangs it takes effect after the access (R347). -/
def dmaAbort (n : Nat) (h : Hw) : Hw :=
  let r := dma h n
  if r.st = .idle then h else if r.hung then setDma h n { r with abort := true, restart := false } else dmaIdle n h

/-- A CMD that the state does not allow (R338). -/
def dmaRefuse (n : Nat) (h : Hw) : Hw := err h 0x31 n 16

/-- STOP (R338). -/
def dmaStopCmd (n : Nat) (h : Hw) : Hw :=
  let r := dma h n
  match r.st with
  | .armed => dmaIdle n h
  | .run => setDma h n { r with stop := true }
  | .wait => setDma h n { r with stop := true }
  | _ => dmaRefuse n h

/-- RESUME (R338): only after a halt for a bus error. -/
def dmaResume (n : Nat) (h : Hw) : Hw :=
  let r := dma h n
  if r.st = .halt ∧ r.cause = 3 then setDma h n { r with st := .run, retry := none } else dmaRefuse n h

/-- A write of CMD (R338). -/
def dmaCmd (n op : Nat) (h : Hw) : Hw :=
  let r := dma h n
  match op with
  | 0 => h
  | 1 =>
    if r.st = .idle ∨ r.st = .halt then dmaStart n h
    else if r.hung && r.abort then setDma h n { r with restart := true }
    else dmaRefuse n h
  | 2 => dmaStopCmd n h
  | 3 => dmaAbort n h
  | 4 => dmaResume n h
  | _ => dmaRefuse n h

/-- The channel halts (R336, R337). -/
def dmaHalt (n cause a : Nat) (h : Hw) : Hw :=
  setDma (setDmaReg h n 0x5C a) n { dma h n with st := .halt, cause := cause, retry := none }

/-- The first rule of R336 that a descriptor read at `cur` breaks; 0 for none. -/
def dmaCheck (h : Hw) (n : Nat) (d : Nat × Nat) : Nat :=
  let ty := qf d.2 0 3
  let odd (v : Nat) : Bool := decide (v % 16 ≠ 0)
  let usesSrc := decide (ty = 0 ∨ ty = 1)
  let usesDst := decide (ty = 0 ∨ ty = 2)
  let badSq := !(qEn h (qf d.2 8 6) && decide (fld (qcfg h (qf d.2 8 6)) 28 2 = 2) && decide (fld (qcfg h (qf d.2 8 6)) 20 8 = n))
  let badDq := !(qEn h (qf d.2 14 6) && decide (fld (qcfg h (qf d.2 14 6)) 12 8 = 0))
  if (usesSrc && odd (qf d.1 0 32)) || (usesDst && odd (qf d.1 32 32)) || (decide (ty ≤ 2) && odd (qf d.1 64 24)) ||
      (!d.2.testBit 5 && odd (qf d.1 96 32)) then 1
  else if qf d.1 88 8 ≠ 0 ∨ qf d.2 32 96 ≠ 0 ∨ 4 ≤ ty ∨ (ty = 3 ∧ qf d.1 64 24 ≠ 0) ∨
      ((ty = 2 ∨ ty = 3) ∧ badSq = true) ∨ ((ty = 1 ∨ ty = 3) ∧ badDq = true) then 2
  else 0

/-- A descriptor completes (R338, R340): DCNT, DESC, and the chain's end through LAST, a STOP, or the next descriptor. -/
def dmaDescDone (n : Nat) (h : Hw) : Hw :=
  let r := dma h n
  match r.desc with
  | none => h
  | some d =>
    let h1 := incWrap h 0x31 n 0x44 16 8
    let h2 := if d.2.testBit 6 then pulse h1 0x31 n 0 else h1
    if d.2.testBit 5 then
      let h3 := pulse h2 0x31 n 1
      if dmaCfg h3 n 30 1 = 1 ∧ r.stop = false then
        setDma (setDmaReg h3 n 0x4C (dmaReg h3 n 0x48)) n { dmaBlank .armed r with restart := true }
      else setDma h3 n (dmaBlank .idle r)
    else
      let h3 := setDmaReg h2 n 0x4C (qf d.1 96 32)
      setDma h3 n (dmaBlank (if r.stop then .idle else .run) r)

/-- A checked descriptor begins (R332): the progress registers, and the completion at once of one with nothing to do. -/
def dmaDescGo (n : Nat) (d : Nat × Nat) (h : Hw) : Hw :=
  let ty := qf d.2 0 3
  let len := qf d.1 64 24
  let cnt := qf d.2 20 12
  let h1 := setDmaReg h n 0x58 (if ty = 3 then cnt else len)
  let h2 := if ty = 0 ∨ ty = 1 then setDmaReg h1 n 0x50 (qf d.1 0 32) else h1
  let h3 := if ty = 0 ∨ ty = 2 then setDmaReg h2 n 0x54 (qf d.1 32 32) else h2
  let h4 := setDma h3 n { dma h3 n with desc := some d, cnt := cnt, unit := 0, hold := none, retry := none, pages := [], item := none }
  if (ty = 2 ∨ ty = 3) ∧ cnt = 0 ∨ ty ≠ 3 ∧ len = 0 then dmaDescDone n h4 else dmaPoll n h4

/-- PACING_GATE_EVAL (R339), in every state. -/
def dmaGate (n : Nat) (h : Hw) : Hw :=
  let r := dma h n
  if domOn h 18 = true ∧ bit (cfg h 0x31 n 0x400) 11 = true then
    dmaPoll n (setDma h n { r with gate := gateEval h n r.gate })
  else h

/-- A chain of channel `n` with FB = 1 still runs at a boundary instant (R344). -/
def dmaLate (h : Hw) (n : Nat) : Bool :=
  (decide ((dma h n).st = .run) || decide ((dma h n).st = .wait)) && decide (dmaCfg h n 31 1 = 1)

/-- The boundary instant for channel `n` (R343, R344): the chain of an armed channel begins; a late one says so. -/
def dmaBoundary (n : Nat) (h : Hw) : Hw :=
  let r := dma h n
  if dmaLate h n then pulse (wrF h 0x31 n 0x44 9 1 1) 0x31 n 4
  else if r.st = .armed then
    let h1 := if r.restart then setDmaReg h n 0x4C (dmaReg h n 0x48) else h
    setDma h1 n { r with st := .run, restart := false, gate := if r.restart then gateEval h1 n false else r.gate }
  else h

/-- The domain of an address (R346). -/
def addrDomain (a : Nat) : Option Nat :=
  if 0x40000000 ≤ a ∧ a < 0x50000000 then pageDomain (pgType a) (pgInst a)
  else if a < 0x01000000 ∨ (0x10000000 ≤ a ∧ a < 0x10300000) ∨ (0x20000000 ≤ a ∧ a < 0x20200000) ∨
      (0x21000000 ≤ a ∧ a < 0x21100000) ∨ (0x22000000 ≤ a ∧ a < 0x22040000) then some (memDomain a)
  else none

/-- The channel's present descriptor, both quadwords of it, uses domain `d` (R346); of an armed channel, and one that has not read its descriptor yet, the
one in memory at CUR counts. -/
def dmaUses (m : Mach) (n d : Nat) : Bool :=
  let r := dma m.hw n
  let cur := dmaReg m.hw n 0x4C
  let inMem := match addrDomain cur with | some _ => decide (cur < 0x40000000) | none => false
  let ds : Option (Nat × Nat) := match r.desc with
    | some x => some x
    | none => if inMem then some (rdMem m.mem cur 16, rdMem m.mem (cur + 16) 16) else none
  (decide (r.st = .armed) || decide (r.st = .run) || decide (r.st = .wait)) &&
    (decide (d = 18) || decide (addrDomain cur = some d) || decide (addrDomain (cur + 16) = some d) ||
      (match ds with
       | some x =>
         let ty := qf x.2 0 3
         (decide (ty ≤ 1) && decide (addrDomain (qf x.1 0 32) = some d)) ||
           (decide (ty = 0 ∨ ty = 2) && decide (addrDomain (qf x.1 32 32) = some d)) ||
           (!x.2.testBit 5 && decide (addrDomain (qf x.1 96 32) = some d)) ||
           (decide (1 ≤ ty ∧ ty ≤ 3) && decide (d = 17))
       | none => false))

/-- STATUS of channel `n`. -/
def dmaStatus (h : Hw) (n : Nat) : Nat :=
  let r := dma h n
  (rd h 0x31 n 0x44 &&& 0xFF0200).toNat + r.gate.toNat * 0x100 + r.cause * 0x10 + dmaCode r.st

end Sys2Proof.Machine
end

