-- ==== Sys2Proof/Machine/Bus.lean ====
section
/-!
DEFINITION. The bus and the peripheral pages (chapter 02): which accesses end in a bus error, page locks, the commits of the staging
area, what a write of each register does and what a read of it returns, waiting accesses, and the accesses to memories.
-/
namespace Sys2Proof.Machine

/-! ## Composite registers of the SYS, PWR and CLK pages -/

/-- The REQ and STATE code of a domain state (R40). -/
def pwrCode : PwrState → Nat
  | .on => 0 | .ret => 1 | .off => 2

/-- PG_PWR of the pages of domain `d`, and DOM[d] (R40, R41). -/
def pgPwr (h : Hw) (d : Nat) : Nat :=
  let r := dom h d
  d * 0x10000 + r.refused.toNat * 0x200 + r.busy.toNat * 0x100 + pwrCode r.state * 0x10 + pwrCode r.req

/-- STATUS of the PWR page (R464). -/
def pwrStatus (h : Hw) : Nat :=
  h.pwr.gres * 0x400000 + h.pwr.gdom * 0x10000 + (h.pwr.sets.any (fun g => g.group)).toNat * 4 + h.pwr.cur.isSome.toNat * 2 + h.pwr.lp.toNat

/-- Any of the domains `lo … hi` is ON. -/
def anyOn (h : Hw) (lo hi : Nat) : Bool := (List.range 45).any (fun d => decide (lo ≤ d ∧ d ≤ hi) && domOn h d)

/-- Clock `i` of R467 runs. -/
def clkRuns (h : Hw) (i : Nat) : Bool :=
  match i with
  | 0 => true
  | 1 => anyOn h 1 12
  | 2 => domOn h 18
  | 3 => domOn h 18 || anyOn h 31 42
  | 4 => anyOn h 19 26
  | 5 => anyOn h 27 28
  | 6 => domOn h 29
  | 7 => domOn h 30
  | 8 => anyOn h 31 40
  | 9 => anyOn h 35 40
  | 10 => domOn h 40
  | 11 => domOn h 42
  | 12 => domOn h 43
  | 13 => domOn h 44
  | _ => false

/-- STATUS of the CLK page (R488): REFOK is stored; PLL_A spreads while it runs and SSC_CFG.EN is 1 (R475). -/
def clkStatus (h : Hw) : Nat :=
  (List.range 16).foldl (fun a i => a + (clkRuns h i).toNat * 2 ^ i) 0 + (rd h 3 0 0x040).toNat
    + ((clkRuns h 1 || clkRuns h 2) && bit (cfg h 3 0 0x400) 0).toNat * 0x20000

/-- The output hold time of the straps in µs (R498). -/
def holdTime (h : Hw) : Nat :=
  match fld h.straps 2 2 with | 0 => 0 | 1 => 100000 | 2 => 500000 | _ => 2000000

/-- OUT_STAT (R512). -/
def outStat (h : Hw) : Nat :=
  let left := if outState h = 1 then (h.rst.holdAt + holdTime h - h.now + 999) / 1000 else 0
  left * 0x100 + (bit h.straps 1).toNat * 4 + outState h

/-! ## Locks (R59 … R61) -/

/-- PG_LOCK covers offset `off` of the page. -/
def lockCovers (h : Hw) (ty i off : Nat) : Bool :=
  let l := rd h ty i oLOCK
  decide (off = oPWR ∨ off = oCOMMIT ∨ off = oEN ∨ off = oSET ∨ off = oROUTE ∨ off = oLOCK) || decide (0x400 ≤ off ∧ off < 0x800) ||
    (decide (0x040 ≤ off ∧ off < 0x400) && bit l 4 && decide (fld l 0 2 = 1 ∨ fld l 0 2 = 2))

/-- The lock lets the initiator write offset `off`. -/
def lockAllows (h : Hw) (ini : Initiator) (ty i off : Nat) : Bool :=
  let l := rd h ty i oLOCK
  let sup := match ini with | .core c => (olk h c.val).sup | .debug => true | _ => false
  if lockCovers h ty i off then
    match fld l 0 2 with
    | 0 => true
    | 1 => sup
    | 2 => sup || (decide (off ≠ oLOCK) && decide (taskCtx h ini = some (fld l 8 8)))
    | _ => false
  else true

/-! ## Commits (R49 … R56) -/

/-- The level sources of a page are brought up to date after one of its registers changed. -/
def relevel (ty i : Nat) (h : Hw) : Hw :=
  let h := errLevel h ty i
  if ty = 0x02 then level (level h 2 0 0 (decide (rd h 2 0 0x050 ≠ 0))) 2 0 2 (bit (rd h 2 0 0x054) 31)
  else if ty = 0x03 then level (level h 3 0 0 (decide (rd h 3 0 0x054 ≠ 0))) 3 0 1 (!bit (rd h 3 0 0x040) 16)
  else if ty = 0x10 then hswLevels i h
  else if ty = 0x11 then hbrLevels i h
  else if ty = 0x12 then solLevels i h
  else if ty = 0x13 then (if i = 0 then parkLevels else id) (level h 0x13 i 2 (decide (rd h 0x13 i 0x05C ≠ 0)))
  else if ty = 0x14 then measLevels i h
  else if ty = 0x20 then canLevels i h
  else if ty = 0x21 then linLevels i h
  else if ty = 0x22 then ethLevels i h
  else if ty = 0x23 then nscLevels h
  else if ty = 0x30 then stopLevel h
  else if ty = 0x32 then msgLevels h
  else if ty = 0x40 then accLevels h
  else if ty = 0x41 then cryLevels h
  else if ty = 0x50 then bondLevels h
  else h

/-- What the blocks do when a commit of their page, immediate or at a boundary, changed the applied configuration from that of `old`. At a
boundary the KEY page's marks and the causes that a new configuration brings follow at step 6 (R312, R296). -/
def commitHook (ty i : Nat) (imm : Bool) (old h : Hw) : Hw :=
  if ty = 0x03 then forN 12 (fun c x => if cfg x 3 0 (0x440 + 4 * c) ≠ cfg old 3 0 (0x440 + 4 * c) then setOlk x c { olk x c with wdgAt := x.now } else x) h
  else if ty = 0x13 then capCommit h
  else if ty = 0x30 then
    if imm then forN 256 idleCauses (if bit (cfg old 0x30 0 0x400) 0 then h else markStill h) else h
  else if ty = 0x14 then (if imm then winDisabled i h else h)
  else if ty = 0x21 then linCommit i h
  else if ty = 0x23 then fsUpdate (nscCommit h)
  else if ty = 0x32 then
    let h1 := forN 64 (fun q x => if qEn old q && !qEn x q then setQueue (freeOwned (.queue q) x) q [] else x) h
    if imm then forN 256 idleCauses h1 else h1
  else if ty = 0x50 then bondCommit old h
  else h

/-- A commit of page (`ty`, `i`) waits for its channel's bus idle or round end (R357, R392, R395). -/
def commitWaits (ty i : Nat) (h : Hw) : Bool := if ty = 0x20 then canHolds i h else if ty = 0x21 then linHolds i h else false

/-- The set that a channel's commit waits with; a later commit takes the place of one that still waits (log entry 82). -/
def holdSet (ty i : Nat) (l : Option (List (Nat × Word))) (h : Hw) : Hw :=
  if ty = 0x20 then { h with can := smPut {} i { can h i with defer := l } h.can }
  else if ty = 0x21 then { h with lin := smPut {} i { lin h i with defer := l, deferRound := l.isSome && linHoldsRound i h } h.lin }
  else h

/-- The staging area of a page is applied (R49 … R51): an immediate commit clears PEND and ARMED, a boundary commit PEND; CCOUNT advances
with the application. -/
def applyPage (ty i : Nat) (imm : Bool) (h : Hw) : Hw :=
  let h1 := wrF h ty i oCOMMIT 8 1 0
  let h2 := if imm then wrF h1 ty i oCOMMIT 9 1 0 else h1
  if commitWaits ty i h then holdSet ty i (some (stagedSet h2 ty i)) h2
  else relevel ty i (commitHook ty i imm h (holdSet ty i none (applySet ty i (stagedSet h2 ty i) h2)))

/-- A write of PG_COMMIT.CODE (R49, R52). -/
def commitCode (ty i code : Nat) (h : Hw) : Hw :=
  let b := pg ty i
  match code with
  | 0 => h
  | 1 => wrF h ty i oCOMMIT 8 1 1
  | 2 =>
    if ty = 0x10 ∨ ty = 0x11 ∨ ty = 0x12 then err (wrF h ty i oCOMMIT 8 1 1) ty i 4
    else applyPage ty i true h
  | 3 => wrF h ty i oCOMMIT 8 2 0
  | 4 => { h with regs := smCopyRange (b + 0x400) (b + 0x800) h.applied h.regs }
  | 5 => wrF h ty i oCOMMIT 9 1 1
  | _ => err h ty i 3

/-- Every populated page: its type and its number of instances (R30). -/
def pageTypes : List (Nat × Nat) := [(0x01, 1), (0x02, 1), (0x03, 1), (0x10, 96), (0x11, 24), (0x12, 4), (0x13, 4), (0x14, 4), (0x20, 8),
  (0x21, 16), (0x22, 2), (0x23, 1), (0x30, 1), (0x31, 64), (0x32, 1), (0x40, 1), (0x41, 1), (0x50, 1)]

/-- Apply `f` to every populated page. -/
def forPages (f : Nat → Nat → Hw → Hw) (h : Hw) : Hw := forL pageTypes (fun e x => forN e.2 (f e.1) x) h

/-- GROUP_COMMIT.GO: ARMED becomes PEND on every armed page (R53). -/
def groupCommit (h : Hw) : Hw :=
  forPages (fun ty i x => if bit (rd x ty i oCOMMIT) 9 && pageOn x ty i then wrF x ty i oCOMMIT 8 2 1 else x) h

/-! ## Commands of the load drivers' pages (R100, R101, R139, R141, R170, R171) -/

/-- A write of HSW CTL. -/
def hswCtl (n : Nat) (w : Word) (h : Hw) : Hw :=
  if fld w 0 2 = 3 then err h 0x10 n 16 else wr h 0x10 n 0x040 (w &&& 0xFFFF0003)

/-- The page of half-bridge `n` belongs to a unit whose lead page is another. -/
def hbrMember (h : Hw) (n : Nat) : Bool := decide (hbrLead h n ≠ n)

/-- A write of HBR CTL. -/
def hbrCtl (n : Nat) (w : Word) (h : Hw) : Hw :=
  if hbrMember h n then err h 0x11 n 17
  else if (if hbrSingle h n then decide (4 ≤ fld w 0 3) else decide (fld w 0 3 = 7)) then err h 0x11 n 16
  else wr h 0x11 n 0x040 (w &&& 0xFFFF0007)

/-- A write of SOL CTL[v]: a FIRE marks a new FIRE for the next boundary. -/
def solCtl (g v : Nat) (w : Word) (h : Hw) : Hw :=
  if 2 ≤ fld w 0 2 then err h 0x12 g 16
  else
    let h1 := wr h 0x12 g (0x040 + 4 * v) (w &&& 3)
    if fld w 0 2 = 1 then { h1 with valves := smPut {} (solNo g v) { valve h1 g v with newFire := true } h1.valves } else h1

/-! ## Commands of the PWR, CLK and SYS pages -/

/-- A write of REQ for domain `d`: code 0b11 leaves it unchanged (R40). REFUSED clears where the write has a 1 there. -/
def reqWrite (d : Nat) (w : Word) (h : Hw) : Hw :=
  let h1 := if bit w 9 then setDom h d { dom h d with refused := false } else h
  match fld w 0 2 with
  | 0 => reqDom d .on h1
  | 1 => reqDom d .ret h1
  | 2 => reqDom d .off h1
  | _ => h1

/-- A write of GRP_CMD (R447). -/
def grpCmd (w : Word) (h : Hw) : Hw :=
  if bit w 31 then
    if h.pwr.sets.any (fun g => g.group) || decide (fld w 4 2 = 3) then err h 2 0 16
    else
      let tgt : PwrState := match fld w 4 2 with | 0 => .on | 1 => .ret | _ => .off
      let ds := (maskDomains (rd h 2 0 0x044) (rd h 2 0 0x048)).filter (fun d => decide (d ≠ 0))
      let l := (if tgt = .on then exitOrder else entryOrder).filter (fun d => ds.contains d)
      seqRun { h with pwr := { h.pwr with sets := h.pwr.sets ++ [⟨l, tgt, true, bit w 0⟩] } }
  else h

/-- A write of WDG_KICK (R485). -/
def wdgKick (ini : Initiator) (w : Word) (h : Hw) : Hw :=
  match ini with
  | .core c => if fld w 0 8 = 0x5A then setOlk h c.val { olk h c.val with wdgAt := h.now } else err h 3 0 16
  | _ => err h 3 0 16

/-- A write of OUT_REL (R504). -/
def outRel (w : Word) (h : Hw) : Hw :=
  if fld w 24 8 = 0x3C ∧ bit w 0 = true ∧ outState h ≠ 0 then { h with rst := { h.rst with rel := true } } else h

/-- A reset of core `c` is requested (R492); while BOOT_ENTRY.VALID is 0 it is a controller reset. -/
def reqCoreReset (c cause : Nat) (h : Hw) : Hw :=
  if bit (rd h 1 0 0x090) 0 then { h with rst := { h.rst with cores := (c, cause) :: h.rst.cores.filter (fun e => decide (e.1 ≠ c)) } }
  else { h with rst := { h.rst with ctrl := true, causes := Nat.lor h.rst.causes 0x100 } }

/-- A controller reset is requested, with its bit of RST_CAUSE (R492). -/
def reqCtrlReset (b : Nat) (h : Hw) : Hw := { h with rst := { h.rst with ctrl := true, causes := Nat.lor h.rst.causes (2 ^ b) } }

/-- A write of RST_CTL (R492). -/
def rstCtl (w : Word) (h : Hw) : Hw :=
  if fld w 24 8 = 0xC3 then
    if bit w 16 then reqCtrlReset 4 h
    else forN 12 (fun c x => if bit w c then reqCoreReset c 2 x else x) h
  else h

/-! ## Keystone's commands (R293 … R305, R326) -/

/-- A write of CTX_CMD: task mode may only activate (R326). -/
def ctxCmd (ini : Initiator) (w : Word) (m : Mach) : Mach :=
  let op := fld w 28 4
  let n := fld w 0 8
  let task := (taskCtx m.hw ini).isSome
  if op = 0 ∨ 4 < op ∨ (task = true ∧ op ≠ 3) then m.onHw (fun h => err h 0x30 0 16)
  else match op with
    | 1 => ctxEnable n m
    | 2 => ctxDisable n m
    | 3 => m.onHw (ctxActivate n)
    | _ => ctxAbort n m

/-- A write of YIELD (R303, R325): refused from task mode; it acts on the writing core, so a write by another initiator does nothing. -/
def yieldWrite (ini : Initiator) (w : Word) (m : Mach) : Mach :=
  match ini with
  | .core c =>
    if (taskCtx m.hw ini).isSome then m.onHw (fun h => err h 0x30 0 16) else if bit w 0 then yieldCore c.val m else m
  | _ => m

/-! ## Writes to a page -/

/-- The default effect of a write (R5, R48): RW and RWS bits are stored, W1C bits written 1 are cleared. -/
def plainWrite (ty i off : Nat) (r : Reg) (w : Word) (h : Hw) : Hw :=
  let rw := rwMask ty i off r
  let old := rd h ty i off
  relevel ty i (wr h ty i off (((old &&& ~~~rw) ||| (w &&& rw)) &&& ~~~(w &&& r.w1c)))

/-- A write of PG_PWR.REQ requests the page's own domain (R40). -/
def pageReq (ty i : Nat) (w : Word) (h : Hw) : Hw := match pageDomain ty i with | some d => reqWrite d w h | none => h

/-- A write whose effect is a change of the blocks. -/
def Mach.page (m : Mach) (f : Hw → Hw) : Option Mach := some (m.onHw f)

/-- A write of the SYS page. -/
def sysAct (off : Nat) (w : Word) (m : Mach) : Option Mach :=
  if off = 0x070 then m.page (fun h => if bit w 0 then groupCommit h else h)
  else if off = 0x098 then m.page (outRel w)
  else if off = 0x09C then m.page (rstCtl w)
  else none

/-- A write of the PWR page. -/
def pwrAct (off : Nat) (w : Word) (m : Mach) : Option Mach :=
  if off = 0x04C then m.page (grpCmd w)
  else if 0x800 ≤ off ∧ off < 0x900 then m.page (reqWrite ((off - 0x800) / 4) w)
  else none

/-- A write of the CLK page. -/
def clkAct (ini : Initiator) (off : Nat) (w : Word) (m : Mach) : Option Mach :=
  if off = 0x050 then m.page (wdgKick ini w) else none

/-- A write of an HSW page. -/
def hswAct (i : Nat) (off : Nat) (w : Word) (m : Mach) : Option Mach :=
  if off = 0x040 then m.page (hswCtl i w) else none

/-- A write of an HBR page. -/
def hbrAct (i : Nat) (off : Nat) (w : Word) (m : Mach) : Option Mach :=
  if off = 0x040 then m.page (hbrCtl i w) else none

/-- A write of a SOL page. -/
def solAct (i : Nat) (off : Nat) (w : Word) (m : Mach) : Option Mach :=
  if 0x040 ≤ off ∧ off < 0x050 then m.page (solCtl i ((off - 0x040) / 4) w) else none

/-- A write of a MEAS page. -/
def measAct (i : Nat) (off : Nat) (w : Word) (m : Mach) : Option Mach :=
  if off = 0x048 then
    m.page (fun h => let h1 := wrF h 0x14 i 0x048 0 6 (fld w 0 6); if bit w 31 then calGo i (fld w 0 6) h1 else h1)
  else none

/-- A write of a CAN page. -/
def canAct (ini : Initiator) (i : Nat) (off : Nat) (w : Word) (m : Mach) : Option Mach :=
  if off = 0x040 then m.page (canCtl i w)
  else if 0x060 ≤ off ∧ off < 0x06C then some (txbLoad ini i ((off - 0x060) / 4) w m)
  else if off = 0x07C then m.page (canAbort i w)
  else if off = 0x080 then some (canTxqPut ini i w m)
  else if off = 0x094 then m.page (fun h => fsUpdate (canTrxReq i (fld w 0 2) h))
  else none

/-- A write of a LIN page. -/
def linAct (i : Nat) (off : Nat) (w : Word) (m : Mach) : Option Mach :=
  if off = 0x040 then m.page (linCtl i w)
  else if off = 0x04C then m.page (fun h => fsUpdate (linTrx i (bit w 0) h))
  else none

/-- A write of an ETH page. -/
def ethAct (ini : Initiator) (i : Nat) (off : Nat) (w : Word) (m : Mach) : Option Mach :=
  if off = 0x040 then m.page (fun h => fsUpdate (ethCtl i (fld w 0 2) h))
  else if off = 0x050 ∨ off = 0x054 then some (ethTxqPut ini i ((off - 0x050) / 4) w m)
  else if off = 0x05C then m.page (ethAbort i w)
  else if off = 0x06C then m.page (fun h => fsUpdate (tcReq i (fld w 0 3) h))
  else none

/-- A write of the NSC page. -/
def nscAct (off : Nat) (w : Word) (m : Mach) : Option Mach :=
  if off = 0x044 then m.page (needSet w)
  else if off = 0x048 then m.page (needClr w)
  else if off = 0x04C then m.page (nscKeep w)
  else if off = 0x060 then m.page (fsKick (fld w 0 8))
  else none

/-- A write of the KEY page. -/
def keyAct (ini : Initiator) (off : Nat) (w : Word) (m : Mach) : Option Mach :=
  if off = 0x040 then some (ctxCmd ini w m)
  else if off = 0x044 then some (yieldWrite ini w m)
  else if off = 0x048 then m.page (fun h => if (taskCtx h ini).isSome then err h 0x30 0 16 else evlWrite w h)
  else if off = 0x054 then m.page (evswWrite w)
  else none

/-- A write of a DMA page. -/
def dmaAct (i : Nat) (off : Nat) (w : Word) (m : Mach) : Option Mach :=
  if off = 0x040 then m.page (dmaCmd i (fld w 0 3)) else none

/-- A write of the MSG page. -/
def msgAct (ini : Initiator) (off : Nat) (w : Word) (m : Mach) : Option Mach :=
  if off = 0x048 then m.page (fun h => msgGive ini (taskCtx h ini) w h)
  else if off = 0x04C then m.page (msgPut ini w)
  else if off = 0x060 then m.page (fun h => msgLink ini (taskCtx h ini) w h)
  else none

/-- A write of the ACC page. -/
def accAct (off : Nat) (w : Word) (m : Mach) : Option Mach :=
  if off = 0x044 then some (pollCmd w m)
  else if off = 0x060 then some (learnCtl w m)
  else if off = 0x06C then m.page (immoCtl w)
  else none

/-- A write of the CRY page. -/
def cryAct (off : Nat) (w : Word) (m : Mach) : Option Mach :=
  if off = 0x040 then m.page (cryCmd w) else none

/-- A write of the BOND page. -/
def bondAct (off : Nat) (w : Word) (m : Mach) : Option Mach :=
  if off = 0x06C then m.page (qkick w)
  else if off = 0x070 then m.page (gateWrite w)
  else if off = 0x07C then m.page (rqCtl w)
  else none

/-- The effect of a write on the registers that act, none where the register has the default effect only. -/
def pageAct (ini : Initiator) (ty i off : Nat) (w : Word) (m : Mach) : Option Mach :=
  if off = oPWR then m.page (pageReq ty i w)
  else if off = oCOMMIT then m.page (commitCode ty i (fld w 0 3))
  else if off = oSET then m.page (fun h => wr h ty i oSTAT (rd h ty i oSTAT ||| (w &&& evDefined ty)))
  else if ty = 0x01 then sysAct off w m
  else if ty = 0x02 then pwrAct off w m
  else if ty = 0x03 then clkAct ini off w m
  else if ty = 0x10 then hswAct i off w m
  else if ty = 0x11 then hbrAct i off w m
  else if ty = 0x12 then solAct i off w m
  else if ty = 0x14 then measAct i off w m
  else if ty = 0x20 then canAct ini i off w m
  else if ty = 0x21 then linAct i off w m
  else if ty = 0x22 then ethAct ini i off w m
  else if ty = 0x23 then nscAct off w m
  else if ty = 0x30 then keyAct ini off w m
  else if ty = 0x31 then dmaAct i off w m
  else if ty = 0x32 then msgAct ini off w m
  else if ty = 0x40 then accAct off w m
  else if ty = 0x41 then cryAct off w m
  else if ty = 0x50 then bondAct off w m
  else none

/-- A 32-bit write that reached page (`ty`, `i`) (R5, R36, R59 … R61). -/
def pageWrite (ini : Initiator) (ty i off : Nat) (w : Word) (m : Mach) : Mach :=
  match findReg ty i off with
  | none => m.onHw (fun h => err h ty i 0)
  | some r =>
    if lockAllows m.hw ini ty i off then
      match pageAct ini ty i off w m with
      | some m1 => m1
      | none => m.onHw (plainWrite ty i off r w)
    else m.onHw (fun h => err h ty i 2)

/-! ## Reads of a page -/

/-- Element of a register array that begins at `base`. -/
def arr (f : Nat → Nat) (off base : Nat) : Option Nat := some (f ((off - base) / 4))

/-- What a read of the SYS page finds in a register whose bits are not all stored. -/
def sysVal (h : Hw) (off : Nat) : Option Nat :=
  if off = 0x044 then some devRev
  else if off = 0x050 then some (h.timebase % 2 ^ 32)
  else if off = 0x054 then some (h.timebase / 2 ^ 32)
  else if off = 0x058 then some (h.frame % 2 ^ 32)
  else if off = 0x05C then some (h.frame / 2 ^ 32)
  else if off = 0x088 then some (fld h.straps 0 8)
  else if off = 0x094 then some (outStat h)
  else none

/-- What a read of the PWR page finds in a register whose bits are not all stored. -/
def pwrVal (h : Hw) (off : Nat) : Option Nat :=
  if off = 0x040 then some (pwrStatus h)
  else if off = 0x060 then some (h.pwr.rtc % 2 ^ 32)
  else if off = 0x064 then some (h.pwr.rtc / 2 ^ 32)
  else if 0x800 ≤ off ∧ off < 0x900 then arr (pgPwr h) off 0x800
  else none

/-- What a read of the CLK page finds in a register whose bits are not all stored. -/
def clkVal (h : Hw) (off : Nat) : Option Nat :=
  if off = 0x040 then some (clkStatus h) else none

/-- What a read of an HSW page finds in a register whose bits are not all stored. -/
def hswVal (h : Hw) (i : Nat) (off : Nat) : Option Nat :=
  if off = 0x048 then some (hswState h i)
  else if off = 0x050 then some (hswTheta h i)
  else if off = 0x054 then some (hswInfo i)
  else if off = 0x058 then some ((rd h 0x10 i off).toNat + feedStat h (i / 12))
  else none

/-- What a read of an HBR page finds in a register whose bits are not all stored. -/
def hbrVal (h : Hw) (i : Nat) (off : Nat) : Option Nat :=
  if off = 0x048 then some (hbrState h i)
  else if off = 0x058 then some (hbrInfo h i)
  else none

/-- What a read of a SOL page finds in a register whose bits are not all stored. -/
def solVal (h : Hw) (i : Nat) (off : Nat) : Option Nat :=
  if 0x060 ≤ off ∧ off < 0x070 then arr (vstate h i) off 0x060
  else if 0x070 ≤ off ∧ off < 0x080 then arr (fun v => (valve h i v).armT.toNat) off 0x070
  else if 0x090 ≤ off ∧ off < 0x0A0 then arr (fun v => (valve h i v).deferT) off 0x090
  else if 0x0A0 ≤ off ∧ off < 0x0B0 then arr (dutyNow h i) off 0x0A0
  else if off = 0x0B0 then some (bankStat h i)
  else if off = 0x0B8 then some ((bit h.straps 1).toNat * 0x100 + i)
  else none

/-- What a read of a SWI page finds in a register whose bits are not all stored. -/
def swiVal (h : Hw) (i : Nat) (off : Nat) : Option Nat :=
  if off = 0x044 then some (swiStateWord h i)
  else if 0x080 ≤ off ∧ off < 0x0A0 then arr (capCh h) off 0x080
  else none

/-- What a read of a MEAS page finds in a register whose bits are not all stored. -/
def measVal (h : Hw) (i : Nat) (off : Nat) : Option Nat :=
  if off = 0x040 then some (measStatus h i).toNat
  else if off = 0x060 ∨ off = 0x064 then some (staleWord h i ((off - 0x060) / 4))
  else if 0x900 ≤ off ∧ off < 0x9C0 then arr (ftrimG h i) off 0x900
  else if 0xA00 ≤ off ∧ off < 0xAC0 then arr (fun k => field24 (ftrimO h i k)) off 0xA00
  else none

/-- What a read of a CAN page finds in a register whose bits are not all stored. -/
def canVal (h : Hw) (i : Nat) (off : Nat) : Option Nat :=
  if off = 0x044 then some (canStatus h i)
  else if off = 0x048 then some (canEcnt h i)
  else if off = 0x050 then some ((rd h 0x20 i off).toNat + (can h i).seq)
  else if 0x070 ≤ off ∧ off < 0x07C then arr (txbStat h i) off 0x070
  else if off = 0x084 then some (txqStat h i)
  else if off = 0x08C then some (can h i).dupCnt
  else none

/-- What a read of a LIN page finds in a register whose bits are not all stored. -/
def linVal (h : Hw) (i : Nat) (off : Nat) : Option Nat :=
  if off = 0x044 then some (linStatus h i)
  else if off = 0x048 then some ((rd h 0x21 i off).toNat + (lin h i).seq)
  else none

/-- What a read of an ETH page finds in a register whose bits are not all stored. -/
def ethVal (h : Hw) (i : Nat) (off : Nat) : Option Nat :=
  if off = 0x044 then some (ethStatus h i)
  else if off = 0x048 then some ((rd h 0x22 i off).toNat + (eth h i).seq)
  else if off = 0x058 then some (ethTxqStat h i)
  else if off = 0x070 then some ((rd h 0x22 i off).toNat + (eth h i).preq.toNat * 2)
  else none

/-- What a read of the NSC page finds in a register whose bits are not all stored. -/
def nscVal (h : Hw) (off : Nat) : Option Nat :=
  if off = 0x040 then some (nscStatus h)
  else if off = 0x048 then some (need h)
  else if off = 0x064 then some ((rd h 0x23 0 off).toNat + fsLeft h * 0x100)
  else none

/-- What a read of the KEY page finds in a register whose bits are not all stored. -/
def keyVal (h : Hw) (off : Nat) : Option Nat :=
  if off = 0x050 then some (evlRd h)
  else if 0x080 ≤ off ∧ off < 0x0B0 then arr (coreStat h) off 0x080
  else if 0x800 ≤ off ∧ off < 0x880 then arr (evlLvl h) off 0x800
  else if 0x900 ≤ off ∧ off < 0xD00 then arr (ctxStat h) off 0x900
  else none

/-- What a read of a DMA page finds in a register whose bits are not all stored. -/
def dmaVal (h : Hw) (i : Nat) (off : Nat) : Option Nat :=
  if off = 0x044 then some (dmaStatus h i) else none

/-- What a read of the MSG page finds in a register whose bits are not all stored. -/
def msgVal (h : Hw) (off : Nat) : Option Nat :=
  if off = 0x040 then some (msgStatus h)
  else if off = 0x05C then some (pqInfo h)
  else if 0x800 ≤ off ∧ off < 0x900 then some ((rd h 0x32 0 off).toNat + fill h ((off - 0x800) / 4))
  else none

/-- What a read of the ACC page finds in a register whose bits are not all stored. -/
def accVal (h : Hw) (off : Nat) : Option Nat :=
  if off = 0x040 then some (accStatus h)
  else if off = 0x068 then some (learnStat h)
  else if off = 0x070 then some (immoStat h)
  else if off = 0x078 then some h.acc.lctr
  else if 0x080 ≤ off ∧ off < 0x0A0 then arr (fun k => (slot h k).tid) off 0x080
  else if 0x0A0 ≤ off ∧ off < 0x0C0 then arr (slotInfo h) off 0x0A0
  else none

/-- What a read of the CRY page finds in a register whose bits are not all stored. -/
def cryVal (m : Mach) (off : Nat) : Option Nat :=
  let h := m.hw
  if off = 0x044 then some (cryStatus h)
  else if off = 0x058 then some (minVer m.mem)
  else if off = 0x05C then some (keyInfo m.mem)
  else none

/-- What a read of the BOND page finds in a register whose bits are not all stored. -/
def bondVal (h : Hw) (off : Nat) : Option Nat :=
  if off = 0x040 then some (bondStatus h)
  else if off = 0x044 then some (h.bond.heard.length)
  else if off = 0x080 then some (rqStat h)
  else none

/-- The value of a register whose bits are not all stored; none where they are. -/
def pageVal (m : Mach) (ty i off : Nat) : Option Nat :=
  let h := m.hw
  if off = oTYPE then some (i * 0x100 + ty)
  else if off = oPWR then some (match pageDomain ty i with | some d => pgPwr h d | none => 0)
  else if ty = 0x01 then sysVal h off
  else if ty = 0x02 then pwrVal h off
  else if ty = 0x03 then clkVal h off
  else if ty = 0x10 then hswVal h i off
  else if ty = 0x11 then hbrVal h i off
  else if ty = 0x12 then solVal h i off
  else if ty = 0x13 then swiVal h i off
  else if ty = 0x14 then measVal h i off
  else if ty = 0x20 then canVal h i off
  else if ty = 0x21 then linVal h i off
  else if ty = 0x22 then ethVal h i off
  else if ty = 0x23 then nscVal h off
  else if ty = 0x30 then keyVal h off
  else if ty = 0x31 then dmaVal h i off
  else if ty = 0x32 then msgVal h off
  else if ty = 0x40 then accVal h off
  else if ty = 0x41 then cryVal m off
  else if ty = 0x50 then bondVal h off
  else none

/-- A 32-bit read that reached page (`ty`, `i`): its value, and the effect of the read: RC bits clear (R5), TAKE claims a page
(R316), an unassigned offset sets UNMAPPED (R36). A read of EV_RAW or EV_STAT finds the level sources as they stand (R42). -/
def pageRead (ini : Initiator) (ty i off : Nat) (m : Mach) : Nat × Mach :=
  match findReg ty i off with
  | none => (0, m.onHw (fun h => err h ty i 0))
  | some r =>
    if ty = 0x32 ∧ off = 0x044 then
      let (v, h1) := takePage ini m.hw
      (v, { m with hw := h1 })
    else if off = oRAW ∨ off = oSTAT then
      let h := relevel ty i m.hw
      ((rd h ty i off).toNat, { m with hw := h })
    else
      let v := (pageVal m ty i off).getD (rd m.hw ty i off).toNat
      (v, if r.rc = 0 then m else m.onHw (fun h => relevel ty i (wr h ty i off (rd h ty i off &&& ~~~r.rc))))

/-! ## Bus errors (R31, R32) and waiting (R39, R482) -/

/-- The kind of bus error an access of `n` bytes at `a` ends in (R32), none for none. -/
def busKind (a n : Nat) (isWr : Bool) : Option Nat :=
  let page := decide (0x40000000 ≤ a ∧ a < 0x50000000)
  if !page && (addrDomain a).isNone then some 0
  else if page && (pageDomain (pgType a) (pgInst a)).isNone then some 1
  else if a % n ≠ 0 then some 2
  else if isWr && decide (a < 0x01000000) then some 3
  else none

/-- The near memory of the initiating core, which needs no fabric (R228, R229). -/
def ownNear (ini : Initiator) (a : Nat) : Bool := match ini with | .core c => isNear c.val a | _ => false

/-- The domain of the target takes the access (R39, R482). -/
def targetOpen (h : Hw) (a : Nat) : Bool :=
  if 0x40000000 ≤ a then
    decide (pgOff a / 4 * 4 = oTYPE ∨ pgOff a / 4 * 4 = oPWR) ||
      (match pageDomain (pgType a) (pgInst a) with | some d => domOpen h d | none => true)
  else (match addrDomain a with | some d => decide (d = 0) || domOpen h d | none => true)

/-- The access finds its way open: near memory by its own core, else PD18 and the domain of the target (R39, R482, R646). -/
def accessOpen (h : Hw) (ini : Initiator) (a : Nat) : Bool := ownNear ini a || (domOpen h 18 && targetOpen h a)

/-- The first words of each 32 bits that an access of `n` bytes at `a` is split into (R33). -/
def splitWords (a n : Nat) : List Nat := if n ≤ 4 then [a] else (List.range (n / 4)).map (fun k => a + 4 * k)

/-- A 64-bit write finds its first word, PG_PWR, open and its second word not (R33, R39). -/
def pwrAhead (h : Hw) (ini : Initiator) (a n : Nat) : Bool :=
  decide (n = 8 ∧ 0x40000000 ≤ a) && accessOpen h ini a && !accessOpen h ini (a + 4)

/-- An access waits at the edge of a domain, behind those that arrived before it (R35, R482). -/
def waitAt (e : Hung) (h : Hw) : Hw := arrive e.ini { h with hung := h.hung ++ [e] }

/-- How an access ended. -/
inductive BusOut where
  | ok (data : Nat) (m : Mach)
  | error (m : Mach)
  | hang

/-- Read `k` words of a page in ascending order. -/
def pageReads (ini : Initiator) (a : Nat) : Nat → Mach → Nat × Mach
  | 0, m => (0, m)
  | k + 1, m =>
    let p := pageRead ini (pgType a) (pgInst a) (pgOff a) m
    let q := pageReads ini (a + 4) k p.2
    (p.1 + 2 ^ 32 * q.1, q.2)

/-- Write `k` words of a page in ascending order. -/
def pageWrites (ini : Initiator) (a : Nat) : Nat → Nat → Mach → Mach
  | 0, _, m => m
  | k + 1, v, m =>
    pageWrites ini (a + 4) k (v / 2 ^ 32) (pageWrite ini (pgType a) (pgInst a) (pgOff a) (BitVec.ofNat 32 v) m)

/-- A read of `n` bytes at `a` (R29, R31, R33). -/
def busRead (ini : Initiator) (a n : Nat) (m : Mach) : BusOut :=
  if !ownNear ini a && !domOpen m.hw 18 then .hang
  else match busKind a n false with
  | some k => .error (m.onHw (fun h => busErr h ini a false k))
  | none =>
    if (splitWords a n).all (fun b => accessOpen m.hw ini b) then
      if a < 0x40000000 then .ok (rdMem m.mem a n) m
      else if n < 4 then
        let p := pageRead ini (pgType a) (pgInst a) (pgOff a / 4 * 4) m
        .ok (p.1 / 2 ^ (8 * (a % 4)) % 2 ^ (8 * n)) p.2
      else
        let p := pageReads ini a (n / 4) m
        .ok p.1 p.2
    else .hang

/-- A write of `n` bytes at `a` (R29, R31, R33): a page ignores a narrower write and sets WIDTH. A 64-bit write whose second word waits has
its first word done (R33). -/
def busWrite (ini : Initiator) (a n v : Nat) (m : Mach) : BusOut :=
  if !ownNear ini a && !domOpen m.hw 18 then .hang
  else match busKind a n true with
  | some k => .error (m.onHw (fun h => busErr h ini a true k))
  | none =>
    if (splitWords a n).all (fun b => accessOpen m.hw ini b) then
      if a < 0x40000000 then .ok 0 (store a n v m)
      else if n < 4 then
        .ok 0 (m.onHw (fun h =>
          let h1 := if (findReg (pgType a) (pgInst a) (pgOff a / 4 * 4)).isNone then err h (pgType a) (pgInst a) 0 else h
          err h1 (pgType a) (pgInst a) 1))
      else .ok 0 (pageWrites ini a (n / 4) v m)
    else if pwrAhead m.hw ini a n then
      .ok 0 ((pageWrite ini (pgType a) (pgInst a) (pgOff a) (BitVec.ofNat 32 v) m).onHw (waitAt ⟨ini, a + 4, 4, true, v / 2 ^ 32⟩))
    else .hang

end Sys2Proof.Machine
end

