-- ==== Sys2Proof/Machine/DmaRun.lean ====
section
/-!
DEFINITION. What a DMA channel does on the bus (chapter 11): the descriptor read, units and their 16-byte accesses, retries, and the
end of a hang.
-/
namespace Sys2Proof.Machine

/-- The initiator of channel `n`. -/
def dmaIni (n : Nat) : Initiator := .dma (Fin.ofNat 64 n)

/-- An access of channel `n` hangs (R347). -/
def dmaHang (n : Nat) (m : Mach) : Mach :=
  m.onHw (fun h => arrive (dmaIni n) (setDma h n { dma h n with hung := true }))

/-- An access of channel `n` at `a` ended in a bus error (R337). -/
def dmaFail (n a : Nat) (h : Hw) : Hw :=
  let r := dma h n
  match r.retry with
  | none => if dmaCfg h n 8 3 = 0 then dmaHalt n 3 a h else setDma h n { r with retry := some (dmaCfg h n 8 3) }
  | some k => if k ≤ 1 then dmaHalt n 3 a h else setDma h n { r with retry := some (k - 1) }

/-- The descriptor read at `cur` is checked and begun (R336): the rows in their order, the region last. -/
def dmaDescCheck (n cur : Nat) (d : Nat × Nat) (h : Hw) : Hw :=
  let c := dmaCheck h n d
  let c1 := if c = 0 ∧ 0x40000000 ≤ cur ∧ cur < 0x50000000 then 4 else c
  if c1 = 0 then dmaDescGo n d h else dmaHalt n c1 cur (setDma h n { dma h n with hold := none, retry := none })

/-- The second quadword of the descriptor is read (R335). -/
def dmaDescRead2 (n cur q0 : Nat) (m : Mach) : Mach :=
  match busRead (dmaIni n) (cur + 16) 16 m with
  | .hang => dmaHang n m
  | .error m1 => m1.onHw (dmaFail n (cur + 16))
  | .ok q1 m1 => m1.onHw (dmaDescCheck n cur (q0, q1))

/-- All 32 bytes of the descriptor are read in one indivisible access (R335). -/
def dmaDescWhole (n cur : Nat) (m : Mach) : Mach :=
  if !domOpen m.hw 18 then dmaHang n m
  else match (busKind cur 16 false).orElse (fun _ => busKind (cur + 16) 16 false) with
  | some k => m.onHw (fun h => dmaFail n cur (busErr h (dmaIni n) cur false k))
  | none =>
    if accessOpen m.hw (dmaIni n) cur && accessOpen m.hw (dmaIni n) (cur + 16) then
      m.onHw (dmaDescCheck n cur (rdMem m.mem cur 16, rdMem m.mem (cur + 16) 16))
    else dmaHang n m

/-- The memories in which a descriptor is read whole: shared SRAM, the message store, Plinth SRAM (R335). -/
def wholeMem (a : Nat) : Bool :=
  decide (0x20000000 ≤ a ∧ a < 0x20200000) || decide (0x21000000 ≤ a ∧ a < 0x21100000) || decide (0x22000000 ≤ a ∧ a < 0x22040000)

/-- The descriptor at CUR is read (R335, R336). -/
def dmaDescRead (n : Nat) (m : Mach) : Mach :=
  let cur := dmaReg m.hw n 0x4C
  if cur % 16 ≠ 0 then m.onHw (dmaHalt n 1 cur)
  else if wholeMem cur then dmaDescWhole n cur m
  else match (dma m.hw n).hold with
  | some q0 => dmaDescRead2 n cur q0 m
  | none =>
    match busRead (dmaIni n) cur 16 m with
    | .hang => dmaHang n m
    | .error m1 => m1.onHw (dmaFail n cur)
    | .ok q0 m1 => dmaDescRead2 n cur q0 (m1.onHw (fun h => setDma h n { dma h n with hold := some q0, retry := none }))

/-- The write of one access is accepted: the addresses advance unless SFIX or DFIX holds them, LEFT and the unit shrink (R331, R340). -/
def dmaAdvance (n : Nat) (h : Hw) : Hw :=
  let r := dma h n
  let d := (r.desc.getD (0, 0)).2
  let ty := dmaType r
  let h1 := if ty ≠ 2 ∧ d.testBit 3 = true then h else setDmaReg h n 0x50 (dmaReg h n 0x50 + 16)
  let h2 := if ty ≠ 1 ∧ d.testBit 4 = true then h1 else setDmaReg h1 n 0x54 (dmaReg h1 n 0x54 + 16)
  setDma (setDmaReg h2 n 0x58 (dmaReg h2 n 0x58 - 16)) n { dma h2 n with hold := none, retry := none, unit := r.unit - 16 }

/-- One 16-byte access of the unit in progress: the read, or the write of what was read. True when it completed. -/
def dmaOne (n : Nat) (m : Mach) : Bool × Mach :=
  match (dma m.hw n).hold with
  | none =>
    let a := dmaReg m.hw n 0x50
    match busRead (dmaIni n) a 16 m with
    | .hang => (false, dmaHang n m)
    | .error m1 => (false, m1.onHw (dmaFail n a))
    | .ok v m1 => (true, m1.onHw (fun h => setDma h n { dma h n with hold := some v, retry := none }))
  | some v =>
    let a := dmaReg m.hw n 0x54
    match busWrite (dmaIni n) a 16 v m with
    | .hang => (false, dmaHang n m)
    | .error m1 => (false, m1.onHw (dmaFail n a))
    | .ok _ m1 => (true, m1.onHw (dmaAdvance n))

/-- The accesses of the unit in progress, up to the first that does not complete. -/
def dmaGo (n : Nat) : Nat → Mach → Mach
  | 0, m => m
  | k + 1, m =>
    if (dma m.hw n).unit = 0 then m
    else
      let (ok, m1) := dmaOne n m
      if ok then dmaGo n k m1 else m1

/-- A FILL claim fails (R333): the pages go back, the drop is counted, the descriptor counts as complete. -/
def dmaDrop (n : Nat) (h : Hw) : Hw :=
  let q := dmaDq (dma h n)
  let h1 := dropFrame q (dmaRelease n h)
  dmaDescDone n (pulse (incSat h1 0x31 n 0x60 0 16 1) 0x31 n 3)

/-- A unit begins (R332): the page of a FILL is claimed, the chain of a DRAIN taken, the chain of a MOVE moved. -/
def dmaBegin (n : Nat) (h : Hw) : Hw :=
  let r := dma h n
  let left := dmaReg h n 0x58
  match dmaType r with
  | 0 => setDma h n { r with unit := min 256 left }
  | 1 =>
    match claimN (.dma n) (dmaDq r) false 1 0 h with
    | none => dmaDrop n h
    | some (l, h1) =>
      let h2 := setDmaReg (msgLevels h1) n 0x54 (pageAddr (l.headD 0))
      setDma h2 n { r with pages := r.pages ++ l, unit := min 256 left }
  | 2 =>
    match r.pages with
    | p :: _ => setDma (setDmaReg h n 0x50 (pageAddr p)) n { r with unit := 256 }
    | [] =>
      match queue h (dmaSq r) with
      | [] => h
      | i :: rest =>
        let l := chainOf h i.page
        if left < 256 * l.length then dmaDescDone n h
        else
          let h1 := moveChain i.page (.dma n) (setQueue h (dmaSq r) rest)
          setDma (setDmaReg h1 n 0x50 (pageAddr i.page)) n { r with pages := l, item := some i, unit := 256 }
  | _ =>
    match queue h (dmaSq r) with
    | [] => h
    | i :: rest =>
      let h1 := queueFed (dmaDq r) (joinQueue (dmaDq r) i.page 256 0 (setQueue h (dmaSq r) rest))
      let h2 := setDmaReg h1 n 0x58 (left - 1)
      if left ≤ 1 then dmaDescDone n h2 else dmaPoll n h2

/-- A unit of COPY, FILL or DRAIN completes (R332, R340). -/
def dmaEnd (n : Nat) (h : Hw) : Hw :=
  let r := dma h n
  let left := dmaReg h n 0x58
  match dmaType r with
  | 0 => if left = 0 then dmaDescDone n h else dmaPoll n h
  | 1 =>
    if left = 0 then
      let h1 := queueFed (dmaDq r) (joinQueue (dmaDq r) (r.pages.headD 0) 256 0 (linkPages r.pages h))
      dmaDescDone n (setDma h1 n { dma h1 n with pages := [] })
    else dmaPoll n h
  | _ =>
    match r.pages with
    | [] => h
    | p :: l =>
      let h1 := msgLevels (setPage h p {})
      if l.isEmpty then
        let h2 := setDma h1 n { r with pages := [], item := none, cnt := r.cnt - 1 }
        if r.cnt ≤ 1 ∨ left = 0 then dmaDescDone n h2 else dmaPoll n h2
      else dmaPoll n (setDma h1 n { r with pages := l })

/-- The channel may act: RUN or WAIT, no hang, no repetition awaited, PD18 ON (R347, R348). -/
def dmaLive (h : Hw) (n : Nat) : Bool :=
  let r := dma h n
  domOn h 18 && (decide (r.st = .run) || decide (r.st = .wait)) && !r.hung && decide (r.retry = none)

/-- The unit in progress runs on and completes where no access fails. -/
def dmaRunUnit (n : Nat) (m : Mach) : Mach :=
  if (dma m.hw n).unit = 0 then m
  else
    let m1 := dmaGo n 64 m
    if (dma m1.hw n).unit = 0 then m1.onHw (dmaEnd n) else m1

/-- Channel `n` waits for the fabric between units, with a unit that nothing else holds up (R342). -/
def dmaReady (h : Hw) (n : Nat) : Bool :=
  let r := dma h n
  dmaLive h n && r.desc.isSome && decide (r.unit = 0) && !dmaWaits h n r

/-- How far channel `n` stands behind the last one granted at its PRIO, in rotation (R342). -/
def turn (h : Hw) (p n : Nat) : Nat := (n + 63 - smGet 63 h.dmaTurn p) % 64

/-- The fabric grants channel `n` the next unit: the highest PRIO among the channels that wait, in rotation among equals (R342). -/
def dmaGranted (h : Hw) (n : Nat) : Bool :=
  let p := dmaCfg h n 4 2
  (List.range 64).all (fun k => decide (k = n) || !dmaReady h k ||
    (let q := dmaCfg h k 4 2; decide (q < p) || (decide (q = p) && decide (turn h p n < turn h p k))))

/-- DMA_UNIT: a unit begins, where nothing makes it wait and the fabric grants it, and runs (R332, R339, R342); a queue action while PD17
is not open hangs. -/
def dmaUnit (n : Nat) (m : Mach) : Mach :=
  let r := dma m.hw n
  if dmaLive m.hw n && r.desc.isSome then
    if r.unit ≠ 0 then dmaRunUnit n m
    else if dmaType r ≠ 0 && !domOpen m.hw 17 then dmaHang n m
    else if dmaWaits m.hw n r then m.onHw (dmaPoll n)
    else if dmaGranted m.hw n then
      dmaRunUnit n (m.onHw (fun h =>
        dmaBegin n (setDma { h with dmaTurn := smPut 63 (dmaCfg h n 4 2) n h.dmaTurn } n { r with st := .run })))
    else m
  else m

/-- DESCRIPTOR_START. -/
def dmaDescStart (n : Nat) (m : Mach) : Mach :=
  if dmaLive m.hw n && (dma m.hw n).desc.isNone then dmaDescRead n m else m

/-- The access that did not complete is done again: after t_RTY (R337), or when the domain it hung on is ON (R347). -/
def dmaAgain (n : Nat) (m : Mach) : Mach :=
  if (dma m.hw n).desc.isNone then dmaDescRead n m
  else if (dma m.hw n).unit = 0 then m
  else
    let m1 := (dmaOne n m).2
    if (dma m1.hw n).unit = 0 then m1.onHw (dmaEnd n) else m1

/-- DMA_RETRY. -/
def dmaRetry (n : Nat) (m : Mach) : Mach :=
  let r := dma m.hw n
  if domOn m.hw 18 && decide (r.st = .run) && !r.hung && r.retry.isSome then dmaAgain n m else m

/-- A domain is ON again: a hung channel's access completes, and an ABORT and START that waited take effect (R347). -/
def dmaUnhang (n : Nat) (m : Mach) : Mach :=
  let r := dma m.hw n
  if r.hung then
    let m1 := dmaAgain n (m.onHw (fun h => setDma h n { r with hung := false }))
    if (dma m1.hw n).hung then m1
    else if r.abort then m1.onHw (fun h => if r.restart then dmaStart n (dmaIdle n h) else dmaIdle n h)
    else m1
  else m

end Sys2Proof.Machine
end

