-- ==== Sys2Proof/Machine/Isa.lean ====
section
/-!
DEFINITION. The encoding rules and the arithmetic of the Olkor opcodes (chapter 09): which sizes, counts and specifiers an opcode
accepts, the sizes of its operands, and what it computes from its sources.
-/
namespace Sys2Proof.Machine

/-- The SIZE codes an opcode accepts (R266). -/
def opSizes : Op → List Nat
  | .nop | .trap | .eret | .done => [0]
  | .crd | .cwr | .rep | .repi | .br | .jmp | .call | .tas | .probe => [2]
  | .frn => [3]
  | .lr | .sc => [4]
  | .movz | .movs | .vmulu | .vmuls | .vmacu | .vmacs | .vadd | .vsub | .vadds | .vsubs | .vaddus | .vsubus | .vmin | .vmax
  | .vminu | .vmaxu | .vceq | .vcgt | .vcgtu | .vshl | .vshr | .vsar => [0, 1, 2, 3]
  | _ => [0, 1, 2, 3, 4]

/-- The counts of specifiers an opcode accepts (R266). -/
def opCnts : Op → List Nat
  | .nop | .eret | .done => [0]
  | .trap | .rep | .repi | .br | .jmp => [1]
  | .crd | .cwr | .call | .frn | .neg | .cmp | .mov | .movz | .movs | .not | .tst | .tas | .lr | .sc => [2]
  | .movp => [2, 3]
  | _ => [3]

/-- The lane opcodes 0x80 … 0x93 (R234). -/
def isLane : Op → Bool
  | .vmulu | .vmuls | .vmacu | .vmacs | .vadd | .vsub | .vadds | .vsubs | .vaddus | .vsubus | .vmin | .vmax | .vminu | .vmaxu
  | .vceq | .vcgt | .vcgtu | .vshl | .vshr | .vsar => true
  | _ => false

/-- The multiply opcodes, whose first specifier names a product register (R279). -/
def isMul : Op → Bool
  | .mulu | .muls | .macu | .macs | .vmulu | .vmuls | .vmacu | .vmacs => true
  | _ => false

/-- The opcodes that may be a repeat body: 0x10 … 0x44, 0x60 and 0x80 … 0x93 (R277). -/
def isBody : Op → Bool
  | .nop | .trap | .eret | .done | .crd | .cwr | .rep | .repi | .br | .jmp | .call | .frn | .tas | .lr | .sc => false
  | _ => true

/-- The supervisor-only opcodes (R255, R271). -/
def isPriv : Op → Bool
  | .eret | .crd | .cwr => true
  | _ => false

/-- The atomic opcodes (R283). -/
def isAtomic : Op → Bool
  | .tas | .lr | .sc => true
  | _ => false

/-- Specifier 1 names a destination that the instruction writes with its result (R237). -/
def hasDst : Op → Bool
  | .nop | .trap | .eret | .done | .cwr | .rep | .repi | .br | .jmp | .cmp | .tst | .sc => false
  | o => !isMul o

/-- The size in bytes of the operand that specifier `k` (from 0) names (R233, R234, R271, R285). -/
def specSize (o : Op) (size k : Nat) : Nat :=
  if isLane o then 16
  else match o, k with
  | .movz, 0 => 16
  | .movs, 0 => 16
  | .probe, 1 => 16
  | _, _ => 2 ^ size

/-- The largest value of a specifier that must be a short immediate (R267). -/
def immRule (o : Op) (k : Nat) : Option Nat :=
  if isMul o then (if k = 0 then some 3 else none)
  else match o, k with
  | .trap, 0 => some 2047
  | .crd, 1 => some 255
  | .cwr, 0 => some 255
  | .rep, 0 => some 16
  | .frn, 1 => some 1
  | .movp, 1 => some 15
  | _, _ => none

/-- Specifier `k` of an opcode obeys R236, R267, R276, R283 and R285. -/
def specLegal (o : Op) (size k : Nat) (s : Spec) : Bool :=
  let n := if isImm s then 2 ^ size else specSize o size k
  specOk n (decide (k = 0) && hasDst o) s &&
    (match immRule o k with | some hi => immIn hi s | none => true) &&
    (match o, k with
     | .tas, 1 => isMem s
     | .lr, 1 => isMem s
     | .sc, 0 => isMem s
     | .probe, 1 => isAnyMem s
     | .repi, 0 => (match s with | .direct _ _ => true | _ => false)
     | _, _ => true)

/-- Every specifier is legal, from specifier `k` on. -/
def specsLegal (o : Op) (size : Nat) : Nat → List Spec → Bool
  | _, [] => true
  | k, s :: r => specLegal o size k s && specsLegal o size (k + 1) r

/-- The instruction breaks an encoding rule of R236, R266, R267 or R281; DONE is illegal in supervisor mode (R274). -/
def isIllegal (i : CoreInstr) (sup : Bool) : Bool :=
  let size := i.hd.size.val
  !(opSizes i.op).contains size || !(opCnts i.op).contains i.specs.length || !specsLegal i.op size 0 i.specs ||
    (decide (i.op = .done) && sup) ||
    (match i.op, i.specs with
     | .movp, _ :: sel :: _ => (immNat sel).testBit 2 && decide (size ≠ 4)
     | _, _ => false)

/-- The repeat state and RPT disagree, or the body is no opcode of R277 (R241, R277). -/
def rptBad (i : CoreInstr) (rep : Option Rep) : Bool :=
  match rep with
  | some _ => !i.hd.rpt || !isBody i.op
  | none => i.hd.rpt

/-- What an instruction does with its sources: the value for its destination, its flags, a product, a branch target, a fault. -/
structure Eff where
  val : Option Nat := none
  flags : Option Flags := none
  prod : Option (Nat × Nat) := none
  target : Option Nat := none
  fault : Bool := false
  deriving DecidableEq, Repr

/-- The effect of an arithmetic result. -/
def ofAlu (a : AluOut) : Eff := { val := a.val, flags := a.flags }

/-- The effect of a division: the arithmetic fault of R272 for `b = 0`. -/
def ofDiv (b : Nat) (a : AluOut) : Eff := if b = 0 then { fault := true } else ofAlu a

/-- Apply a signed lane function. -/
def sLanes (s : Nat) (f : Int → Int → Nat) (a b : Nat) : Eff := ofAlu (lanes2 s (fun x y => f (sgn s x) (sgn s y)) a b)

/-- A control register as CRD reads it (R258). -/
def ctlRead (c : Nat) (r : Olk) (k : Nat) : Nat :=
  match k with
  | 0 => c
  | 1 => r.pie.toNat * 32 + r.pmode.toNat * 16 + r.exl.toNat * 4 + r.ie.toNat * 2 + r.sup.toNat
  | 2 => r.vbase.toNat
  | 3 => r.swslot
  | 4 => r.wslot
  | 5 => r.epc.toNat / 2 * 2
  | 6 => r.ecause.toNat
  | 7 => r.eaddr.toNat
  | 8 => r.eflags.n.toNat * 8 + r.eflags.z.toNat * 4 + r.eflags.v.toNat * 2 + r.eflags.c.toNat
  | _ => 0

/-- A write of a control register by CWR (R258, R274). -/
def ctlWrite (r : Olk) (k : Nat) (w : Word) : Olk :=
  match k with
  | 1 => { r with pie := bit w 5, pmode := bit w 4, exl := bit w 2, ie := bit w 1 }
  | 2 => { r with vbase := w &&& 0xFFFFF000 }
  | 3 => { r with swslot := fld w 0 8 }
  | 4 => { r with wslot := fld w 0 8 }
  | 5 => { r with epc := w &&& 0xFFFFFFFE }
  | 8 => { r with eflags := ⟨bit w 3, bit w 2, bit w 1, bit w 0⟩ }
  | _ => r

/-- The scalar opcodes with two sources (R271, R272). -/
def scalar2 (o : Op) (w a b cin : Nat) : Eff :=
  let k := b % 256
  match o with
  | .add => ofAlu (addFl w a b 0)
  | .addc => ofAlu (addFl w a b cin)
  | .sub => ofAlu (subFl w a b 0)
  | .subb => ofAlu (subFl w a b cin)
  | .cmp => { flags := (subFl w a b 0).flags }
  | .divu => ofDiv b (logic w (a / b))
  | .divs => ofDiv b (divs w a b)
  | .remu => ofDiv b (logic w (a % b))
  | .rems => ofDiv b (rems w a b)
  | .and => ofAlu (logic w (Nat.land a b))
  | .or => ofAlu (logic w (Nat.lor a b))
  | .xor => ofAlu (logic w (Nat.xor a b))
  | .andn => ofAlu (logic w (Nat.land a (2 ^ w - 1 - b)))
  | .tst => { flags := (logic w (Nat.land a b)).flags }
  | .shl => ofAlu (shiftOut w (shl w a k))
  | .shr => ofAlu (shiftOut w (shr w a k))
  | .sar => ofAlu (shiftOut w (sar w a k))
  | .rol => ofAlu (shiftOut w (rol w a k))
  | _ => {}

/-- The lane opcodes with a destination (R282). -/
def laneOp (o : Op) (s a b : Nat) : Eff :=
  match o with
  | .vadd => ofAlu (lanes2 s (fun x y => x + y) a b)
  | .vsub => ofAlu (lanes2 s (fun x y => x + 2 ^ s - y) a b)
  | .vadds => sLanes s (fun x y => satS s (x + y)) a b
  | .vsubs => sLanes s (fun x y => satS s (x - y)) a b
  | .vaddus => ofAlu (lanes2 s (fun x y => min (2 ^ s - 1) (x + y)) a b)
  | .vsubus => ofAlu (lanes2 s (fun x y => x - y) a b)
  | .vmin => sLanes s (fun x y => pat s (min x y)) a b
  | .vmax => sLanes s (fun x y => pat s (max x y)) a b
  | .vminu => ofAlu (lanes2 s min a b)
  | .vmaxu => ofAlu (lanes2 s max a b)
  | .vceq => ofAlu (laneCmp s (fun x y => decide (x = y)) a b)
  | .vcgt => ofAlu (laneCmp s (fun x y => decide (sgn s y < sgn s x)) a b)
  | .vcgtu => ofAlu (laneCmp s (fun x y => decide (y < x)) a b)
  | .vshl => ofAlu (lanes2 s (fun x y => (shl s x (y % 256)).1) a b)
  | .vshr => ofAlu (lanes2 s (fun x y => (shr s x (y % 256)).1) a b)
  | .vsar => ofAlu (lanes2 s (fun x y => (sar s x (y % 256)).1) a b)
  | _ => {}

/-- The product that a multiply opcode writes, from the latest product `acc` (R252, R279, R280). -/
def mulOp (o : Op) (w acc a b : Nat) : Nat :=
  match o with
  | .mulu => macOne w false 0 a b
  | .muls => macOne w true 0 a b
  | .macu => macOne w false acc a b
  | .macs => macOne w true acc a b
  | .vmulu => laneMac w false 0 a b
  | .vmuls => laneMac w true 0 a b
  | .vmacu => laneMac w false acc a b
  | _ => laneMac w true acc a b

/-- What an instruction of core `c` at `pc` computes from its source values `xs`, in specifier order; `rel` is the frame that FRN
with selector 0 gives (R289), `frame` the live one. -/
def opEff (i : CoreInstr) (r : Olk) (c len rel frame : Nat) (xs : List Nat) : Eff :=
  let size := i.hd.size.val
  let w := 8 * 2 ^ size
  let a := xs.getD 0 0
  let b := xs.getD 1 0
  let next := (r.pc.toNat + len) % 4294967296
  match i.op with
  | .crd => { val := some (ctlRead c r a) }
  | .br => { target := some ((r.pc.toNat + a) % 4294967296) }
  | .jmp => { target := some a }
  | .call => { val := some next, target := some a }
  | .frn => { val := some (if a = 0 then rel else frame) }
  | .neg => ofAlu (subFl w 0 a 0)
  | .mov => { val := some a }
  | .movz => { val := some a }
  | .movs => { val := some (pat 128 (sgn w a)) }
  | .not => ofAlu (logic w (2 ^ w - 1 - a))
  | .movp => ofAlu (movp w a (prodRead r (a % 4)).toNat (b % 256))
  | o =>
    if isMul o then { prod := some (a, mulOp o w (prodLast r a).toNat b (xs.getD 2 0)) }
    else if isLane o then laneOp o w a b
    else scalar2 o w a b r.flags.c.toNat

end Sys2Proof.Machine
end

