-- ==== Sys2Proof/Machine/Exec.lean ====
section
/-!
DEFINITION. One instruction of an Olkor core (chapters 08 and 09): the fetch, the faults in the order of R261, the source reads, the
pointer changes, the destination write, what lands later, repeats, and the entries.
-/
namespace Sys2Proof.Machine

/-- The initiator may issue an access: it hangs on none, and a core issues instructions (R482). -/
def iniLive (h : Hw) (ini : Initiator) : Bool :=
  !h.hung.any (fun e => decide (e.ini = ini)) && (match ini with | .core c => coreRuns h c.val | _ => true)

/-! ## Grants (R255, R256, R295) -/

/-- A right of a task: read, write, fetch. -/
inductive Right where
  | rd | wr | ex
  deriving DecidableEq, Repr

/-- A grant gives a right at an address (R291). -/
def grantGives (g : Grant) (a : Nat) (x : Right) : Bool :=
  decide (g.k ≠ 0 ∧ g.base ≤ a ∧ a < g.base + 2 ^ g.k) && (match x with | .rd => g.rd | .wr => g.wr | .ex => g.ex)

/-- The task on core `c` has the right at an address: its own window, its context's grants, and, for reads and writes, the pages its
context owns (R295); supervisor mode has every right. -/
def mayAccess (h : Hw) (c : Nat) (a : Nat) (x : Right) : Bool :=
  let r := olk h c
  let data := decide (x ≠ .ex)
  r.sup || decide (winBase c r ≤ a ∧ a < winBase c r + 0x400) ||
    (match r.ctx with
     | some n =>
       (ctx h n).grants.any (fun g => grantGives g a x) ||
         (data && decide (0x21000000 ≤ a ∧ a < 0x21100000) && decide ((apage h ((a - 0x21000000) / 256)).own = .ctx n))
     | none => false)

/-! ## Operands and their faults (R230, R256, R261, R283) -/

/-- One access of an instruction: the specifier (from 1), address, width, direction. -/
structure Acs where
  k : Nat
  a : Nat
  n : Nat
  wr : Bool
  deriving DecidableEq, Repr

/-- The accesses that the specifiers of an instruction name, in specifier order. -/
def acsFrom (i : CoreInstr) (m : Mem) (win : Nat) : Nat → List Spec → List Acs
  | _, [] => []
  | k, s :: r =>
    let n := specSize i.op i.hd.size.val k
    let own : List Acs := match opAddr m win n s with
      | none => []
      | some a =>
        match i.op, k with
        | .tas, 1 => [⟨2, a, n, false⟩, ⟨2, a, n, true⟩]
        | .sc, 0 => [⟨1, a, n, true⟩]
        | .repi, _ => []
        | o, _ => [⟨k + 1, a, n, decide (k = 0) && hasDst o⟩]
    own ++ acsFrom i m win (k + 1) r

/-- A fault of an instruction: cause, specifier, direction, address, and the bus error it records. -/
structure Flt where
  cause : Nat
  k : Nat
  wr : Bool
  a : Nat
  kind : Option Nat
  early : Bool
  deriving DecidableEq, Repr

/-- The memories that an atomic may address (R283). -/
def atomicMem (a : Nat) : Bool :=
  decide (0x20000000 ≤ a ∧ a < 0x20200000) || decide (0x21000000 ≤ a ∧ a < 0x21100000) || decide (0x22000000 ≤ a ∧ a < 0x22040000)

/-- The first fault of one access: misalignment, the region of an atomic, a missing right, a bus error (R261, R283). -/
def acsFault (h : Hw) (c : Nat) (atomic : Bool) (x : Acs) : Option Flt :=
  if x.a % x.n ≠ 0 then some ⟨4, x.k, x.wr, x.a, busKind x.a x.n x.wr, true⟩
  else if atomic && !atomicMem x.a then some ⟨4, x.k, x.wr, x.a, none, true⟩
  else if !mayAccess h c x.a (if x.wr then .wr else .rd) then some ⟨3, x.k, x.wr, x.a, none, true⟩
  else match busKind x.a x.n x.wr with
  | some kd => some ⟨4, x.k, x.wr, x.a, some kd, false⟩
  | none => none

/-- The specifier that an atomic's memory operand is (R283), from 1. -/
def atomicSpec (o : Op) : Nat := match o with | .sc => 1 | .tas => 2 | .lr => 2 | _ => 0

/-- The faults of an instruction's accesses, in specifier order. -/
def acsFaults (i : CoreInstr) (h : Hw) (c : Nat) (l : List Acs) : List Flt :=
  l.filterMap (fun x => acsFault h c (isAtomic i.op && decide (x.k = atomicSpec i.op)) x)

/-- Take a fault: its bus error is recorded (R32), and the core enters or halts (R259, R263). -/
def takeFault (c : Nat) (f : Flt) (m : Mach) : Mach :=
  let m1 := match f.kind with
    | some kd => m.onHw (fun h => busErr h (.core (Fin.ofNat 12 c)) f.a f.wr kd)
    | none => m
  raiseAt c f.cause f.k f.wr (faultPc (olk m1.hw c)) (some (BitVec.ofNat 32 f.a)) m1

/-- Every 32-bit part of an access finds its way open (R482). -/
def acsOpen (h : Hw) (ini : Initiator) (x : Acs) : Bool :=
  (splitWords x.a x.n).all (fun b => accessOpen h ini b) || (x.wr && pwrAhead h ini x.a x.n)

/-! ## Sources -/

/-- The value of an immediate source; in a lane opcode it is copied into every lane (R233, R234). -/
def immSource (i : CoreInstr) (s : Spec) : Nat :=
  let n := 2 ^ i.hd.size.val
  if isLane i.op then ofLanes (8 * n) (fun _ => immVal n s) else immVal n s

/-- Read the sources in specifier order, from specifier `k` (R244); `win` is the window and `m0` the memory when the instruction began. -/
def readSources (i : CoreInstr) (ini : Initiator) (m0 : Mem) (win : Nat) : Nat → List Spec → Mach → List Nat × Mach
  | _, [], m => ([], m)
  | k, s :: r, m =>
    if (decide (k = 0) && hasDst i.op) || (decide (i.op = .sc) && decide (k = 0)) then readSources i ini m0 win (k + 1) r m
    else
      let n := specSize i.op i.hd.size.val k
      let (v, m1) : Nat × Mach := match immRule i.op k, opAddr m0 win n s with
        | some _, _ => (immNat s, m)
        | none, none => (immSource i s, m)
        | none, some a =>
          match busRead ini a n m with
          | .ok v m1 => (v, m1)
          | .error m1 => (0, m1)
          | .hang => (0, m)
      let (l, m2) := readSources i ini m0 win (k + 1) r m1
      (v :: l, m2)

/-- The source reads that come before the first access that fails (R260). -/
def readBefore (ini : Initiator) (bad : List Flt) : List Acs → Mach → Mach
  | [], m => m
  | x :: r, m =>
    if bad.any (fun f => decide (f.k = x.k ∧ f.wr = x.wr)) && !x.wr then m
    else if x.wr then readBefore ini bad r m
    else readBefore ini bad r (match busRead ini x.a x.n m with | .ok _ m1 => m1 | .error m1 => m1 | .hang => m)

/-! ## What an instruction leaves -/

/-- The instruction is far-sourced: a source operand is far (R229, R245); an atomic always is (R283). -/
def farSourced (c : Nat) (i : CoreInstr) (l : List Acs) : Bool :=
  isAtomic i.op || (decide (i.op ≠ .frn) && l.any (fun x => !x.wr && !isNear c x.a))

/-- The pointer changes of the specifiers, in specifier order (R244, R270). -/
def ptrList (i : CoreInstr) : Nat → List Spec → List (Nat × Int)
  | _, [] => []
  | k, s :: r => (match ptrChange (specSize i.op i.hd.size.val k) s with | some p => [p] | none => []) ++ ptrList i (k + 1) r

/-- The destination lies in the core's near memory; so does no destination. -/
def dstNear (c : Nat) (dst : Option Acs) : Bool := match dst with | some x => isNear c x.a | none => true

/-- Write the destination of an instruction at its end, unless the write is late (R245). -/
def writeDst (c : Nat) (far : Bool) (dst : Option Acs) (e : Eff) (m : Mach) : Mach :=
  match dst, e.val with
  | some x, some v =>
    if far && dstNear c dst then m
    else match busWrite (.core (Fin.ofNat 12 c)) x.a x.n (v % 2 ^ (8 * x.n)) m with
      | .ok _ m1 => m1
      | .error m1 => m1
      | .hang => m
  | _, _ => m

/-- The bytes that a late write stores: those of a near destination (R245). -/
def lateDst (c : Nat) (dst : Option Acs) (e : Eff) : Nat × Nat :=
  match dst, e.val with
  | some x, some _ => if dstNear c dst then (x.a, x.n) else (0, 0)
  | _, _ => (0, 0)

/-- Write the destination and the flags: late where the instruction is far-sourced, the destination only when it is near (R245, R269). -/
def writeResult (c : Nat) (far : Bool) (dst : Option Acs) (e : Eff) (m : Mach) : Mach :=
  let m1 := writeDst c far dst e m
  let d := lateDst c dst e
  if far then
    if d.2 = 0 ∧ e.flags = none then m1
    else m1.onHw (fun h =>
      let r := olk h c
      setOlk h c { r with late := r.late ++ [⟨3, d.1, d.2, e.val.getD 0 % 2 ^ (8 * d.2), e.flags⟩] })
  else match e.flags with
    | some f => m1.onHw (fun h => setOlk h c { olk h c with flags := f })
    | none => m1

/-- A product is issued (R251). -/
def issueProd (c : Nat) (p : Option (Nat × Nat)) (m : Mach) : Mach :=
  match p with
  | some (k, v) => m.onHw (fun h => setOlk h c { olk h c with lateP := (olk h c).lateP ++ [⟨4, k, BitVec.ofNat 256 v⟩] })
  | none => m

/-- A fetch from `a` by core `c` may not be made: outside the fetch regions, or without the right (R231, R255). -/
def fetchFault (h : Hw) (c a : Nat) : Option Nat :=
  if a % 2 ≠ 0 ∨ fetchRegion c a = false then some 4
  else if mayAccess h c a .ex then none else some 3

/-- The instruction ends at `next` (R247). -/
def coreEnd (c : Nat) (next : Nat) (m : Mach) : Mach :=
  endInstr c (m.onHw (fun h => setOlk h c { olk h c with pc := BitVec.ofNat 32 next }))

/-- A branch to `t` ends; a target that may not be fetched faults at once, with EPC the target (R273). -/
def coreJump (c t : Nat) (m : Mach) : Mach :=
  let m1 := coreEnd c t m
  if t % 2 ≠ 0 ∨ fetchRegion c t = false then raiseAt c 4 0 false (BitVec.ofNat 32 (t / 2 * 2)) (some (BitVec.ofNat 32 t)) m1
  else m1

/-- The end of an instruction outside a repeat, or of one iteration of a body (R275 … R277). -/
def coreNext (c win len : Nat) (m : Mach) : Mach :=
  let r := olk m.hw c
  let next := (r.pc.toNat + len) % 4294967296
  match r.rep with
  | none => coreEnd c next m
  | some p =>
    if p.irq then
      let n := (rdMem m.mem (win + p.word) 4 + 4294967295) % 4294967296
      let m1 := store (win + p.word) 4 n m
      if n = 0 then coreEnd c next (m1.onHw (fun h => setOlk h c { olk h c with rep := none })) else endInstr c m1
    else if p.left ≤ 1 then coreEnd c next (m.onHw (fun h => setOlk h c { olk h c with rep := none }))
    else endInstr c (m.onHw (fun h => setOlk h c { olk h c with rep := some { p with left := p.left - 1 } }))

/-! ## PROBE (R285 … R288) -/

/-- How a probe ended. -/
inductive ProbeOut where
  | found (v : Nat) (far : Bool) (m : Mach)
  | missing (full far : Bool) (m : Mach)
  | fault (f : Flt) (m : Mach)
  | hang

/-- An entry of a bucket: its key and value. -/
def bucketEntry (q e : Nat) : Nat × Nat := (q / 2 ^ (64 * e) % 2 ^ 32, q / 2 ^ (64 * e + 32) % 2 ^ 32)

/-- Step 3 of R286 at the bucket at `a`: the outcome, or none where the search goes on; then whether a read was far, and the machine. -/
def probeBucket (c km a : Nat) (far : Bool) (m : Mach) : Option ProbeOut × Bool × Mach :=
  match acsFault m.hw c false ⟨2, a, 16, false⟩ with
  | some f => (some (.fault f m), far, m)
  | none =>
    match busRead (.core (Fin.ofNat 12 c)) a 16 m with
    | .hang => (some .hang, far, m)
    | .error m1 => (some (.fault ⟨4, 2, false, a, none, false⟩ m1), far, m1)
    | .ok q m1 =>
      let far1 := far || !isNear c a
      let e0 := bucketEntry q 0
      let e1 := bucketEntry q 1
      (if e0.1 = km then some (.found e0.2 far1 m1)
        else if e0.1 = 0xFFFFFFFF then some (.missing false far1 m1)
        else if e1.1 = km then some (.found e1.2 far1 m1)
        else if e1.1 = 0xFFFFFFFF then some (.missing false far1 m1)
        else none, far1, m1)

/-- Steps 3 of R286 from bucket `j`, `left` buckets to come. -/
def probeGo (c km base b h0 : Nat) : Nat → Nat → Bool → Mach → ProbeOut
  | 0, _, far, m => .missing true far m
  | left + 1, j, far, m =>
    match probeBucket c km ((base + 16 * ((h0 + j) % 2 ^ b)) % 4294967296) far m with
    | (some r, _, _) => r
    | (none, far1, m1) => probeGo c km base b h0 left (j + 1) far1 m1

/-- The search of R286 with header `q`, at address `ha`, for key `k`; the access and arithmetic faults of R287, in the order of R261. -/
def probe (c ha q k : Nat) (m : Mach) : ProbeOut :=
  let base := q % 2 ^ 32
  let b := q / 2 ^ 32 % 32
  let pmax := q / 2 ^ 40 % 8
  let km := Nat.land k (q / 2 ^ 64 % 2 ^ 32)
  if q / 2 ^ 37 % 8 ≠ 0 ∨ q / 2 ^ 43 % 2 ^ 21 ≠ 0 ∨ base % 16 ≠ 0 then .fault ⟨4, 2, false, ha, none, false⟩ m
  else if 17 ≤ b then .fault ⟨5, 0, false, 0, none, false⟩ m
  else if km = 0xFFFFFFFF then .missing false false m
  else
    let h0 := if b = 0 then 0 else km * 0x9E3779B1 % 2 ^ 32 / 2 ^ (32 - b)
    probeGo c km base b h0 (pmax + 1) 0 false m

/-! ## The instruction -/

/-- An exception without an address (R258, R262). -/
def raisePlain (c cause : Nat) (m : Mach) : Mach := raiseAt c cause 0 false (faultPc (olk m.hw c)) none m

/-- The core hangs on the instruction (R482). -/
def coreHang (i : CoreInstr) (m : Mach) : Mach :=
  m.onHw (fun h => arrive (.core i.core) (setOlk h i.core.val { olk h i.core.val with hang := some i }))

/-- The destination access of an instruction. -/
def dstOf (o : Op) (l : List Acs) : Option Acs := if hasDst o then l.find? (fun x => x.wr && decide (x.k = 1)) else none

/-- The atomics (R283, R284), once their checks have passed: `old` is what TAS and LR read, `v` what SC stores. -/
def coreAtomic (i : CoreInstr) (l : List Acs) (xs : List Nat) (m : Mach) : Mach :=
  let c := i.core.val
  let at_ := ((l.find? (fun x => decide (x.k = atomicSpec i.op))).map (fun x => x.a)).getD 0
  let v := xs.getD 0 0
  match i.op with
  | .tas =>
    writeResult c true (dstOf i.op l) { val := some v, flags := some ⟨false, decide (v = 0), false, false⟩ } (store at_ 4 1 m)
  | .lr => writeResult c true (dstOf i.op l) { val := some v } (m.onHw (fun h => setOlk h c { olk h c with resv := some at_ }))
  | _ =>
    let holds := decide ((olk m.hw c).resv = some at_)
    let m1 := if holds then store at_ 16 v m else m
    writeResult c true none { flags := some ⟨false, holds, false, false⟩ } (m1.onHw (fun h => setOlk h c { olk h c with resv := none }))

/-- The control instructions that are not computed from their sources: TRAP, ERET, DONE, CWR and the prefixes. -/
def coreSpecial (i : CoreInstr) (win len : Nat) (xs : List Nat) (m : Mach) : Option Mach :=
  let c := i.core.val
  let r := olk m.hw c
  let next := (r.pc.toNat + len) % 4294967296
  match i.op with
  | .trap => some (enterSup c 6 0 false (BitVec.ofNat 32 next) (some (BitVec.ofNat 32 (xs.getD 0 0))) m)
  | .eret => some (if r.nest = 1 then (landAll c m).onHw (freeCore c) else endInstr c (m.onHw (eretCore c)))
  | .done => some (doneTask c m)
  | .cwr => some (coreEnd c next ((applyPtrs win (ptrList i 0 i.specs) m).onHw (fun h =>
      setOlk h c (ctlWrite (olk h c) (xs.getD 0 0) (BitVec.ofNat 32 (xs.getD 1 0))))))
  | .rep =>
    let n := xs.getD 0 0
    some (coreEnd c next (m.onHw (fun h => setOlk h c { olk h c with rep := some ⟨false, r.pc, n, 0, decide (n = 0)⟩ })))
  | .repi =>
    let o := match i.specs with | .direct w o :: _ => 16 * w.val + o.val | _ => 0
    let n := rdMem m.mem (win + o) 4
    if 65535 < n then some (raisePlain c 5 m)
    else some (coreEnd c next (m.onHw (fun h => setOlk h c { olk h c with rep := some ⟨true, r.pc, 0, o, decide (n = 0)⟩ })))
  | _ => none

/-- The frame that FRN gives for the release: that of the task's activation, in supervisor mode the present frame (R289). -/
def relFrame (h : Hw) (r : Olk) : Nat := match r.ctx with | some n => if r.sup then h.frame else (ctx h n).rel | none => h.frame

/-- The instruction's sources are read: its effect, or a fault that depends on their values (R260, R272, R287). -/
def coreEffect (i : CoreInstr) (win len : Nat) (l : List Acs) (xs : List Nat) (m : Mach) : Mach :=
  let c := i.core.val
  let r := olk m.hw c
  let rel := relFrame m.hw r
  let ptrs (x : Mach) : Mach := applyPtrs win (ptrList i 0 i.specs) x
  match coreSpecial i win len xs m with
  | some m1 => m1
  | none =>
    if isAtomic i.op then coreNext c win len (coreAtomic i l xs (ptrs m))
    else if i.op = .probe then
      let ha := ((l.find? (fun x => decide (x.k = 2))).map (fun x => x.a)).getD 0
      match probe c ha (xs.getD 0 0) (xs.getD 1 0) m with
      | .hang => coreHang i m
      | .fault f m1 => if f.cause = 5 then raisePlain c 5 m1 else takeFault c f m1
      | .found v far m1 =>
        coreNext c win len (writeResult c (far || farSourced c i l) (dstOf i.op l)
          { val := some v, flags := some ⟨false, false, false, false⟩ } (ptrs m1))
      | .missing full far m1 =>
        coreNext c win len (writeResult c (far || farSourced c i l) (dstOf i.op l)
          { val := some (xs.getD 0 0 / 2 ^ 96), flags := some ⟨false, true, false, full⟩ } (ptrs m1))
    else
      let e := opEff i r c len rel m.hw.frame xs
      if e.fault then raisePlain c 5 m
      else
        let m1 := issueProd c e.prod (writeResult c (farSourced c i l) (dstOf i.op l) e (ptrs m))
        match e.target with
        | some t => coreJump c t m1
        | none => coreNext c win len m1

/-- The instruction executes: the faults of its operands in specifier order, a hang, or its effect (R256, R260, R261, R482). -/
def coreBody (i : CoreInstr) (win len : Nat) (m : Mach) : Mach :=
  let c := i.core.val
  let ini : Initiator := .core i.core
  let l := acsFrom i m.mem win 0 i.specs
  let bad := acsFaults i m.hw c l
  if bad.any (fun f => f.early) then (match bad with | f :: _ => takeFault c f m | [] => m)
  else if !(l.filter (fun x => !bad.any (fun f => decide (f.k = x.k)))).all (acsOpen m.hw ini) then coreHang i m
  else match bad with
  | f :: _ => takeFault c f (readBefore ini bad l m)
  | [] =>
    let (xs, m1) := readSources i ini m.mem win 0 i.specs m
    coreEffect i win len l xs m1

/-- The domain that an instruction fetch needs is open (R231, R482). -/
def fetchOpen (h : Hw) (i : CoreInstr) (pc : Nat) : Bool := accessOpen h (.core i.core) pc

/-- One instruction of a core that issues (R231 … R286): the fetch, the encoding, the privilege, the condition, the operands. -/
def coreStep (i : CoreInstr) (m : Mach) : Mach :=
  let c := i.core.val
  if !iniLive m.hw (.core i.core) then m
  else
    let r := olk m.hw c
    let len := instrLen i
    let win := winBase c r
    let parcels := (List.range (len / 2)).map (fun k => (r.pc.toNat + 2 * k) % 4294967296)
    match parcels.find? (fun a => (fetchFault m.hw c a).isSome) with
    | some a => raiseAt c ((fetchFault m.hw c a).getD 4) 0 false (faultPc r) (some (BitVec.ofNat 32 a)) m
    | none =>
      if !parcels.all (fetchOpen m.hw i) then coreHang i m
      else if isIllegal i r.sup || rptBad i r.rep then raisePlain c 1 m
      else if isPriv i.op && !r.sup then raisePlain c 2 m
      else
        match r.rep with
        | some p =>
          if p.skip then coreEnd c ((r.pc.toNat + len) % 4294967296) (m.onHw (fun h => setOlk h c { r with rep := none }))
          else if condHolds r.flags i.hd.cond.val then coreBody i win len m
          else coreNext c win len m
        | none =>
          if condHolds r.flags i.hd.cond.val then coreBody i win len m
          else if i.op = .rep ∨ i.op = .repi then
            coreEnd c ((r.pc.toNat + len) % 4294967296)
              (m.onHw (fun h => setOlk h c { r with rep := some ⟨decide (i.op = .repi), r.pc, 0, 0, true⟩ }))
          else coreNext c win len m

/-- ILLEGAL_INSTRUCTION: core `c` issues an instruction that breaks the encoding rules (R236). -/
def coreIllegal (c : Fin 12) (m : Mach) : Mach :=
  if iniLive m.hw (.core c) then
    match fetchFault m.hw c.val (olk m.hw c.val).pc.toNat with
    | some k => raiseAt c.val k 0 false (faultPc (olk m.hw c.val)) (some (olk m.hw c.val).pc) m
    | none => raisePlain c.val 1 m
  else m

/-- CORE_INTERRUPT (R264, R303): taken while IE is 1 and EXL is 0, not inside a REP; a free core saves EPC 0. -/
def coreInterrupt (c : Fin 12) (m : Mach) : Mach :=
  let r := olk m.hw c.val
  let live := iniLive m.hw (.core c) ||
    (decide (r.phase = .free) && domOn m.hw (1 + c.val) && !m.hw.hung.any (fun e => decide (e.ini = .core c)))
  let open_ := match r.rep with | some p => p.irq | none => true
  if live && r.ie && !r.exl && open_ && coreIrq m.hw c.val then
    enterSup c.val 0x10 0 false (if r.phase = .free then 0 else faultPc r) none m
  else m

/-- The accesses of a core that hung are done again when a domain is ON (R446, R482). -/
def coreUnhang (c : Nat) (m : Mach) : Mach :=
  match (olk m.hw c).hang with
  | some i => coreStep i (m.onHw (fun h => setOlk h c { olk h c with hang := none }))
  | none => m

/-! ## Accesses that stand as commands of their own -/

/-- A task-mode core makes an aligned access that its grants do not cover (R256). -/
def ungranted (h : Hw) (ini : Initiator) (a n : Nat) (wr : Bool) : Bool :=
  match ini with | .core c => decide (a % n = 0) && !mayAccess h c.val a (if wr then .wr else .rd) | _ => false

/-- One access of an initiator: done, recorded as a bus error, or waiting (R31, R35, R482). A core takes the access fault, a task-mode core
the protection fault where its grants do not cover the address (R256). -/
def access (wr : Bool) (ini : Initiator) (a n v : Nat) (m : Mach) : Mach :=
  if !iniLive m.hw ini then m
  else if ungranted m.hw ini a n wr then
    match ini with
    | .core c => raiseAt c.val 3 0 wr (faultPc (olk m.hw c.val)) (some (BitVec.ofNat 32 a)) m
    | _ => m
  else match (if wr then busWrite ini a n v m else busRead ini a n m) with
  | .ok d m1 => if wr then m1 else m1.onHw (fun h => { h with reply := d })
  | .hang => m.onHw (waitAt ⟨ini, a, n, wr, v⟩)
  | .error m1 =>
    match ini with
    | .core c => raiseAt c.val 4 0 wr (faultPc (olk m1.hw c.val)) (some (BitVec.ofNat 32 a)) m1
    | _ => m1

/-- A 32-bit write of register `off` of page (`ty`, `i`). -/
def pageCmd (ini : Initiator) (ty i off : Nat) (w : Word) (m : Mach) : Mach := access true ini (pg ty i + off) 4 w.toNat m

/-- A 32-bit read of register `off` of page (`ty`, `i`). -/
def pageGet (ini : Initiator) (ty i off : Nat) (m : Mach) : Mach := access false ini (pg ty i + off) 4 0 m

/-- An access of the Bond link's remote engine, and the RESP that answers it (R576). -/
def bondAccess (src reqSeq a : Nat) (wr : Bool) (v : Nat) (m : Mach) : Mach :=
  match (if wr then busWrite .bond a 4 v m else busRead .bond a 4 m) with
  | .ok d m1 => m1.onHw (sendResp src reqSeq 1 d)
  | .error m1 => m1.onHw (sendResp src reqSeq 2 0)
  | .hang => m.onHw (fun h => let h1 := waitAt ⟨.bond, a, 4, wr, v⟩ h; { h1 with bond := { h1.bond with wait := some (src, reqSeq) } })

/-- RDREQ_RECEIVED and WRREQ_RECEIVED (R576): TBUSY while an earlier access hangs, DENIED outside the windows. -/
def bondReq (src reqSeq a : Nat) (wr : Bool) (v : Nat) (m : Mach) : Mach :=
  if !bondHears m.hw then m
  else if !iniLive m.hw .bond then m.onHw (sendResp src reqSeq 5 0)
  else if a % 4 ≠ 0 ∨ rwinAllows m.hw a wr = false then m.onHw (sendResp src reqSeq 3 0)
  else bondAccess src reqSeq a wr v m

/-- What waits of initiator `ini` is tried again: its access, its core's instruction, its DMA channel's access (R446, R482). -/
def hungAgain (ini : Initiator) (m : Mach) : Mach :=
  match m.hw.hung.find? (fun e => decide (e.ini = ini)) with
  | some e =>
    let m1 := m.onHw (fun h => { h with hung := h.hung.filter (fun x => decide (x.ini ≠ ini)) })
    match ini, m.hw.bond.wait with
    | .bond, some (src, q) => bondAccess src q e.a e.wr e.data (m1.onHw (fun h => { h with bond := { h.bond with wait := none } }))
    | _, _ => access e.wr ini e.a e.n e.data m1
  | none =>
    match ini with
    | .core c => coreUnhang c.val m
    | .dma n => dmaUnhang n.val m
    | _ => m

/-- A domain is ON: everything that waits is tried again, in its order of arrival (R35). -/
def unhang (m : Mach) : Mach := m.hw.waits.foldl (fun x i => hungAgain i x) (m.onHw (fun h => { h with waits := [] }))

end Sys2Proof.Machine
end

