-- ==== Sys2Proof/Machine/Power.lean ====
section
/-!
DEFINITION. Power domains (chapter 15): refusals, entries, exits and what each does to the blocks; the regulator, brown-out, RTC and
wake target port; and the start of a core after a reset (R495), which an exit from OFF is (R445).
-/
namespace Sys2Proof.Machine

/-! ## The start of a core (R495, R496) -/

/-- Core `c` starts at BOOT_ENTRY.PC in supervisor mode, with the reset values of R258. -/
def coreStart (c : Nat) (h : Hw) : Hw :=
  setOlk h c { phase := .run, pc := rd h 1 0 0x090 &&& 0xFFFFFFFE, wdgAt := h.now }

/-- A reset of core `c` with CRST cause `cause` is asserted (R495, R496, R484): the context it holds is STOPPED, its hung access is
withdrawn, the relay opens. -/
def coreResetNow (c cause : Nat) (h : Hw) : Hw :=
  let h1 := match (olk h c).ctx with
    | some n => setCtx h n { ctx h n with st := .stopped, kept := none }
    | none => h
  let h2 := { h1 with hung := h1.hung.filter (fun e => match e.ini with | .core k => decide (k.val ≠ c) | _ => true) }
  let h3 := wrF (incSat h2 1 0 (0x0A0 + 4 * c) 8 8 1) 1 0 (0x0A0 + 4 * c) 0 2 cause
  immoReset (coreStart c h3)

/-! ## Refusals (R437, R324, R346) -/

/-- The lowest active DMA channel that uses domain `d` refuses (R346). -/
def dmaRefuser (m : Mach) (d : Nat) : Option (Nat × Nat) := ((List.range 64).find? (fun n => dmaUses m n d)).map (fun n => (0x31, n))

/-- A lowest refusing instance below `n`, with its type. -/
def firstOf (ty n : Nat) (f : Nat → Bool) : Option (Nat × Nat) := ((List.range n).find? f).map (fun i => (ty, i))

/-- The lowest core domain that is ON (R437). -/
def coreDomOn (h : Hw) : Option (Nat × Nat) := ((List.range 12).find? (fun c => domOn h (1 + c))).map (fun c => (0x02, 1 + c))

/-- Valve `v` of bank `g` refuses (R195). -/
def valveRefuses (h : Hw) (g v : Nat) : Bool :=
  let r := valve h g v
  busyValve r || decide (r.st = .rel) || (decide (r.st = .uvoff) && decide (dieF h 0x12 g 0x400 2 1 = 1 ∧ r.cmd = 1))

/-- CAN channel `n` refuses (R383). -/
def canRefuses (h : Hw) (n : Nat) : Bool :=
  let r := can h n
  decide (r.trx ≠ 2) || r.mswin.isSome || r.txb.any (fun e => e.2.ent.isSome) || !r.queue.isEmpty

/-- ETH port `n` refuses (R414). -/
def ethRefuses (h : Hw) (n : Nat) : Bool :=
  let r := eth h n
  decide (r.tc ≠ 2) || r.mswin || !r.q0.isEmpty || !r.q1.isEmpty

/-- The BOND page refuses (R590). -/
def bondRefuses (h : Hw) : Bool :=
  bit (cfg h 0x50 0 0x400) 0 || bit (cfg h 0x50 0 0x408) 31 || h.bond.rq.isSome || h.hung.any (fun e => decide (e.ini = .bond))

/-- The crypto engine programs or erases the NV store (R437). -/
def nvBusy (h : Hw) : Bool := match h.cry.run with | some o => decide (o.op = 7 ∨ o.op = 8) | none => false

/-- The conditions of domain `d`'s row but for R346, in the row's order. -/
def rowRefuser (m : Mach) (d : Nat) : Option (Nat × Nat) :=
  let h := m.hw
  if 1 ≤ d ∧ d ≤ 12 then (olk h (d - 1)).ctx.map (fun n => (0x30, n))
  else if 13 ≤ d ∧ d ≤ 16 then
    if (List.range 256).any (fun n => decide ((ctx h n).st ≠ .disabled) &&
        decide (memDomain (recBase h n) ≤ d ∧ d ≤ memDomain (recBase h n + 0x4FF))) then some (0x30, 0) else none
  else if d = 17 then
    if (List.range 64).any (qEn h) || decide (freeCount h ≠ 4096) then some (0x32, 0) else none
  else if d = 18 then
    coreDomOn h <|>
      (if (List.range 256).any (fun n => active (ctx h n)) || (List.range 12).any (fun c => (olk h c).ctx.isSome && !(olk h c).sup)
        then some (0x30, 0) else none) <|> dmaRefuser m 18 <|>
      (if h.nsc.st = 2 ∨ h.nsc.st = 3 then some (0x23, 0) else none)
  else if 19 ≤ d ∧ d ≤ 26 then (if canRefuses h (d - 19) then some (0x20, d - 19) else none)
  else if d = 27 ∨ d = 28 then firstOf 0x21 16 (fun n => decide (linDom n = d) && (!(lin h n).sleep || (lin h n).mswin.isSome))
  else if d = 29 then (if ethRefuses h 0 then some (0x22, 0) else none)
  else if d = 30 then (if ethRefuses h 1 then some (0x22, 1) else if bondRefuses h then some (0x50, 0) else none)
  else if 35 ≤ d ∧ d ≤ 38 then firstOf 0x10 96 (fun n => decide (hswGroup n = d - 35) && decide ((hsw h n).cmd ≠ 0))
  else if d = 39 then firstOf 0x11 24 (fun n => decide ((hbr h n).cmd ≠ 0))
  else if d = 40 then firstOf 0x12 4 (fun g => (List.range 4).any (valveRefuses h g))
  else if d = 42 then (if lfTx h || accBusy h then some (0x40, 0) else none)
  else if d = 43 then (if h.cry.run.isSome then some (0x41, 0) else none)
  else if d = 44 then coreDomOn h <|> (if nvBusy h then some (0x41, 0) else none)
  else none

/-- The first condition that refuses an entry of domain `d`: type and instance (R437, R443). -/
def refuser (m : Mach) (d : Nat) : Option (Nat × Nat) := rowRefuser m d <|> dmaRefuser m d

/-- Step 1, or the last accesses of a core, still wait: the core of the domain is not free (R445, R442 step 3). -/
def coreWaits (h : Hw) (d : Nat) : Bool := decide (1 ≤ d ∧ d ≤ 12) && decide ((olk h (d - 1)).phase ≠ .free)

/-! ## What an entry does (R442, R438, R449) -/

/-- The registers of domain `d`'s pages take their reset values, but for those in PD00 (R438, R439, R54); on the pages of R217, R381 and
R400 the staging areas of those then hold the applied values. -/
def dropRegs (d : Nat) (h : Hw) : Hw :=
  let keep (e : Nat × Word) : Bool := decide (pageDomain (pgType e.1) (pgInst e.1) ≠ some d) || heldPd00 (pgType e.1) (pgInst e.1) (pgOff e.1)
  let restaged := ((0x13, 0) :: ((List.range 4).map (fun i => (0x20, i)) ++ (List.range 4).map (fun i => (0x21, i)))).filter
    (fun p => decide (pageDomain p.1 p.2 = some d))
  forL restaged (fun p x => { x with regs := smCopyRange (pg p.1 p.2 + 0x400) (pg p.1 p.2 + 0x800) x.applied x.regs })
    { h with regs := h.regs.filter keep, applied := h.applied.filter keep }

/-- Every page whose owner the predicate selects returns to the free pool. -/
def freeWhere (f : Owner → Bool) (h : Hw) : Hw := { h with pages := h.pages.filter (fun e => !f e.2.own) }

/-- A front end of page type `ty`, instance `i`, or a DMA channel, owns. -/
def ownerIs (ty i : Nat) (o : Owner) : Bool := match o with | .front t k => decide (t = ty ∧ k = i) | _ => false

/-- Entries of a map whose keys satisfy `f` go back to their defaults. -/
def smDrop {α : Type} (f : Nat → Bool) (l : List (Nat × α)) : List (Nat × α) := l.filter (fun e => !f e.1)

/-- The blocks of domain `d` lose their contents (R438, R324, R348, R433): what their records keep in PD00, in the power dies and in
non-volatile cells stays. -/
def blockReset (d : Nat) (h : Hw) : Hw :=
  if 1 ≤ d ∧ d ≤ 12 then { h with olk := smErase (d - 1) h.olk }
  else if d = 17 then { h with pages := [], queues := [] }
  else if d = 18 then
    freeWhere (fun o => match o with | .dma _ | .ctx _ => true | _ => false)
      { h with
        ctxs := [], lines := [], key := {}, dma := [], frame := 0
        nsc := { fsLoaded := h.nsc.fsLoaded, fsFrom := h.nsc.fsFrom, wakes := h.nsc.wakes }
        pwr := { h.pwr with gres := 0 } }
  else if 19 ≤ d ∧ d ≤ 26 then freeWhere (ownerIs 0x20 (d - 19)) { h with can := smErase (d - 19) h.can }
  else if d = 27 ∨ d = 28 then { h with lin := smDrop (fun n => decide (linDom n = d)) h.lin }
  else if d = 29 then freeWhere (ownerIs 0x22 0) { h with eth := smErase 0 h.eth }
  else if d = 30 then
    freeWhere (fun o => ownerIs 0x22 1 o || decide (o = .bond)) { h with eth := smErase 1 h.eth, bond := { qOut := h.bond.qOut } }
  else if 31 ≤ d ∧ d ≤ 34 then
    { h with meas := smErase (d - 31) h.meas, newSince := smDrop (fun k => decide (k / 64 = d - 31)) h.newSince }
  else if d = 41 then { h with swi := [], swiAt := [] }
  else if d = 42 then
    { h with acc := { h.acc with
      poll := none, learn := none, learnBad := false, seq := 0, ul := false, lfClear := min h.acc.lfClear (h.now + 2000) } }
  else if d = 43 then { h with cry := {} }
  else h

/-- What leaving ON does at the clamp instant (R131, R162, R196, R152, R214, R474, R590); every channel and unit of a power stage that may
leave ON has OFF applied, and its states go on in the die (R130, R132, R161, R163). -/
def clampOut (d : Nat) (h : Hw) : Hw :=
  if d = 18 then { h with pwr := { h.pwr with t0 := h.timebase, c0 := h.pwr.rtc } }
  else if d = 30 then { h with bond := { h.bond with closed := false } }
  else if d = 40 then
    forN 16 (fun k x => { x with valves := smPut {} k { smGet {} x.valves k with newFire := false } x.valves }) h
  else if d = 41 then (if domOn h 41 then posLost (parkCopy h) else h)
  else h

/-- The supply of domain `d` is off: its registers, records and memory lose their contents. -/
def loseDomain (d : Nat) (m : Mach) : Mach :=
  { mem := if 1 ≤ d ∧ d ≤ 17 then memLose d m.mem else m.mem, hw := blockReset d (dropRegs d m.hw) }

/-- Domain `d` passes the clamp instant of an entry into `t` (R442 steps 4 to 7). -/
def enterDomain (d : Nat) (t : PwrState) (m : Mach) : Mach :=
  let m1 := m.onHw (fun h => let h1 := clampOut d h; setDom h1 d { dom h1 d with state := t, busy := false, req := t })
  if t = .off then loseDomain d m1 else m1

/-- The next request of the sequencer's queue, and the queue without it (R441). -/
def popNext (h : Hw) : Option (SeqChange × Hw) :=
  match h.pwr.singles with
  | c :: r => some (c, { h with pwr := { h.pwr with singles := r } })
  | [] =>
    match h.pwr.sets with
    | g :: r =>
      match g.doms with
      | d :: ds => some (⟨d, g.tgt, true⟩, { h with pwr := { h.pwr with sets := { g with doms := ds } :: r } })
      | [] => none
    | [] => none

/-- What the blocks do as an entry of their domain begins: a calibration is abandoned (R93). -/
def entryBegins (d : Nat) (h : Hw) : Hw := if 31 ≤ d ∧ d ≤ 34 then calAbandon (d - 31) h else h

/-- DOMAIN_ENTRY_START (R442 steps 1 and 2, R443, R445). -/
def entryStart (m : Mach) : Mach :=
  match m.hw.pwr.cur, popNext m.hw with
  | none, some (c, h1) =>
    if c.tgt = .on then m
    else
      match refuser m c.dom with
      | some (ty, inst) => { m with hw := seqRun (stopGroup c.dom c.fromSet (reqBack (countRefusal h1 c.dom false ty inst) c.dom)) }
      | none =>
        if coreWaits m.hw c.dom then m
        else
          let h2 := entryBegins c.dom (setDom h1 c.dom { dom h1 c.dom with busy := true, req := c.tgt })
          { m with hw := { h2 with pwr := { h2.pwr with cur := some c, gdom := c.dom } } }
  | _, _ => m

/-- An entry that a condition of its row meets before the clamp instant is aborted (R444). -/
def entryAbort (m : Mach) : Mach :=
  match m.hw.pwr.cur with
  | some c =>
    if c.tgt = .on then m
    else
      match refuser m c.dom with
      | some (ty, inst) => m.onHw (fun h => seqRun (abortEntry h [c.dom] ty inst))
      | none => m
  | none => m

/-- DOMAIN_ENTRY_COMPLETE (R442 steps 3 to 7): an entry whose row has a condition by now is aborted, and one whose core runs waits. -/
def entryComplete (m : Mach) : Mach :=
  match m.hw.pwr.cur with
  | some c =>
    if c.tgt = .on then m
    else if (refuser m c.dom).isSome then entryAbort m
    else if coreWaits m.hw c.dom then m
    else
      (enterDomain c.dom c.tgt (m.onHw (fun h => { h with pwr := { h.pwr with cur := none } }))).onHw seqRun
  | none => m

/-! ## What an exit does (R446, R474, R385, R511) -/

/-- The timebase that PD18 comes back with (R474). -/
def timeBack (h : Hw) : Nat :=
  let w := rd h 3 0 0x044
  let us := if bit w 31 then fld w 0 24 else 8000000
  (h.pwr.t0 + (h.pwr.rtc + 2 ^ 48 - h.pwr.c0) % 2 ^ 48 * us / 2 ^ 18) % 2 ^ 64

/-- The user configuration sets HI6 of the BOND page, staged and applied (R511, R553). -/
def loadHi6 (m : Mach) : Mach :=
  let v := match userRecord m.mem with | some a => (rdByte m.mem (a + 0x30)).toNat % 64 | none => 0
  let a := pg 0x50 0 + 0x400
  m.onHw (fun h =>
    let h1 := wrF h 0x50 0 0x400 10 6 v
    { h1 with applied := smPut (regReset h.straps a) a (setFld (cfgA h1 a) 10 6 v) h1.applied })

/-- Domain `d` is ON again after `was` (R446); on the power-stage pages every level source that is 1 sets EV_STAT (R132, R163, R197). -/
def returnDomain (d : Nat) (was : PwrState) (m : Mach) : Mach :=
  let m1 : Mach :=
    if d = 18 then m.onHw (fun h =>
      let h1 := { h with timebase := timeBack h }
      forN 256 idleCauses (nscReturn { h1 with frameStart := h1.timebase, frameLen := appliedLen h1 }))
    else if 1 ≤ d ∧ d ≤ 12 then
      (if was = .off then m.onHw (fun h =>
        if bit (rd h 1 0 0x090) 0 then coreResetNow (d - 1) 3 h else reqCoreReset (d - 1) 3 h) else m)
    else if 19 ≤ d ∧ d ≤ 26 then
      m.onHw (fun h => let r := can h (d - 19)
        if was = .ret ∧ r.mode ≠ 0 then setCan h (d - 19) { r with integ := true, idle := false } else h)
    else if d = 30 then (if was = .off then loadHi6 m else m)
    else if 31 ≤ d ∧ d ≤ 34 then (if was = .ret then m.onHw (measFromRet (d - 31)) else m)
    else if d = 41 then m.onHw swiReturn
    else if d = 42 then m.onHw accUp
    else m
  m1.onHw (fun h => nscDomainUp d (forPages (fun ty i x =>
    if pageDomain ty i = some d then relevel ty i (if 35 ≤ d ∧ d ≤ 40 then wr x ty i oRAW 0 else x) else x) h))

/-- DOMAIN_EXIT_COMPLETE (R446): the domain is ON, and the accesses that wait for it proceed. -/
def exitComplete (m : Mach) : Mach :=
  match m.hw.pwr.cur with
  | some c =>
    if c.tgt = .on then
      let was := (dom m.hw c.dom).state
      let m1 := m.onHw (fun h =>
        let h1 := setDom h c.dom { dom h c.dom with state := .on, busy := false, req := .on }
        { h1 with pwr := { h1.pwr with cur := none } })
      unhang ((returnDomain c.dom was m1).onHw seqRun)
    else m
  | none => m

/-! ## Regulator, brown-out and RTC (R457 … R460) -/

/-- Every domain but PD00 is in RET or OFF with BUSY = 0. -/
def allParked (h : Hw) : Bool := (List.range 44).all (fun k => !domOn h (k + 1) && !(dom h (k + 1)).busy)

/-- LOW_POWER_ENTRY (R458). -/
def lpEntry (h : Hw) : Hw := if bit (cfg h 2 0 0x400) 0 && allParked h then { h with pwr := { h.pwr with lp := true } } else h

/-- A brown-out is recorded while PBO.VALID is 0 (R460): `cause` 1 the current limit, 2 the rail, 3 both. -/
def pboRecord (cause : Nat) (h : Hw) : Hw :=
  if bit (rd h 2 0 0x054) 31 then h
  else level (wr (wr h 2 0 0x054 (BitVec.ofNat 32 (0x80000000 + cause))) 2 0 0x058 (BitVec.ofNat 32 h.pwr.rtc)) 2 0 2 true

/-- The retention rails switch off: every domain in RET enters OFF (R459). -/
def railsOff (m : Mach) : Mach :=
  (List.range 44).foldl (fun x k =>
    if (dom x.hw (k + 1)).state = .ret then
      loseDomain (k + 1) (x.onHw (fun h => setDom h (k + 1) { dom h (k + 1) with state := .off, req := .off }))
    else x) m

/-- RTC_ALARM (R457). -/
def rtcAlarm (h : Hw) : Hw :=
  let hi := rd h 2 0 0x06C
  if bit hi 31 && decide (fld hi 0 16 * 2 ^ 32 + (rd h 2 0 0x068).toNat ≤ h.pwr.rtc) then
    wakeSource 13 (wr h 2 0 0x06C (setBit hi 31 false))
  else h

/-- The Plinth wake sources of R450. -/
def plinthSources : List Nat := [0, 1, 2, 3, 4, 5, 6, 7, 8, 10, 11, 12, 13, 16, 17]

/-! ## Wake target port (R451 … R455) -/

/-- WTP_ADDRESS_MATCH: an address byte of a transfer; a match is acknowledged and raises source 12. -/
def wtpAddress (addr : Nat) (read : Bool) (h : Hw) : Hw :=
  let c := cfg h 2 0 0x408
  if bit c 31 && decide (addr = fld c 0 7) then wakeSource 12 { h with pwr := { h.pwr with wtpSel := true, wtpRead := read } }
  else { h with pwr := { h.pwr with wtpSel := false } }

/-- WTP_POINTER_WRITE. -/
def wtpPointer (v : Nat) (h : Hw) : Hw :=
  if h.pwr.wtpSel && !h.pwr.wtpRead then { h with pwr := { h.pwr with wtpPtr := v % 256 } } else h

/-- The pointer after one data byte. -/
def wtpNext (h : Hw) : Hw := { h with pwr := { h.pwr with wtpPtr := (h.pwr.wtpPtr + 1) % 256 } }

/-- WTP_DATA_WRITE (R453): WSTAT bits clear, WREQ bits collect; other pointers take nothing. -/
def wtpWrite (v : Nat) (h : Hw) : Hw :=
  if h.pwr.wtpSel && !h.pwr.wtpRead then
    let p := h.pwr.wtpPtr
    let b := v % 256
    let h1 :=
      if 4 ≤ p ∧ p ≤ 6 then
        let mask : Word := BitVec.ofNat 32 (b * 2 ^ (8 * (p - 4))) &&& 0x3FFFF
        relevel 2 0 (wr h 2 0 0x050 (rd h 2 0 0x050 &&& ~~~mask))
      else if 8 ≤ p ∧ p ≤ 11 then
        { h with pwr := { h.pwr with wreqLo := h.pwr.wreqLo ||| BitVec.ofNat 32 (b * 2 ^ (8 * (p - 8))) } }
      else if p = 12 ∨ p = 13 then
        { h with pwr := { h.pwr with wreqHi := h.pwr.wreqHi ||| BitVec.ofNat 32 (b * 2 ^ (8 * (p - 12))) } }
      else h
    wtpNext h1
  else h

/-- The byte register at pointer `p` (R453). -/
def wtpByte (h : Hw) (p : Nat) : Nat :=
  if p = 0 then 0x96
  else if p = 1 then devRev / 256 % 256
  else if p = 2 then
    (bit (rd h 2 0 0x054) 31).toNat * 8 + h.pwr.cur.isSome.toNat * 4 + (domOn h 18).toNat * 2 + h.pwr.lp.toNat
  else if 4 ≤ p ∧ p ≤ 6 then fld (rd h 2 0 0x050) (8 * (p - 4)) 8
  else if 0x10 ≤ p ∧ p ≤ 0x1B then
    (List.range 4).foldl (fun a j =>
      let d := 4 * (p - 0x10) + j
      a + (if 44 < d then 0 else if (dom h d).busy then 3 else pwrCode (dom h d).state) * 4 ^ j) 0
  else 0

/-- WTP_DATA_READ (R453): the byte goes out, the pointer advances. -/
def wtpRead (h : Hw) : Hw :=
  if h.pwr.wtpSel && h.pwr.wtpRead then wtpNext { h with reply := wtpByte h h.pwr.wtpPtr } else h

/-- WTP_STOP (R454): the WREQ bits written become ON requests, with PD18. -/
def wtpStop (h : Hw) : Hw :=
  let ds := (maskDomains h.pwr.wreqLo h.pwr.wreqHi).filter (fun d => decide (d ≠ 0))
  let h1 := { h with pwr := { h.pwr with wtpSel := false, wreqLo := 0, wreqHi := 0 } }
  if ds.isEmpty then h1 else wakeDomains (18 :: ds) h1

/-! ## Wakes from the parking poll and from touches (R216, R221, R522) -/

/-- PARK_POLL. -/
def parkPollWake (mvs : List Int) (h : Hw) : Hw :=
  let h1 := parkPoll mvs h
  if parkWakes h h1 then wakeSource 10 h1 else h1

/-- CAP_CONFIRM_SAMPLE: the touches that qualify request their polls, and wake once where CAP_THR.WAKE of one of them is 1. -/
def capConfirmWake (raws : List Nat) (h : Hw) : Hw :=
  let h1 := capConfirm raws h
  let q := capQualified h h1
  let h2 := forL q touchReq h1
  if q.any (fun c => bit (cfg h2 0x13 0 (0x420 + 4 * c)) 8) then wakeSource 11 h2 else h2

end Sys2Proof.Machine
end

