-- ==== Sys2Proof/Machine/Feed.lean ====
section
/-!
DEFINITION. Feed groups and power dies: under-voltage and restart (R125 … R128), the supply of a die, and what the dies do across a
controller reset: HOLD, the fallback pattern and its flashing (R500 … R505).
-/
namespace Sys2Proof.Machine

/-! ## The feed group -/

/-- Replace the record of feed group `g`. -/
def setFeed (h : Hw) (g : Nat) (r : Feed) : Hw := { h with feeds := smPut {} g r h.feeds }

/-- UV_THR in mV (R125). -/
def uvThr (h : Hw) (g : Nat) : Nat :=
  match bit h.straps 4, dieF h 0x10 (leadCh g) 0x424 0 2 with
  | false, 0 => 5000 | false, 1 => 5500 | false, 2 => 6000 | false, _ => 7000
  | true, 0 => 10000 | true, 1 => 12000 | true, 2 => 14000 | true, _ => 16000

/-- The hysteresis in mV (R125). -/
def uvHys (h : Hw) : Nat := if bit h.straps 4 then 1000 else 500

/-- The units of power die `g`, by their leads. -/
def dieUnits (h : Hw) (g : Nat) : List Nat := (List.range 24).filter (fun n => decide (n / 6 = g) && decide (hbrLead h n = n))

/-- UV_CNT counts on a lead page whose domain is ON (R132). -/
def uvCount (g : Nat) (h : Hw) : Hw := if pageOn h 0x10 (leadCh g) then incSat h 0x10 (leadCh g) 0x058 16 16 1 else h

/-- The level sources of the pages that show the group's under-voltage. -/
def feedLevels (g : Nat) (h : Hw) : Hw :=
  solLevels g (forL ((List.range 24).filter (fun n => decide (n / 6 = g))) hbrLevels (forL (groupCh g) hswLevels h))

/-- FEED_VOLTAGE_DROP (R126): the feed is at `mV`, below UV_THR or, during the restart delay, below UV_THR plus the hysteresis; the
threshold holds within 2 %. -/
def feedDrop (g mV : Nat) (h : Hw) : Hw :=
  let r := feed h g
  if r.supply = .on then
    let r1 := if mV * 100 < (uvThr h g + uvHys h) * 102 then { r with rstPend := false } else r
    setFeed h g (if mV * 100 < uvThr h g * 102 then { r1 with low := true, lowAt := if r.low then r.lowAt else h.now } else r1)
  else h

/-- The filter time that FEED_CFG.UV_FILT selects, in µs (R126). -/
def uvFilt (h : Hw) (g : Nat) : Nat := match dieF h 0x10 (leadCh g) 0x424 2 2 with | 0 => 10 | 1 => 50 | 2 => 200 | _ => 1000

/-- The restart delay that FEED_CFG.RST_DLY selects, in µs (R126). -/
def rstDly (h : Hw) (g : Nat) : Nat := match dieF h 0x10 (leadCh g) 0x424 4 2 with | 0 => 1000 | 1 => 10000 | 2 => 100000 | _ => 1000000

/-- FEED_UNDER_VOLTAGE (R126, R157, R189): the filter time expires, within its 10 %. -/
def feedUv (g : Nat) (h : Hw) : Hw :=
  let r := feed h g
  if r.supply = .on ∧ r.low = true ∧ r.lowAt + uvFilt h g * 90 / 100 ≤ h.now then
    let h1 := uvCount g (setFeed h g { r with uv := true, rstPend := false, low := false })
    feedLevels g (solUv g (forL (dieUnits h1 g) hbrUv (forL (groupCh g) hswUv h1)))
  else h

/-- FEED_VOLTAGE_RECOVERY (R126): the feed is at `mV`; at UV_THR the filter stops, at UV_THR plus the hysteresis the delay starts. -/
def feedRecovery (g mV : Nat) (h : Hw) : Hw :=
  let r := feed h g
  if r.supply = .on then
    let r1 := if uvThr h g * 98 ≤ mV * 100 then { r with low := false } else r
    setFeed h g (if (uvThr h g + uvHys h) * 98 ≤ mV * 100 ∧ r.uv = true then
      { r1 with rstPend := true, rstAt := if r.rstPend then r.rstAt else h.now } else r1)
  else h

/-- FEED_GROUP_RESTART (R127, R158, R191): the restart delay ends, within its 5 %. -/
def feedRestart (g : Nat) (h : Hw) : Hw :=
  let r := feed h g
  if r.supply = .on ∧ r.rstPend = true ∧ r.rstAt + rstDly h g * 95 / 100 ≤ h.now then
    let h1 := setFeed h g { r with uv := false, rstPend := false }
    feedLevels g (solRestart g (forL (dieUnits h1 g) hbrRestart (forL (groupCh g) hswGroupRestart h1)))
  else h

/-! ## The configuration that a die holds -/

/-- The half-bridges of die `g` whose unit differs between two configurations (R140); a new TOPO code that leaves the unit as it was is no
new topology (log entry 77). -/
def topoTouched (old new : Hw) (g : Nat) : List Nat :=
  let ns := (List.range 24).filter (fun n => decide (n / 6 = g))
  ns.filter (fun n => ns.any (fun k => decide (hbrLead old k ≠ hbrLead new k) && decide (hbrLead old k = n ∨ hbrLead new k = n)))

/-- The pages of die `g`, by their bases, whose domain `f` selects. -/
def diePages (g : Nat) (f : Nat → Bool) : List Nat :=
  (if f (35 + g) then (groupCh g).map (fun n => pg 0x10 n) else []) ++
    (if f 39 then (List.range 6).map (fun k => pg 0x11 (6 * g + k)) else []) ++ (if f 40 then [pg 0x12 g] else [])

/-- PER, PHOFF or PGRP of page (`ty`, `n`) differs between two configurations (R107). -/
def schedDiffers (old new : Hw) (ty n : Nat) : Bool :=
  decide (die old ty n 0x400 ≠ die new ty n 0x400) || decide (die old ty n 0x404 ≠ die new ty n 0x404)

/-- The outputs of die `g` whose schedule changed complete their present period before the new one starts (R107). -/
def schedMoved (old : Hw) (g : Nat) (h : Hw) : Hw :=
  let h1 := forL ((groupCh g).filter (fun n => schedDiffers old h 0x10 n)) (fun n x =>
    { x with hsw := smPut {} n { hsw x n with pwm := { (hsw x n).pwm with moved := true } } x.hsw }) h
  forL ((dieUnits h g).filter (fun n => schedDiffers old h 0x11 n)) (fun n x =>
    { x with hbr := smPut {} n { hbr x n with pwm := { (hbr x n).pwm with moved := true } } x.hbr }) h1

/-- The staged registers of those pages pass to die `g` as applied; an output's new schedule waits for its present period (R107), a
half-bridge whose unit changes starts afresh (R140), a valve whose duty window changes clears its bins (R185), a channel may select no wire
model (R121). -/
def dieLoad (g : Nat) (f : Nat → Bool) (h : Hw) : Hw :=
  let h1 := forL (diePages g f) (fun b x => { x with dieCfg := smCopyRange (b + 0x400) (b + 0x800) x.applied x.dieCfg }) h
  let h2 := forL (topoTouched h h1 g) hbrFresh (schedMoved h g h1)
  forL (groupCh g) wireSelect (forN 4 (fun v x => dutyWindow g v (dwinOf h g v) x) h2)

/-! ## The fallback pattern (R502, R503) -/

/-- What the pattern gives channel `n`: 0 OFF, 1 ON, 2 FLASH. -/
def fbMode (h : Hw) (n : Nat) : Nat :=
  if bit h.straps 1 then (if n < 4 then 2 else 0)
  else match h.rst.fbUse with
    | some f => (match f.modes / 4 ^ n % 4 with | 1 => 1 | 2 => 2 | _ => 0)
    | none => 0

/-- Valve `v` of bank `g` keeps holding under the pattern. -/
def fbKeeps (h : Hw) (g v : Nat) : Bool :=
  !bit h.straps 1 && decide ((valve h g v).st = .hold) && (match h.rst.fbUse with | some f => f.keep.testBit (solNo g v) | none => false)

/-- The pattern acts on the valves of a bank as a boundary that applies it. -/
def fbSol (g : Nat) (h : Hw) : Hw :=
  bankClear g (forN 4 (fun v x =>
    if fbKeeps x g v then x
    else solOff g v { x with valves := smPut {} (solNo g v) { valve x g v with cmd := 0 } x.valves }) h)

/-- Some die is in FALLBACK. -/
def anyFallback (h : Hw) : Bool := (List.range 4).any (fun g => decide ((feed h g).mode = .fallback))

/-- Die `g` enters FALLBACK and applies the pattern; the first die to do so begins the first on-phase. -/
def fallbackDie (g : Nat) (h : Hw) : Hw :=
  let h0 := if anyFallback h then h else { h with rst := { h.rst with flashOn := true, flashAt := h.now } }
  let h1 := setFeed h0 g { feed h0 g with mode := .fallback }
  let one (n : Nat) (x : Hw) : Hw :=
    let k := fbMode x n
    hswApply n (if k = 0 then 0 else 1) 0 false
      { x with hsw := smPut {} n { hsw x n with flashOff := decide (k = 2) && !x.rst.flashOn } x.hsw }
  let h2 := forL (groupCh g) one h1
  winOnCmd g (fbSol g (forL (dieUnits h2 g) (fun u x => hbrApply u 0 0 false x) h2))

/-- OUTPUT_HOLD_END (R500, R502): t_HOLD after the assertion, within its 5 %, the dies in HOLD enter FALLBACK. -/
def holdEnd (h : Hw) : Hw :=
  if outState h = 1 ∧ (h.rst.holdAt + holdTime h * 95 / 100) ≤ h.now then
    let gs := (List.range 4).filter (fun g => decide ((feed h g).mode = .hold))
    forL gs fallbackDie h
  else h

/-- The length in µs of the phase that the FLASH channels are in (R499, R503). -/
def flashLen (h : Hw) : Nat :=
  if bit h.straps 1 then 333333 else match h.rst.fbUse with | some f => (if h.rst.flashOn then f.flOn else f.flOff) * 1000 | none => 0

/-- FALLBACK_FLASH_TOGGLE (R502): the phase of the FLASH channels is over, within the 5 % of the die's oscillator (R511); they begin the next
one, each after its PHOFF. -/
def flashToggle (h : Hw) : Hw :=
  if anyFallback h && decide (h.rst.flashAt + flashLen h * 95 / 100 ≤ h.now) then
    let on := !h.rst.flashOn
    let one (n : Nat) (x : Hw) : Hw :=
      if (feed x (hswGroup n)).mode = .fallback ∧ fbMode x n = 2 then
        let r := hsw x n
        let r1 := { r with flashOff := !on, fresh := r.fresh || on }
        setHsw x n (if r.st = .off ∨ r.st = .on ∨ r.st = .limit then
          { r1 with pend := true, edgeAt := x.now + dieF x 0x10 n 0x404 0 16 } else r1)
      else x
    forN 96 one { h with rst := { h.rst with flashOn := on, flashAt := h.now } }
  else h

/-! ## The supply of a die (R128, R159, R192, R505) -/

/-- POWER_DIE_SUPPLY_LOSS. -/
def dieLoss (g : Nat) (h : Hw) : Hw :=
  let r := feed h g
  if r.supply = .on then
    let h1 := setFeed h g { r with supply := .lost, uv := true, rstPend := false, low := false }
    let h2 := if r.uv then h1 else uvCount g h1
    measFeed g false (feedLevels g (solUnsupply g (forL (dieUnits h2 g) hbrUnsupply (forL (groupCh g) hswUnsupply h2))))
  else h

/-- POWER_DIE_SUPPLY_START: the die loads the applied configuration and stays in under-voltage; one in HOLD returns in FALLBACK. -/
def dieStart (g : Nat) (h : Hw) : Hw :=
  let r := feed h g
  if r.supply = .on then h
  else
    let h1 := dieLoad g (fun _ => true) (setFeed h g { r with supply := .on, uv := true, rstPend := false, low := false })
    let h2 := measFeed g true (feedLevels g (forL (groupCh g) hswSupply h1))
    if r.mode = .normal then h2 else fallbackDie g h2

end Sys2Proof.Machine
end

