-- ==== Sys2Proof/Machine/Frame.lean ====
section
/-!
DEFINITION. The frame boundary (R17): commits, the output image, snapshots, the frame's mark, the release of tasks, and what other
blocks do at the boundary instant.
-/
namespace Sys2Proof.Machine

/-! ## Steps 1 and 2: commits and the output image -/

/-- Every page with PEND set whose domain is ON is applied (R49, R50, R54). -/
def boundaryCommits (h : Hw) : Hw :=
  forPages (fun ty i x => if bit (rd x ty i oCOMMIT) 8 && pageOn x ty i then applyPage ty i false x else x) h

/-- The pair gate holds channel `n` OFF (R587, R590). -/
def gated (h : Hw) (n : Nat) : Bool := domOn h 30 && h.bond.closed && bit (cfg h 0x50 0 (0x414 + 4 * (n / 32))) (n % 32)

/-- The image word of high-side channel `n`: its CTL, or OFF behind the pair gate. -/
def hswWord (h : Hw) (n : Nat) : Word := if gated h n then 0 else rd h 0x10 n 0x040

/-- The die of group `g` takes command images (R500). -/
def dieTakes (h : Hw) (g : Nat) : Bool := decide ((feed h g).mode = .normal)

/-- The command channel `n` has after this boundary. -/
def hswNext (h : Hw) (n : Nat) : Nat :=
  if domOn h (35 + hswGroup n) && dieTakes h (hswGroup n) then fld (hswWord h n) 0 2 else (hsw h n).cmd

/-- The command unit `u` has after this boundary. -/
def hbrNext (h : Hw) (u : Nat) : Nat := if domOn h 39 && dieTakes h (u / 6) then fld (rd h 0x11 u 0x040) 0 3 else (hbr h u).cmd

/-- The phase group of page (`ty`, `n`), in the die. -/
def pgrp (h : Hw) (ty n : Nat) : Nat := dieF h ty n 0x404 16 4

/-- The phase groups in which a channel or unit has PWM applied both before this boundary, under the configuration `o`, and at it: their
epoch stays (R106). -/
def keptGroups (o h : Hw) : List Nat :=
  ((List.range 96).filter (fun n => decide ((hsw h n).cmd = 2) && decide (hswNext h n = 2) && decide (pgrp o 0x10 n = pgrp h 0x10 n))).map
      (pgrp h 0x10) ++
    ((List.range 24).filter (fun u => decide (hbrLead h u = u) && hbrIsPwm (hbrSingle h u) (hbr h u).cmd &&
      hbrIsPwm (hbrSingle h u) (hbrNext h u) && decide (pgrp o 0x11 u = pgrp h 0x11 u))).map (pgrp h 0x11)

/-- The epoch of page (`ty`, `n`), whose output had PWM applied as `was` says, stays (R106). -/
def keptEpoch (o h : Hw) (kept : List Nat) (ty n : Nat) (was : Bool) : Bool :=
  if pgrp h ty n = 0 then was && decide (pgrp o ty n = 0) else kept.contains (pgrp h ty n)

/-- The outputs are released (R504): every die takes images again; a FLASH channel that is dark starts from OFF. -/
def release (h : Hw) : Hw :=
  if h.rst.rel then
    let h1 := forN 4 (fun g x => setFeed x g { feed x g with mode := .normal }) { h with rst := { h.rst with rel := false } }
    forN 96 (fun n x =>
      let r := hsw x n
      if r.flashOff then
        let r1 := { r with flashOff := false }
        setHsw x n (if !r.out && (decide (r.st = .on) || decide (r.st = .limit) || decide (r.st = .off)) then
          { r1 with st := .off, cmd := 0, pend := false } else r1)
      else x) h1
  else h

/-- The image of channel `n` is applied: APPLIED on the page, the command in the die; `o` is the module before the dies took their new
configuration. -/
def hswImageApply (o : Hw) (kept : List Nat) (n : Nat) (h : Hw) : Hw :=
  if domOn h (35 + hswGroup n) then
    let w := hswWord h n
    let h1 := wr h 0x10 n 0x044 w
    if dieTakes h (hswGroup n) then hswApply n (fld w 0 2) (fld w 16 16) (keptEpoch o h kept 0x10 n (decide ((hsw h n).cmd = 2))) h1
    else h1
  else h

/-- The image of half-bridge page `n` is applied; a member page has none, and a unit whose topology is new takes the next one (R139,
R140). -/
def hbrImageApply (o : Hw) (kept fresh : List Nat) (n : Nat) (h : Hw) : Hw :=
  if domOn h 39 then
    if hbrLead h n = n then
      let w := rd h 0x11 n 0x040
      let h1 := wr h 0x11 n 0x044 w
      if dieTakes h (n / 6) && !fresh.contains n then
        hbrApply n (fld w 0 3) (fld w 16 16) (keptEpoch o h kept 0x11 n (hbrIsPwm (hbrSingle h n) (hbr h n).cmd)) h1
      else h1
    else wr h 0x11 n 0x044 0
  else h

/-- The image of bank `g` is applied. -/
def solImageApply (g : Nat) (h : Hw) : Hw :=
  if domOn h 40 then
    let h1 := solPage g h
    if dieTakes h g then solApply g h1 else solTaken g h1
  else h

/-- Step 2: the dies take configuration and image (R19, R131, R132, R504). -/
def outputImage (h : Hw) : Hw :=
  let h1 := release h
  let h2 := forN 4 (fun g x => if dieTakes x g then dieLoad g (domOn x) x else x) h1
  let fresh := (List.range 4).flatMap (fun g => if dieTakes h1 g then topoTouched h1 h2 g else [])
  let kept := (keptGroups h1 h2).filter (fun g => decide (g ≠ 0))
  let h3 := forN 96 (hswImageApply h1 kept) h2
  let h4 := forN 24 (hbrImageApply h1 kept fresh) h3
  forN 4 solImageApply h4

/-! ## Steps 3 and 4: snapshots -/

/-- The event snapshots, POS_SNAP and ARM_SNAP (R44, R155, R180). -/
def eventSnap (h : Hw) : Hw :=
  let h1 := forPages (fun ty i x => if 0x10 ≤ ty ∧ ty ≤ 0x14 ∧ pageOn x ty i = true then wr x ty i oSNAP (rd x ty i oSTAT) else x) h
  let h2 := if domOn h1 39 then forN 24 (fun n x => wr x 0x11 n 0x054 (rd x 0x11 n 0x050)) h1 else h1
  if domOn h2 40 then forN 4 (fun g x => forN 4 (fun v y => wr y 0x12 g (0x080 + 4 * v) (valve y g v).armT) x) h2 else h2

/-- Steps 3 and 4 for the frame that begins; the completion strobes of the measurement snapshots come after the event copy. -/
def snapshots (h : Hw) : Hw :=
  let f := h.frame + 1
  let h1 := forN 4 (fun g x => measSnapshot g f (if domOn x (31 + g) then calBoundary g x else x)) h
  forN 4 measSnapDone (eventSnap (forN 4 (fun i x => swiSnapshot i f x) h1))

/-! ## The boundary -/

/-- The boundary instant: the timebase reaches the end of the frame (R13, R17). -/
def toBoundary (h : Hw) : Hw := advance (h.frameStart + h.frameLen - h.timebase) h

/-- Steps 5 and 6, and the boundary instant of the other blocks: the mark of the frame that ends, the frame number, releases, LIN
schedules, DMA chains and the Bond link (R15, R17, R296, R312, R343, R394, R571). -/
def beginFrame (detWas : Bool) (start : Nat) (m : Mach) : Mach :=
  let m1 := overrunsUpTo m.hw.timebase m
  let h := m1.hw
  let late := (List.range 64).any (dmaLate h)
  let h1 := markFrame late detWas (bit (cfg h 0x30 0 0x400) 0) h
  let k := h1.frame
  let mo := if domOn h1 30 && pairOn h1 then miroutData h1 start h1.timebase else []
  let len := appliedLen h1
  let h2 := { h1 with frame := (h1.frame + 1) % 2 ^ 64, frameStart := h1.timebase, frameLen := len, tbCopy := h1.timebase }
  let h3 := forN 64 dmaBoundary (forN 16 linBoundary (releaseAll (bondFrame len h2)))
  bondBoundary k mo { m1 with hw := h3 }

/-- FRAME_BOUNDARY (R17); boundaries occur only while PD18 is ON (R15). -/
def frameBoundary (m : Mach) : Mach :=
  if domOn m.hw 18 then
    let start := m.hw.frameStart
    let detWas := bit (cfg m.hw 0x30 0 0x400) 0
    beginFrame detWas start (m.onHw (fun h => snapshots (outputImage (boundaryCommits (toBoundary h)))))
  else m

end Sys2Proof.Machine
end

