-- ==== Sys2Proof/Machine/Reset.lean ====
section
/-!
DEFINITION. Resets and startup (chapter 17), the watchdogs (R485, R486), loss of PLL lock and the oscillator measurement (R471, R473),
the debug port (R646) and the loss of the module's supply (R633).
-/
namespace Sys2Proof.Machine

/-! ## What step 5 of the startup loads (R503, R506, R508) -/

/-- The user fallback record at offset 0x10 of the user configuration, where it is valid (R503). -/
def fallbackRecord (m : Mem) : Option Fallback :=
  match userRecord m with
  | none => none
  | some a =>
    let w0 := rdMem m (a + 0x10) 4
    let w1 := rdMem m (a + 0x14) 4
    let ms (v : Nat) : Nat := min 10000 (max 50 v)
    if w0 % 65536 = 0xFB01 then some ⟨ms (w0 / 65536), ms (w1 % 65536), w1 / 65536, rdMem m (a + 0x18) 24⟩ else none

/-- Step 5: trim and user configuration, with BOOT_STAT; then step 6 begins with BOOT_ENTRY.VALID at 0. -/
def startupLoad (trimOk : Bool) (m : Mach) : Mach :=
  (loadHi6 m).onHw (fun h =>
    let cfgErr := (userRecord m.mem).isNone
    let h1 := wr h 1 0 0x08C (BitVec.ofNat 32 (cfgErr.toNat * 0x40 + (!trimOk).toNat * 0x20))
    { wrF h1 1 0 0x090 0 1 0 with rst := { h1.rst with fb := fallbackRecord m.mem, verify := true } })

/-! ## Controller reset (R491 … R494, R500, R507) -/

/-- At the assertion every die enters HOLD, unless it is in HOLD or FALLBACK already; with a hold time of 0 ms, FALLBACK (R500). The pattern
that follows is that of the record which step 5 read before this reset (R503). -/
def holdDies (h : Hw) : Hw :=
  let gs := (List.range 4).filter (fun g => decide ((feed h g).mode = .normal))
  let h1 := if outState h = 1 then h else { h with rst := { h.rst with
    holdAt := h.now, fbUse := if outState h = 0 then h.rst.fb else h.rst.fbUse } }
  let h2 := forL gs (fun g x => setFeed x g { feed x g with mode := .hold }) { h1 with rst := { h1.rst with rel := false } }
  if holdTime h = 0 then forL gs fallbackDie h2 else h2

/-- Every domain but PD00 is reset in place and ON (R491, R438, R439); REFUSED is kept in PD00. -/
def resetDomains (m : Mach) : Mach :=
  (List.range 44).foldl (fun x k =>
    loseDomain (k + 1) (x.onHw (fun h => setDom h (k + 1) { refused := (dom h (k + 1)).refused }))) m

/-- The new FIREs that the SOL pages held are gone. -/
def dropFires (h : Hw) : Hw :=
  forN 16 (fun k x => { x with valves := smPut {} k { smGet {} x.valves k with newFire := false } x.valves }) h

/-- CONTROLLER_RESET: a requested controller reset is asserted, and steps 3 to 5 run; `trimOk` says that the factory trim passes. -/
def controllerReset (trimOk : Bool) (m : Mach) : Mach :=
  if m.hw.rst.ctrl then
    let m0 := (cryCut (accCut m)).onHw (fun h =>
      let h1 := wr h 1 0 0x080 (rd h 1 0 0x080 ||| BitVec.ofNat 32 h.rst.causes)
      immoReset (holdDies (wr h1 1 0 0x084 (BitVec.ofNat 32 h.pwr.rtc))))
    let m1 := (resetDomains m0).onHw (fun h =>
      let h1 := dropFires { h with
        pwr := { h.pwr with cur := none, singles := [], sets := [], lp := false, t0 := h.timebase, c0 := h.pwr.rtc }
        hung := h.hung.filter (fun e => decide (e.ini = .debug))
        nsc := { h.nsc with wakes := [] }
        rst := { h.rst with ctrl := false, causes := 0, cores := [] } }
      { h1 with timebase := timeBack h1, frameStart := timeBack h1, frameLen := appliedLen h1 })
    unhang ((startupLoad trimOk m1).onHw (fun h => forPages relevel (fsUpdate h)))
  else m

/-! ## Core reset (R492, R494, R495, R510) -/

/-- CORE_RESET: a requested reset of core `c` is asserted; a controller reset that is requested absorbs it, and with no verified
entry it becomes one. -/
def coreReset (c : Nat) (m : Mach) : Mach :=
  if m.hw.rst.ctrl then m
  else
    match m.hw.rst.cores.find? (fun e => decide (e.1 = c)) with
    | some e =>
      m.onHw (fun h =>
        let h1 := { h with rst := { h.rst with cores := h.rst.cores.filter (fun x => decide (x.1 ≠ c)) } }
        if bootValid h then coreResetNow c e.2 h1 else reqCoreReset c e.2 h1)
    | none => m

/-- WATCHDOG_EXPIRY (R485, R486, R492): T milliseconds, within the 3 % of CK_LPO, have passed for core `c`. -/
def watchdogExpiry (c : Nat) (m : Mach) : Mach :=
  let h := m.hw
  let w := cfg h 3 0 (0x440 + 4 * c)
  let r := olk h c
  if bit w 31 && domOn h (1 + c) && watched r && decide (max 1 (fld w 0 16) * 970 ≤ h.now - r.wdgAt) then
    m.onHw (fun h =>
      let again := bit (rd h 3 0 0x054) c && bit (cfg h 1 0 0x404) 0
      let h1 := relevel 3 0 (wr h 3 0 0x054 (setBit (rd h 3 0 0x054) c true))
      let h2 := { h1 with hung := h1.hung.filter (fun e => match e.ini with | .core k => decide (k.val ≠ c) | _ => true) }
      if again then reqCtrlReset 7 h2 else if bootValid h2 then coreResetNow c 1 h2 else reqCoreReset c 1 h2)
  else m

/-! ## Power-on reset (R491, R493, R647, R506) -/

/-- A die whose feed stayed above V_PDMIN keeps its protection state, switches off, and meets OFF as a boundary that applies OFF
would be met (R647); its configuration takes the reset values. -/
def porDie (g : Nat) (h : Hw) : Hw :=
  let h1 := dieLoad g (fun _ => true) h
  let off (n : Nat) (x : Hw) : Hw :=
    let r := hsw x n
    let x1 := setHsw x n { hswCut r with st := if r.st = .on ∨ r.st = .limit then .off else r.st, flashOff := false, pwm := {} }
    hswApply n 0 0 false x1
  let h2 := forL (groupCh g) off h1
  let h3 := forL (dieUnits h2 g) (fun u x =>
    let y := hbrApply u 0 0 false x
    let r := hbr y u
    setHbr y u { hbrCut r with st := if r.st = .therm then .therm else .off, halted := false, act := 0, pwm := {} }) h2
  bankClear g (forN 4 (fun v x =>
    solOff g v { x with valves := smPut {} (solNo g v) { valve x g v with cmd := 0, newFire := false } x.valves }) h3)

/-- A die without supply starts again under R128: nothing of it is kept. -/
def porDead (g : Nat) (h : Hw) : Hw :=
  let ns := (List.range 24).filter (fun n => decide (n / 6 = g))
  { h with
    hsw := smDrop (fun n => decide (hswGroup n = g)) h.hsw
    hswT := smDrop (fun n => decide (hswGroup n = g)) h.hswT
    hbr := smDrop (fun n => ns.contains n) h.hbr
    hbrTl := smDrop (fun n => ns.contains n) h.hbrTl
    valves := smDrop (fun k => decide (k / 4 = g)) h.valves
    banks := smErase g h.banks }

/-- Everything but the power dies at its reset values, with what non-volatile cells and the model's own counters keep. -/
def freshHw (straps : Word) (h : Hw) : Hw :=
  { straps := straps &&& 0xFF, now := h.now, freeCnt := h.freeCnt,
    dieCfg := h.dieCfg, feeds := h.feeds, hsw := h.hsw, hswT := h.hswT, hbr := h.hbr, hbrTl := h.hbrTl, valves := h.valves, banks := h.banks,
    acc := { slots := h.acc.slots, lctr := h.acc.lctr, mark := h.acc.mark } }

/-- Every memory but the non-volatile store loses its contents. -/
def memPowerLoss (m : Mem) : Mem := (List.range 18).foldl (fun x d => memLose d x) m

/-- MODULE_SUPPLY_LOSS (R633, R532, R552): the supply falls below V_PORL; every die loses its supply and the module stops. -/
def supplyLoss (m : Mach) : Mach :=
  let m1 := cryCut (accCut m)
  let m2 := m1.onHw (fun h => forN 4 (fun g x => porDead g (setFeed x g { supply := .lost, uv := true })) { h with dieCfg := [] })
  { mem := memPowerLoss m2.mem
    hw := { freshHw 0 m2.hw with
      doms := (List.range 44).map (fun k => (k + 1, { state := .off, req := .off })), rst := { off := true, verify := false } } }

/-- A power-on reset (R491 … R497, R506 steps 1 to 5): the straps as sampled; `rail` says that the Plinth rail browned out with the
supply above V_PORL, which leaves the registers of R512 as they stand; `trimOk` that the factory trim passes. -/
def powerOnReset (straps : Word) (rail trimOk : Bool) (m : Mach) : Mach :=
  let rail := rail && !m.hw.rst.off
  let m1 := if rail then
      let x := cryCut (accCut m)
      { x with mem := memPowerLoss x.mem }
    else if m.hw.rst.off then m else supplyLoss m
  let h := m1.hw
  let cause : Word := if rail then rd h 1 0 0x080 ||| 2 else 1
  let time : Word := if rail then BitVec.ofNat 32 h.pwr.rtc else 0
  let pbo := if rail then (rd h 2 0 0x054, rd h 2 0 0x058) else (0, 0)
  let h1 := freshHw straps h
  let h2 := forN 4 (fun g x =>
    let x1 := setFeed x g { feed x g with mode := .normal }
    if (feed x1 g).supply = .on then porDie g x1 else porDead g { x1 with feeds := smPut {} g { supply := .lost, uv := true } x1.feeds }) h1
  let sys (e : Nat × Word) : Bool := rail && decide (pgType e.1 = 1) && heldPd00 1 0 (pgOff e.1)
  let h3 := wr (wr { h2 with regs := h.regs.filter sys, applied := h.applied.filter sys } 1 0 0x080 cause) 1 0 0x084 time
  let h4 := wr (wr h3 2 0 0x054 pbo.1) 2 0 0x058 pbo.2
  (startupLoad trimOk { m1 with hw := h4 }).onHw (forPages relevel)

/-- PLINTH_BROWN_OUT (R459, R460): `load` says that the low-power load exceeds I_LPLIM; `rail` that the Plinth rail falls below V_PBO, which
resets the Plinth once the brown-out is recorded: the straps then sampled, and whether the factory trim passes. -/
def brownOut (load : Bool) (rail : Option (Byte × Bool)) (m : Mach) : Mach :=
  let load := load && m.hw.pwr.lp
  let m1 := if load || rail.isSome then m.onHw (pboRecord (load.toNat + 2 * rail.isSome.toNat)) else m
  let m2 := if load then railsOff m1 else m1
  match rail with
  | some (straps, trimOk) => powerOnReset (BitVec.ofNat 32 straps.toNat) true trimOk m2
  | none => if load then m2.onHw (plinthWake 17) else m2

/-- POWER_ON_RESET (R491): the supply rises through V_PORH, or, with `rail` and the supply standing, the Plinth rail browns out, which is
recorded before the reset (R460). -/
def powerReset (straps : Byte) (rail trimOk : Bool) (m : Mach) : Mach :=
  if rail && !m.hw.rst.off then brownOut false (some (straps, trimOk)) m
  else powerOnReset (BitVec.ofNat 32 straps.toNat) false trimOk m

/-! ## Step 6 and 7 (R506, R509) -/

/-- IMAGE_VERIFICATION_DONE: an image passes and the cores start, or RESULT reads failed and they stay in reset. -/
def verifyDone (m : Mach) : Mach :=
  if m.hw.rst.verify then
    m.onHw (fun h =>
      let h1 := { h with rst := { h.rst with verify := false } }
      match (bootPick m.mem).1 with
      | some s =>
        let h2 := wr h1 1 0 0x090 (entryWord m.mem s)
        let h3 := wrF (wrF h2 1 0 0x08C 2 2 s) 1 0 0x08C 0 2 1
        forN 12 coreStart h3
      | none => wrF { h1 with cry := { h1.cry with result := (bootPick m.mem).2 } } 1 0 0x08C 0 2 2)
  else m

/-! ## Clocks and the debug port (R471, R473, R484) -/

/-- PLL_LOSS_OF_LOCK: a PLL that should run loses lock; REFOK falls and a clock-fail reset is raised. -/
def pllLoss (h : Hw) : Hw :=
  let h1 := if domOn h 18 then relevel 3 0 (wr h 3 0 0x040 (setBit (rd h 3 0 0x040) 16 false)) else h
  if (List.range 44).any (fun k => domOn h (k + 1)) then reqCtrlReset 6 h1 else h

/-- LPO_CALIBRATION: a run of 1024 CK_LPO cycles ends while CK_PER runs; it lasted `us256` / 256 µs. -/
def lpoCal (us256 : Nat) (h : Hw) : Hw :=
  if clkRuns h 3 then wr h 3 0 0x044 (BitVec.ofNat 32 (0x80000000 + us256 % 2 ^ 24)) else h

/-- DEBUG_PORT_RESET: a hung debug access is withdrawn. -/
def debugReset (h : Hw) : Hw := { h with hung := h.hung.filter (fun e => decide (e.ini ≠ .debug)) }

end Sys2Proof.Machine
end

