-- ==== Sys2Proof/Machine/Rows.lean ====
section
/-!
DEFINITION. What the rows of the table share beyond the operations of their blocks: events of either output family, protection events
with the bounds that their rules give, bus events with the fail-safe count brought up to date (R431), and the entries of the rings that
count in the received-message digest (R582).
-/
namespace Sys2Proof.Machine

/-! ## PWM periods (R105, R144) -/

/-- Period `k` of an output's schedule starts. -/
def pwmPeriodStart (out : Output) (k tOa : Nat) (h : Hw) : Hw :=
  match out with
  | .hsw n => hswPeriod n.val k tOa h
  | .hbr n => hbrPeriod n.val k tOa h

/-- The on-phase of an output's present period ends. -/
def pwmOnPhaseEnd (out : Output) (h : Hw) : Hw :=
  match out with
  | .hsw n => hswOnEnd n.val h
  | .hbr n => hbrOnEnd n.val h

/-! ## Protection of the solenoid banks (R186): each bound is the low end of the table's range -/

/-- VALVE_OVERCURRENT: a low-side current of 16 A ± 10 %. -/
def solVoc (g v mA : Nat) (h : Hw) : Hw := if 14400 ≤ mA then solTrip g v 1 h else h

/-- VALVE_LOW_SIDE_DESAT: 2.0 V ± 20 % across a low side that is on. -/
def solDesat (g v mV : Nat) (h : Hw) : Hw := if 1600 ≤ mV ∧ lsOn h g v = true then solTrip g v 2 h else h

/-- BANK_OVERCURRENT: a bank current of 24 A ± 10 %. -/
def solBoc (g mA : Nat) (h : Hw) : Hw := if 21600 ≤ mA ∧ (bank h g).sw = true then bankTrip g 1 0 h else h

/-- BANK_RAIL_SHORT: 2.0 V ± 20 % across a bank switch that is on. -/
def solRailShort (g mV : Nat) (h : Hw) : Hw := if 1600 ≤ mV ∧ (bank h g).sw = true then bankTrip g 2 0 h else h

/-- LOW_SIDE_THERMAL_LATCH: 165 … 185 °C. -/
def solLsLatch (g v degC : Nat) (h : Hw) : Hw := if 165 ≤ degC then solLsTherm g v h else h

/-- BANK_THERMAL_LATCH: 165 … 185 °C. -/
def solBankLatch (g degC : Nat) (h : Hw) : Hw := if 165 ≤ degC then bankTrip g 4 0 h else h

/-- SOL_THERMAL_LATCH_RELEASE: 15 K below the latch. -/
def solLatchOut (g : Nat) (v : Option Nat) (degC : Nat) (h : Hw) : Hw := if degC ≤ 170 then solThermRelease g v h else h

/-! ## The wetting sources (R206, R207) -/

/-- INPUT_OVERVOLTAGE: above V_OVH or below V_OVL. -/
def inputOver (n : Nat) (mV : Int) (h : Hw) : Hw := if 38000 ≤ mV ∨ mV ≤ -1000 then swiOver n h else h

/-- WETTING_OVERTEMP: T_WT, 140 … 160 °C. -/
def wettingHot (g degC : Nat) (h : Hw) : Hw := if 140 ≤ degC then swiTherm g true h else h

/-- WETTING_OVERTEMP_CLEAR: T_WHYS below T_WT. -/
def wettingCool (g degC : Nat) (h : Hw) : Hw := if degC ≤ 150 then swiTherm g false h else h

/-! ## Deadlines (R306) -/

/-- DEADLINE: the deadline of the activation of context `n` has come. -/
def deadlinePass (n : Nat) (m : Mach) : Mach :=
  match (ctx m.hw n).deadline with
  | some d => if d ≤ m.hw.timebase then overrun n m else m
  | none => m

/-! ## Commands that may end an entry into RET or OFF (R444) -/

/-- An entry that was in progress in `m` was aborted on the way to `m1`: the accesses that wait since its step 2 proceed. -/
def proceed (m m1 : Mach) : Mach :=
  match m.hw.pwr.cur with
  | some c => if c.tgt ≠ .on ∧ m1.hw.pwr.cur ≠ some c ∧ domOn m1.hw c.dom = true then unhang m1 else m1
  | none => m1

/-- A change of the module in which a request or a wake may abort an entry. -/
def State.run (f : Mach → Mach) (s : State) : State := s.onM (fun m => proceed m (f m))

/-! ## Bus events -/

/-- An event of a bus channel; the fail-safe count follows the transceivers (R431). -/
def busEvent (f : Mach → Mach) (m : Mach) : Mach := (f m).onHw fsUpdate

/-- The count of entries of a front end (R359, R397, R407). -/
def entrySeq (h : Hw) (ty n : Nat) : Nat := if ty = 0x20 then (can h n).seq else if ty = 0x21 then (lin h n).seq else (eth h n).seq

/-- The last chain that joined queue `q`. -/
def newest (h : Hw) (q : Nat) : Option Nat := (queue h q).getLast?.map (·.page)

/-- The bytes of a chain from offset `ofs`, `len` of them (R315, R359). -/
def chainBytes (m : Mach) (p ofs len : Nat) : List Byte :=
  ((((chainOf m.hw p).flatMap (fun k => rdBytes m.mem (pageAddr k) 256)).drop ofs).take len)

/-- What the entry on page `p` of a ring of type `ty` puts into the digest (R582): header words as big-endian values, then its bytes. -/
def digestBytes (m : Mach) (ty p : Nat) : List Byte :=
  let w (o : Nat) : Nat := rdMem m.mem (pageAddr p + o) 4
  let hdr (l : List Nat) : List Byte := l.flatMap (fun o => beBytes 4 (w o))
  if ty = 0x20 then hdr [0x04, 0x08, 0x14, 0x18] ++ chainBytes m p 32 (if w 0 / 2 ^ 27 % 16 = 2 ∨ w 0 / 2 ^ 27 % 16 = 3 then 0 else w 8 % 4096)
  else if ty = 0x21 then hdr [0x04, 0x08] ++ chainBytes m p 32 (w 8 % 256)
  else beBytes 4 (w 4) ++ beBytes 2 (w 8 % 4096) ++ chainBytes m p 32 (w 8 % 4096)

/-- An event that may store an entry in the ring of a front end; a stored entry of another node counts in the digest under member
index `idx` (R582). -/
def digested (idx ty n : Nat) (f : Mach → Mach) (m : Mach) : Mach :=
  let m1 := f m
  if entrySeq m1.hw ty n = entrySeq m.hw ty n then m1
  else match (ringQueue m1.hw ty n).bind (newest m1.hw) with
    | none => m1
    | some p =>
      if ty ≠ 0x22 ∧ rdMem m1.mem (pageAddr p) 4 / 2 ^ 26 % 2 = 1 then m1
      else m1.onHw (digest idx (digestBytes m1 ty p))

/-- CAN_TX_END: the transmission of channel `n` ends (R370). -/
def canTxEnd (n : Nat) (r : TxResult) (tdcv : Nat) (m : Mach) : Mach :=
  match r with
  | .ok => digested n 0x20 n (canTxOk n tdcv) m
  | .lost => m.onHw (canTxFail n true none)
  | .error => m.onHw (canTxFail n false none)
  | .dataError => m.onHw (canTxFail n false (some tdcv))

/-! ## TC10 handshakes that fail: a port that was falling asleep wakes its coordinator (R415, R426) -/

/-- TC10_HANDSHAKE_FAIL. -/
def ethHandshakeFail (n : Nat) (h : Hw) : Hw := if (eth h n).tc = 1 then handshakeFailed n (tcFail n false h) else h

/-- TC10_SLEEP_TIMEOUT. -/
def ethSleepTimeout (n : Nat) (h : Hw) : Hw := if (eth h n).tc = 1 then handshakeFailed n (tcTimeout n h) else tcTimeout n h

/-- ETH_LINK_LOSS. -/
def ethLinkDown (n : Nat) (h : Hw) : Hw :=
  if (eth h n).tc = 1 ∧ (eth h n).link = true then handshakeFailed n (ethLinkLoss n h) else ethLinkLoss n h

/-! ## No command waits -/

/-- A microsecond in which no command comes (log entry 1). -/
def idle (s : State) : State := s.onHw (advance 1)

end Sys2Proof.Machine
end

