-- ==== Sys2Proof/Machine/RowAcc.lean ====
section
/-!
DEFINITION. One meaning per row of the table: the access front end (chapter 18).
-/
namespace Sys2Proof.Machine

/-- POLL_CMD (R522). -/
def execPollCmd (ini : Initiator) (slots ant : Byte) (pas : Bool) (s : State) : Host.Outcome State Fault Refusal :=
  .next (s.run (pageCmd ini 0x40 0 0x044 (BitVec.ofNat 32 (0x80000000 + pas.toNat * 0x40000000 + slots.toNat * 0x10000 + ant.toNat))))

/-- TOUCH_POLL_START (R522). -/
def execTouchPollStart (s : State) : Host.Outcome State Fault Refusal :=
  .next (s.run (touchPoll))

/-- POLL_ATTEMPT_START (R523). -/
def execPollAttemptStart (s : State) : Host.Outcome State Fault Refusal :=
  .next (s.onHw (attempt))

/-- RESPONSE_WINDOW_END (R524). -/
def execResponseWindowEnd (l : List Telegram) (cs : Bool) (s : State) : Host.Outcome State Fault Refusal :=
  .next (s.run (windowEnd l cs))

/-- ANTENNA_FAULT (R515). -/
def execAntennaFault (a : Fin 8) (short : Bool) (s : State) : Host.Outcome State Fault Refusal :=
  .next (s.onHw (antFault a.val short))

/-- BUTTON_TELEGRAM (R526). -/
def execButtonTelegram (t : Telegram) (s : State) : Host.Outcome State Fault Refusal :=
  .next (s.run (buttonHeard t))

/-- UHF_WAKE (R535). -/
def execUhfWake (s : State) : Host.Outcome State Fault Refusal :=
  .next (s.run (fun m => m.onHw (uhfWake)))

/-- AUTH_WINDOW_END (R533). -/
def execAuthWindowEnd (s : State) : Host.Outcome State Fault Refusal :=
  .next (s.onHw (authExpire))

/-- LEARN_CTL (R531). -/
def execLearnCtl (ini : Initiator) (s : State) : Host.Outcome State Fault Refusal :=
  .next (s.run (pageCmd ini 0x40 0 0x060 0x9E000001))

/-- LEARN_DONE (R531). -/
def execLearnDone (s : State) : Host.Outcome State Fault Refusal :=
  .next (s.run (learnDone))

/-- IMMO_CLOSE (R533). -/
def execImmoClose (ini : Initiator) (s : State) : Host.Outcome State Fault Refusal :=
  .next (s.run (pageCmd ini 0x40 0 0x06C 0x6D000001))

/-- IMMO_OPEN (R534). -/
def execImmoOpen (ini : Initiator) (s : State) : Host.Outcome State Fault Refusal :=
  .next (s.run (pageCmd ini 0x40 0 0x06C 0x6D000002))

/-- RELAY_OVERCURRENT (R534). -/
def execRelayOvercurrent (mA : Nat) (s : State) : Host.Outcome State Fault Refusal :=
  .next (s.onHw (relayTrip mA))

/-- INV_INFO_READ (R46). -/
def execInvInfoRead (ini : Initiator) (s : State) : Host.Outcome State Fault Refusal :=
  .next (s.run (pageGet ini 0x40 0 0x05C))

end Sys2Proof.Machine
end

