-- ==== Sys2Proof/Machine/RowBond.lean ====
section
/-!
DEFINITION. One meaning per row of the table: the Bond link and the pair (chapter 20).
-/
namespace Sys2Proof.Machine

/-- BEACON_RECEIVED (R574). -/
def execBeaconReceived (src : Fin 512) (tag : Word) (len : Nat) (s : State) : Host.Outcome State Fault Refusal :=
  .next (s.onHw (beacon src.val tag.toNat len))

/-- HEARD_SET_EXPIRY (R574). -/
def execHeardSetExpiry (a : Fin 512) (s : State) : Host.Outcome State Fault Refusal :=
  .next (s.onHw (heardExpiry a.val))

/-- SYNC_RECEIVED (R569). -/
def execSyncReceived (sysNs trim : Int) (s : State) : Host.Outcome State Fault Refusal :=
  .next (s.onHw (sync sysNs trim))

/-- PDELAY_EXCHANGE (R567). -/
def execPdelayExchange (s : State) : Host.Outcome State Fault Refusal :=
  .next (s.onHw (pdelay))

/-- SYNC_TIMEOUT (R572). -/
def execSyncTimeout (s : State) : Host.Outcome State Fault Refusal :=
  .next (s.onHw (syncTimeout))

/-- REMOTE_READ_REQUEST (R575). -/
def execRemoteReadRequest (ini : Initiator) (dst : Fin 512) (s : State) : Host.Outcome State Fault Refusal :=
  .next (s.run (pageCmd ini 0x50 0 0x07C (BitVec.ofNat 32 (0x80000000 + dst.val * 0x10000))))

/-- REMOTE_WRITE_REQUEST (R575). -/
def execRemoteWriteRequest (ini : Initiator) (dst : Fin 512) (s : State) : Host.Outcome State Fault Refusal :=
  .next (s.run (pageCmd ini 0x50 0 0x07C (BitVec.ofNat 32 (0xC0000000 + dst.val * 0x10000))))

/-- RESP_RECEIVED (R575). -/
def execRespReceived (reqSeq res : Nat) (data : Word) (s : State) : Host.Outcome State Fault Refusal :=
  .next (s.onHw (respReceived reqSeq res data.toNat))

/-- REQUEST_TIMEOUT (R575). -/
def execRequestTimeout (s : State) : Host.Outcome State Fault Refusal :=
  .next (s.onHw (rqTimeout))

/-- RDREQ_RECEIVED (R576). -/
def execRdreqReceived (src : Fin 512) (reqSeq : Nat) (a : Word) (s : State) : Host.Outcome State Fault Refusal :=
  .next (s.run (bondReq src.val reqSeq a.toNat false 0))

/-- WRREQ_RECEIVED (R576). -/
def execWrreqReceived (src : Fin 512) (reqSeq : Nat) (a w : Word) (s : State) : Host.Outcome State Fault Refusal :=
  .next (s.run (bondReq src.val reqSeq a.toNat true w.toNat))

/-- BOND_MSG_SEND (R577). -/
def execBondMsgSend (s : State) : Host.Outcome State Fault Refusal :=
  .next (s.run (msgSend))

/-- MSG_RECEIVED (R578). -/
def execMsgReceived (src : Fin 512) (dq : Fin 64) (sfn : Nat) (l : List Byte) (s : State) : Host.Outcome State Fault Refusal :=
  .next (s.run (msgReceived src.val dq.val sfn l))

/-- MIRIN_RECEIVED (R579). -/
def execMirinReceived (src : Fin 512) (sfn : Nat) (aligned : Bool) (l : List Byte) (s : State) : Host.Outcome State Fault Refusal :=
  .next (s.run (mirin src.val sfn aligned l))

/-- MIROUT_RECEIVED (R583). -/
def execMiroutReceived (src : Fin 512) (sfn : Nat) (l : List Byte) (s : State) : Host.Outcome State Fault Refusal :=
  .next (s.run (mirout src.val sfn l))

/-- MIRROR_WINDOW_END (R586). -/
def execMirrorWindowEnd (s : State) : Host.Outcome State Fault Refusal :=
  .next (s.onHw (mirWindow))

/-- QKICK (R584). -/
def execQkick (ini : Initiator) (key : Byte) (s : State) : Host.Outcome State Fault Refusal :=
  .next (s.run (pageCmd ini 0x50 0 0x06C (BitVec.ofNat 32 (key.toNat))))

/-- QUOIN_EDGE (R585). -/
def execQuoinEdge (s : State) : Host.Outcome State Fault Refusal :=
  .next (s.onHw (quoinEdge))

/-- QUOIN_TIMEOUT (R585). -/
def execQuoinTimeout (s : State) : Host.Outcome State Fault Refusal :=
  .next (s.onHw (quoinTimeout))

/-- TAKEOVER_DELAY_END (R586). -/
def execTakeoverDelayEnd (s : State) : Host.Outcome State Fault Refusal :=
  .next (s.onHw (takeoverEnd))

/-- GATE (R586). -/
def execGate (ini : Initiator) (key : Byte) (open_ : Bool) (s : State) : Host.Outcome State Fault Refusal :=
  .next (s.run (pageCmd ini 0x50 0 0x070 (BitVec.ofNat 32 (key.toNat * 0x1000000 + open_.toNat))))

/-- CMP_CNT_READ (R46). -/
def execCmpCntRead (ini : Initiator) (s : State) : Host.Outcome State Fault Refusal :=
  .next (s.run (pageGet ini 0x50 0 0x064))

/-- LINK_CNT_READ (R46). -/
def execLinkCntRead (ini : Initiator) (s : State) : Host.Outcome State Fault Refusal :=
  .next (s.run (pageGet ini 0x50 0 0x068))

/-- MSG_STAT_READ (R46). -/
def execMsgStatRead (ini : Initiator) (s : State) : Host.Outcome State Fault Refusal :=
  .next (s.run (pageGet ini 0x50 0 0x084))

end Sys2Proof.Machine
end

