-- ==== Sys2Proof/Machine/RowCan.lean ====
section
/-!
DEFINITION. One meaning per row of the table: the CAN channels (chapter 12).
-/
namespace Sys2Proof.Machine

/-- CAN_MODE_INIT (R358). -/
def execCanModeInit (ini : Initiator) (n : Fin 8) (s : State) : Host.Outcome State Fault Refusal :=
  .next (s.run (pageCmd ini 0x20 n.val 0x040 0))

/-- CAN_MODE_NORMAL (R358). -/
def execCanModeNormal (ini : Initiator) (n : Fin 8) (s : State) : Host.Outcome State Fault Refusal :=
  .next (s.run (pageCmd ini 0x20 n.val 0x040 1))

/-- CAN_MODE_MONITOR (R358). -/
def execCanModeMonitor (ini : Initiator) (n : Fin 8) (s : State) : Host.Outcome State Fault Refusal :=
  .next (s.run (pageCmd ini 0x20 n.val 0x040 2))

/-- CAN_MODE_RESTRICTED (R358). -/
def execCanModeRestricted (ini : Initiator) (n : Fin 8) (s : State) : Host.Outcome State Fault Refusal :=
  .next (s.run (pageCmd ini 0x20 n.val 0x040 3))

/-- CAN_MODE_LOOPBACK (R358). -/
def execCanModeLoopback (ini : Initiator) (n : Fin 8) (s : State) : Host.Outcome State Fault Refusal :=
  .next (s.run (pageCmd ini 0x20 n.val 0x040 4))

/-- CAN_MODE_REFUSED (R358). -/
def execCanModeRefused (ini : Initiator) (n : Fin 8) (code : Fin 3) (s : State) : Host.Outcome State Fault Refusal :=
  .next (s.run (pageCmd ini 0x20 n.val 0x040 (BitVec.ofNat 32 (5 + code.val))))

/-- CAN_BUS_IDLE_APPLY (R357). -/
def execCanBusIdleApply (n : Fin 8) (s : State) : Host.Outcome State Fault Refusal :=
  .next (s.run (busEvent (fun m => m.onHw (canBusIdle n.val))))

/-- CAN_INTEGRATION_DONE (R358). -/
def execCanIntegrationDone (n : Fin 8) (s : State) : Host.Outcome State Fault Refusal :=
  .next (s.run (busEvent (fun m => m.onHw (canIntegrated n.val))))

/-- BOREQ (R373). -/
def execBoreq (ini : Initiator) (n : Fin 8) (mode : Fin 5) (s : State) : Host.Outcome State Fault Refusal :=
  .next (s.run (pageCmd ini 0x20 n.val 0x040 (BitVec.ofNat 32 (0x100 + mode.val))))

/-- BUS_OFF_RECOVERY_DONE (R373). -/
def execBusOffRecoveryDone (n : Fin 8) (s : State) : Host.Outcome State Fault Refusal :=
  .next (s.run (busEvent (fun m => m.onHw (canRecovered n.val))))

/-- CAN_FRAME_RECEIVED (R362). -/
def execCanFrameReceived (n : Fin 8) (f : CanFrame) (s : State) : Host.Outcome State Fault Refusal :=
  .next (s.run (busEvent (digested n.val 0x20 n.val (canReceive n.val f))))

/-- CAN_ERROR_DETECTED (R372). -/
def execCanErrorDetected (n : Fin 8) (lec : Fin 8) (cls : Fin 4) (after : Bool) (s : State) : Host.Outcome State Fault Refusal :=
  .next (s.run (busEvent (fun m => m.onHw (canError n.val lec.val cls.val after))))

/-- TXB_LOAD (R365). -/
def execTxbLoad (ini : Initiator) (n : Fin 8) (b : Fin 3) (w : Word) (s : State) : Host.Outcome State Fault Refusal :=
  .next (s.run (pageCmd ini 0x20 n.val (0x060 + 4 * b.val) w))

/-- CAN_TXQ_PUT (R365). -/
def execCanTxqPut (ini : Initiator) (n : Fin 8) (w : Word) (s : State) : Host.Outcome State Fault Refusal :=
  .next (s.run (pageCmd ini 0x20 n.val 0x080 w))

/-- TX_ABORT_BUFFER (R369). -/
def execTxAbortBuffer (ini : Initiator) (n : Fin 8) (b : Fin 3) (s : State) : Host.Outcome State Fault Refusal :=
  .next (s.run (pageCmd ini 0x20 n.val 0x07C (BitVec.ofNat 32 (2 ^ b.val))))

/-- TX_ABORT_QUEUE (R369). -/
def execTxAbortQueue (ini : Initiator) (n : Fin 8) (s : State) : Host.Outcome State Fault Refusal :=
  .next (s.run (pageCmd ini 0x20 n.val 0x07C 8))

/-- TX_SELECTION (R367). -/
def execTxSelection (n : Fin 8) (s : State) : Host.Outcome State Fault Refusal :=
  .next (s.run (busEvent (fun m => m.onHw (canSelect n.val))))

/-- CAN_TX_END (R370). -/
def execCanTxEnd (n : Fin 8) (r : TxResult) (tdcv : Byte) (s : State) : Host.Outcome State Fault Refusal :=
  .next (s.run (busEvent (canTxEnd n.val r tdcv.toNat)))

/-- CAN_TRX_NORMAL (R377). -/
def execCanTrxNormal (ini : Initiator) (n : Fin 8) (s : State) : Host.Outcome State Fault Refusal :=
  .next (s.run (pageCmd ini 0x20 n.val 0x094 0))

/-- CAN_TRX_SILENT (R377). -/
def execCanTrxSilent (ini : Initiator) (n : Fin 8) (s : State) : Host.Outcome State Fault Refusal :=
  .next (s.run (pageCmd ini 0x20 n.val 0x094 1))

/-- CAN_TRX_SLEEP (R377). -/
def execCanTrxSleep (ini : Initiator) (n : Fin 8) (s : State) : Host.Outcome State Fault Refusal :=
  .next (s.run (pageCmd ini 0x20 n.val 0x094 2))

/-- CAN_MODE_SWITCH_END (R377). -/
def execCanModeSwitchEnd (n : Fin 8) (s : State) : Host.Outcome State Fault Refusal :=
  .next (s.run (busEvent (fun m => m.onHw (canSwitchEnd n.val))))

/-- WUP (R378). -/
def execWup (n : Fin 4) (ns : Nat) (s : State) : Host.Outcome State Fault Refusal :=
  .next (s.run (busEvent (fun m => m.onHw (canWup n.val ns))))

/-- WUF (R379). -/
def execWuf (n : Fin 4) (ide : Bool) (id dlc data : Nat) (s : State) : Host.Outcome State Fault Refusal :=
  .next (s.run (busEvent (fun m => m.onHw (canWuf n.val ide id dlc data))))

/-- FECW (R380). -/
def execFecw (n : Fin 4) (s : State) : Host.Outcome State Fault Refusal :=
  .next (s.run (busEvent (fun m => m.onHw (canFecw n.val))))

/-- PERR_READ (R46). -/
def execPerrRead (ini : Initiator) (n : Fin 8) (s : State) : Host.Outcome State Fault Refusal :=
  .next (s.run (pageGet ini 0x20 n.val 0x04C))

/-- CAN_RX_STAT_READ (R46). -/
def execCanRxStatRead (ini : Initiator) (n : Fin 8) (s : State) : Host.Outcome State Fault Refusal :=
  .next (s.run (pageGet ini 0x20 n.val 0x050))

end Sys2Proof.Machine
end

