-- ==== Sys2Proof/Machine/RowCore.lean ====
section
/-!
DEFINITION. One meaning per row of the table: the Olkor cores (chapters 08, 09).
-/
namespace Sys2Proof.Machine

/-- CORE_INTERRUPT (R264). -/
def execCoreInterrupt (c : Fin 12) (s : State) : Host.Outcome State Fault Refusal :=
  .next (s.run (coreInterrupt c))

/-- NOP (R271). -/
def execNop (c : Fin 12) (hd : Head) (specs : List Spec) (s : State) : Host.Outcome State Fault Refusal :=
  .next (s.run (coreStep ⟨c, .nop, hd, specs⟩))

/-- TRAP (R271). -/
def execTrap (c : Fin 12) (hd : Head) (specs : List Spec) (s : State) : Host.Outcome State Fault Refusal :=
  .next (s.run (coreStep ⟨c, .trap, hd, specs⟩))

/-- ERET (R262). -/
def execEret (c : Fin 12) (hd : Head) (specs : List Spec) (s : State) : Host.Outcome State Fault Refusal :=
  .next (s.run (coreStep ⟨c, .eret, hd, specs⟩))

/-- DONE (R304). -/
def execDone (c : Fin 12) (hd : Head) (specs : List Spec) (s : State) : Host.Outcome State Fault Refusal :=
  .next (s.run (coreStep ⟨c, .done, hd, specs⟩))

/-- CRD (R258). -/
def execCrd (c : Fin 12) (hd : Head) (specs : List Spec) (s : State) : Host.Outcome State Fault Refusal :=
  .next (s.run (coreStep ⟨c, .crd, hd, specs⟩))

/-- CWR (R274). -/
def execCwr (c : Fin 12) (hd : Head) (specs : List Spec) (s : State) : Host.Outcome State Fault Refusal :=
  .next (s.run (coreStep ⟨c, .cwr, hd, specs⟩))

/-- REP (R275). -/
def execRep (c : Fin 12) (hd : Head) (specs : List Spec) (s : State) : Host.Outcome State Fault Refusal :=
  .next (s.run (coreStep ⟨c, .rep, hd, specs⟩))

/-- REPI (R276). -/
def execRepi (c : Fin 12) (hd : Head) (specs : List Spec) (s : State) : Host.Outcome State Fault Refusal :=
  .next (s.run (coreStep ⟨c, .repi, hd, specs⟩))

/-- BR (R273). -/
def execBr (c : Fin 12) (hd : Head) (specs : List Spec) (s : State) : Host.Outcome State Fault Refusal :=
  .next (s.run (coreStep ⟨c, .br, hd, specs⟩))

/-- JMP (R273). -/
def execJmp (c : Fin 12) (hd : Head) (specs : List Spec) (s : State) : Host.Outcome State Fault Refusal :=
  .next (s.run (coreStep ⟨c, .jmp, hd, specs⟩))

/-- CALL (R273). -/
def execCall (c : Fin 12) (hd : Head) (specs : List Spec) (s : State) : Host.Outcome State Fault Refusal :=
  .next (s.run (coreStep ⟨c, .call, hd, specs⟩))

/-- FRN (R289). -/
def execFrn (c : Fin 12) (hd : Head) (specs : List Spec) (s : State) : Host.Outcome State Fault Refusal :=
  .next (s.run (coreStep ⟨c, .frn, hd, specs⟩))

/-- ADD (R271). -/
def execAdd (c : Fin 12) (hd : Head) (specs : List Spec) (s : State) : Host.Outcome State Fault Refusal :=
  .next (s.run (coreStep ⟨c, .add, hd, specs⟩))

/-- ADDC (R271). -/
def execAddc (c : Fin 12) (hd : Head) (specs : List Spec) (s : State) : Host.Outcome State Fault Refusal :=
  .next (s.run (coreStep ⟨c, .addc, hd, specs⟩))

/-- SUB (R271). -/
def execSub (c : Fin 12) (hd : Head) (specs : List Spec) (s : State) : Host.Outcome State Fault Refusal :=
  .next (s.run (coreStep ⟨c, .sub, hd, specs⟩))

/-- SUBB (R271). -/
def execSubb (c : Fin 12) (hd : Head) (specs : List Spec) (s : State) : Host.Outcome State Fault Refusal :=
  .next (s.run (coreStep ⟨c, .subb, hd, specs⟩))

/-- NEG (R271). -/
def execNeg (c : Fin 12) (hd : Head) (specs : List Spec) (s : State) : Host.Outcome State Fault Refusal :=
  .next (s.run (coreStep ⟨c, .neg, hd, specs⟩))

/-- CMP (R271). -/
def execCmp (c : Fin 12) (hd : Head) (specs : List Spec) (s : State) : Host.Outcome State Fault Refusal :=
  .next (s.run (coreStep ⟨c, .cmp, hd, specs⟩))

/-- DIVU (R272). -/
def execDivu (c : Fin 12) (hd : Head) (specs : List Spec) (s : State) : Host.Outcome State Fault Refusal :=
  .next (s.run (coreStep ⟨c, .divu, hd, specs⟩))

/-- DIVS (R272). -/
def execDivs (c : Fin 12) (hd : Head) (specs : List Spec) (s : State) : Host.Outcome State Fault Refusal :=
  .next (s.run (coreStep ⟨c, .divs, hd, specs⟩))

/-- REMU (R272). -/
def execRemu (c : Fin 12) (hd : Head) (specs : List Spec) (s : State) : Host.Outcome State Fault Refusal :=
  .next (s.run (coreStep ⟨c, .remu, hd, specs⟩))

/-- REMS (R272). -/
def execRems (c : Fin 12) (hd : Head) (specs : List Spec) (s : State) : Host.Outcome State Fault Refusal :=
  .next (s.run (coreStep ⟨c, .rems, hd, specs⟩))

/-- MOV (R271). -/
def execMov (c : Fin 12) (hd : Head) (specs : List Spec) (s : State) : Host.Outcome State Fault Refusal :=
  .next (s.run (coreStep ⟨c, .mov, hd, specs⟩))

/-- MOVZ (R271). -/
def execMovz (c : Fin 12) (hd : Head) (specs : List Spec) (s : State) : Host.Outcome State Fault Refusal :=
  .next (s.run (coreStep ⟨c, .movz, hd, specs⟩))

/-- MOVS (R271). -/
def execMovs (c : Fin 12) (hd : Head) (specs : List Spec) (s : State) : Host.Outcome State Fault Refusal :=
  .next (s.run (coreStep ⟨c, .movs, hd, specs⟩))

/-- AND (R271). -/
def execAnd (c : Fin 12) (hd : Head) (specs : List Spec) (s : State) : Host.Outcome State Fault Refusal :=
  .next (s.run (coreStep ⟨c, .and, hd, specs⟩))

/-- OR (R271). -/
def execOr (c : Fin 12) (hd : Head) (specs : List Spec) (s : State) : Host.Outcome State Fault Refusal :=
  .next (s.run (coreStep ⟨c, .or, hd, specs⟩))

/-- XOR (R271). -/
def execXor (c : Fin 12) (hd : Head) (specs : List Spec) (s : State) : Host.Outcome State Fault Refusal :=
  .next (s.run (coreStep ⟨c, .xor, hd, specs⟩))

/-- ANDN (R271). -/
def execAndn (c : Fin 12) (hd : Head) (specs : List Spec) (s : State) : Host.Outcome State Fault Refusal :=
  .next (s.run (coreStep ⟨c, .andn, hd, specs⟩))

/-- NOT (R271). -/
def execNot (c : Fin 12) (hd : Head) (specs : List Spec) (s : State) : Host.Outcome State Fault Refusal :=
  .next (s.run (coreStep ⟨c, .not, hd, specs⟩))

/-- TST (R271). -/
def execTst (c : Fin 12) (hd : Head) (specs : List Spec) (s : State) : Host.Outcome State Fault Refusal :=
  .next (s.run (coreStep ⟨c, .tst, hd, specs⟩))

/-- SHL (R272). -/
def execShl (c : Fin 12) (hd : Head) (specs : List Spec) (s : State) : Host.Outcome State Fault Refusal :=
  .next (s.run (coreStep ⟨c, .shl, hd, specs⟩))

/-- SHR (R272). -/
def execShr (c : Fin 12) (hd : Head) (specs : List Spec) (s : State) : Host.Outcome State Fault Refusal :=
  .next (s.run (coreStep ⟨c, .shr, hd, specs⟩))

/-- SAR (R272). -/
def execSar (c : Fin 12) (hd : Head) (specs : List Spec) (s : State) : Host.Outcome State Fault Refusal :=
  .next (s.run (coreStep ⟨c, .sar, hd, specs⟩))

/-- ROL (R272). -/
def execRol (c : Fin 12) (hd : Head) (specs : List Spec) (s : State) : Host.Outcome State Fault Refusal :=
  .next (s.run (coreStep ⟨c, .rol, hd, specs⟩))

/-- MULU (R279). -/
def execMulu (c : Fin 12) (hd : Head) (specs : List Spec) (s : State) : Host.Outcome State Fault Refusal :=
  .next (s.run (coreStep ⟨c, .mulu, hd, specs⟩))

/-- MULS (R279). -/
def execMuls (c : Fin 12) (hd : Head) (specs : List Spec) (s : State) : Host.Outcome State Fault Refusal :=
  .next (s.run (coreStep ⟨c, .muls, hd, specs⟩))

/-- MACU (R279). -/
def execMacu (c : Fin 12) (hd : Head) (specs : List Spec) (s : State) : Host.Outcome State Fault Refusal :=
  .next (s.run (coreStep ⟨c, .macu, hd, specs⟩))

/-- MACS (R279). -/
def execMacs (c : Fin 12) (hd : Head) (specs : List Spec) (s : State) : Host.Outcome State Fault Refusal :=
  .next (s.run (coreStep ⟨c, .macs, hd, specs⟩))

/-- MOVP (R281). -/
def execMovp (c : Fin 12) (hd : Head) (specs : List Spec) (s : State) : Host.Outcome State Fault Refusal :=
  .next (s.run (coreStep ⟨c, .movp, hd, specs⟩))

/-- VMULU (R280). -/
def execVmulu (c : Fin 12) (hd : Head) (specs : List Spec) (s : State) : Host.Outcome State Fault Refusal :=
  .next (s.run (coreStep ⟨c, .vmulu, hd, specs⟩))

/-- VMULS (R280). -/
def execVmuls (c : Fin 12) (hd : Head) (specs : List Spec) (s : State) : Host.Outcome State Fault Refusal :=
  .next (s.run (coreStep ⟨c, .vmuls, hd, specs⟩))

/-- VMACU (R280). -/
def execVmacu (c : Fin 12) (hd : Head) (specs : List Spec) (s : State) : Host.Outcome State Fault Refusal :=
  .next (s.run (coreStep ⟨c, .vmacu, hd, specs⟩))

/-- VMACS (R280). -/
def execVmacs (c : Fin 12) (hd : Head) (specs : List Spec) (s : State) : Host.Outcome State Fault Refusal :=
  .next (s.run (coreStep ⟨c, .vmacs, hd, specs⟩))

/-- VADD (R282). -/
def execVadd (c : Fin 12) (hd : Head) (specs : List Spec) (s : State) : Host.Outcome State Fault Refusal :=
  .next (s.run (coreStep ⟨c, .vadd, hd, specs⟩))

/-- VSUB (R282). -/
def execVsub (c : Fin 12) (hd : Head) (specs : List Spec) (s : State) : Host.Outcome State Fault Refusal :=
  .next (s.run (coreStep ⟨c, .vsub, hd, specs⟩))

/-- VADDS (R282). -/
def execVadds (c : Fin 12) (hd : Head) (specs : List Spec) (s : State) : Host.Outcome State Fault Refusal :=
  .next (s.run (coreStep ⟨c, .vadds, hd, specs⟩))

/-- VSUBS (R282). -/
def execVsubs (c : Fin 12) (hd : Head) (specs : List Spec) (s : State) : Host.Outcome State Fault Refusal :=
  .next (s.run (coreStep ⟨c, .vsubs, hd, specs⟩))

/-- VADDUS (R282). -/
def execVaddus (c : Fin 12) (hd : Head) (specs : List Spec) (s : State) : Host.Outcome State Fault Refusal :=
  .next (s.run (coreStep ⟨c, .vaddus, hd, specs⟩))

/-- VSUBUS (R282). -/
def execVsubus (c : Fin 12) (hd : Head) (specs : List Spec) (s : State) : Host.Outcome State Fault Refusal :=
  .next (s.run (coreStep ⟨c, .vsubus, hd, specs⟩))

/-- VMIN (R282). -/
def execVmin (c : Fin 12) (hd : Head) (specs : List Spec) (s : State) : Host.Outcome State Fault Refusal :=
  .next (s.run (coreStep ⟨c, .vmin, hd, specs⟩))

/-- VMAX (R282). -/
def execVmax (c : Fin 12) (hd : Head) (specs : List Spec) (s : State) : Host.Outcome State Fault Refusal :=
  .next (s.run (coreStep ⟨c, .vmax, hd, specs⟩))

/-- VMINU (R282). -/
def execVminu (c : Fin 12) (hd : Head) (specs : List Spec) (s : State) : Host.Outcome State Fault Refusal :=
  .next (s.run (coreStep ⟨c, .vminu, hd, specs⟩))

/-- VMAXU (R282). -/
def execVmaxu (c : Fin 12) (hd : Head) (specs : List Spec) (s : State) : Host.Outcome State Fault Refusal :=
  .next (s.run (coreStep ⟨c, .vmaxu, hd, specs⟩))

/-- VCEQ (R282). -/
def execVceq (c : Fin 12) (hd : Head) (specs : List Spec) (s : State) : Host.Outcome State Fault Refusal :=
  .next (s.run (coreStep ⟨c, .vceq, hd, specs⟩))

/-- VCGT (R282). -/
def execVcgt (c : Fin 12) (hd : Head) (specs : List Spec) (s : State) : Host.Outcome State Fault Refusal :=
  .next (s.run (coreStep ⟨c, .vcgt, hd, specs⟩))

/-- VCGTU (R282). -/
def execVcgtu (c : Fin 12) (hd : Head) (specs : List Spec) (s : State) : Host.Outcome State Fault Refusal :=
  .next (s.run (coreStep ⟨c, .vcgtu, hd, specs⟩))

/-- VSHL (R282). -/
def execVshl (c : Fin 12) (hd : Head) (specs : List Spec) (s : State) : Host.Outcome State Fault Refusal :=
  .next (s.run (coreStep ⟨c, .vshl, hd, specs⟩))

/-- VSHR (R282). -/
def execVshr (c : Fin 12) (hd : Head) (specs : List Spec) (s : State) : Host.Outcome State Fault Refusal :=
  .next (s.run (coreStep ⟨c, .vshr, hd, specs⟩))

/-- VSAR (R282). -/
def execVsar (c : Fin 12) (hd : Head) (specs : List Spec) (s : State) : Host.Outcome State Fault Refusal :=
  .next (s.run (coreStep ⟨c, .vsar, hd, specs⟩))

/-- TAS (R283). -/
def execTas (c : Fin 12) (hd : Head) (specs : List Spec) (s : State) : Host.Outcome State Fault Refusal :=
  .next (s.run (coreStep ⟨c, .tas, hd, specs⟩))

/-- LR (R283). -/
def execLr (c : Fin 12) (hd : Head) (specs : List Spec) (s : State) : Host.Outcome State Fault Refusal :=
  .next (s.run (coreStep ⟨c, .lr, hd, specs⟩))

/-- SC (R284). -/
def execSc (c : Fin 12) (hd : Head) (specs : List Spec) (s : State) : Host.Outcome State Fault Refusal :=
  .next (s.run (coreStep ⟨c, .sc, hd, specs⟩))

/-- PROBE (R286). -/
def execProbe (c : Fin 12) (hd : Head) (specs : List Spec) (s : State) : Host.Outcome State Fault Refusal :=
  .next (s.run (coreStep ⟨c, .probe, hd, specs⟩))

end Sys2Proof.Machine
end

