-- ==== Sys2Proof/Machine/RowCry.lean ====
section
/-!
DEFINITION. One meaning per row of the table: the crypto engine (chapter 19).
-/
namespace Sys2Proof.Machine

/-- HASH (R556). -/
def execHash (ini : Initiator) (s : State) : Host.Outcome State Fault Refusal :=
  .next (s.run (pageCmd ini 0x41 0 0x040 0x7B000001))

/-- VERIFY (R556). -/
def execVerify (ini : Initiator) (s : State) : Host.Outcome State Fault Refusal :=
  .next (s.run (pageCmd ini 0x41 0 0x040 0x7B000002))

/-- QUOTE (R554). -/
def execQuote (ini : Initiator) (s : State) : Host.Outcome State Fault Refusal :=
  .next (s.run (pageCmd ini 0x41 0 0x040 0x7B000003))

/-- IDEXPORT (R543). -/
def execIdexport (ini : Initiator) (s : State) : Host.Outcome State Fault Refusal :=
  .next (s.run (pageCmd ini 0x41 0 0x040 0x7B000004))

/-- KTEXPORT (R555). -/
def execKtexport (ini : Initiator) (s : State) : Host.Outcome State Fault Refusal :=
  .next (s.run (pageCmd ini 0x41 0 0x040 0x7B000005))

/-- KEYSET (R545). -/
def execKeyset (ini : Initiator) (s : State) : Host.Outcome State Fault Refusal :=
  .next (s.run (pageCmd ini 0x41 0 0x040 0x7B000006))

/-- ERASE (R549). -/
def execErase (ini : Initiator) (s : State) : Host.Outcome State Fault Refusal :=
  .next (s.run (pageCmd ini 0x41 0 0x040 0x7B000007))

/-- PROGRAM (R549). -/
def execProgram (ini : Initiator) (s : State) : Host.Outcome State Fault Refusal :=
  .next (s.run (pageCmd ini 0x41 0 0x040 0x7B000008))

/-- COMMIT (R550). -/
def execCommit (ini : Initiator) (s : State) : Host.Outcome State Fault Refusal :=
  .next (s.run (pageCmd ini 0x41 0 0x040 0x7B000009))

/-- ROLLFWD (R551). -/
def execRollfwd (ini : Initiator) (s : State) : Host.Outcome State Fault Refusal :=
  .next (s.run (pageCmd ini 0x41 0 0x040 0x7B00000A))

/-- UCFG (R553). -/
def execUcfg (ini : Initiator) (s : State) : Host.Outcome State Fault Refusal :=
  .next (s.run (pageCmd ini 0x41 0 0x040 0x7B00000B))

/-- RAND (R556). -/
def execRand (ini : Initiator) (s : State) : Host.Outcome State Fault Refusal :=
  .next (s.run (pageCmd ini 0x41 0 0x040 0x7B00000C))

/-- BADOP (R556). -/
def execBadop (ini : Initiator) (op : Byte) (s : State) : Host.Outcome State Fault Refusal :=
  .next (s.run (pageCmd ini 0x41 0 0x040 (BitVec.ofNat 32 (0x7B000000 + op.toNat))))

/-- CRYPTO_CMD_REFUSED (R557). -/
def execCryptoCmdRefused (ini : Initiator) (w : Word) (s : State) : Host.Outcome State Fault Refusal :=
  .next (s.run (pageCmd ini 0x41 0 0x040 w))

/-- CRYPTO_OPERATION_DONE (R560). -/
def execCryptoOperationDone (nvFail : Bool) (s : State) : Host.Outcome State Fault Refusal :=
  .next (s.run (cryDone nvFail))

end Sys2Proof.Machine
end

