-- ==== Sys2Proof/Machine/RowDma.lean ====
section
/-!
DEFINITION. One meaning per row of the table: the DMA channels (chapter 11).
-/
namespace Sys2Proof.Machine

/-- DMA_START (R338). -/
def execDmaStart (ini : Initiator) (n : Fin 64) (s : State) : Host.Outcome State Fault Refusal :=
  .next (s.run (pageCmd ini 0x31 n.val 0x040 1))

/-- DMA_STOP (R338). -/
def execDmaStop (ini : Initiator) (n : Fin 64) (s : State) : Host.Outcome State Fault Refusal :=
  .next (s.run (pageCmd ini 0x31 n.val 0x040 2))

/-- DMA_ABORT (R338). -/
def execDmaAbort (ini : Initiator) (n : Fin 64) (s : State) : Host.Outcome State Fault Refusal :=
  .next (s.run (pageCmd ini 0x31 n.val 0x040 3))

/-- DMA_RESUME (R338). -/
def execDmaResume (ini : Initiator) (n : Fin 64) (s : State) : Host.Outcome State Fault Refusal :=
  .next (s.run (pageCmd ini 0x31 n.val 0x040 4))

/-- DMA_CMD_REFUSED (R338). -/
def execDmaCmdRefused (ini : Initiator) (n : Fin 64) (op : BitVec 3) (s : State) : Host.Outcome State Fault Refusal :=
  .next (s.run (pageCmd ini 0x31 n.val 0x040 (BitVec.ofNat 32 (op.toNat))))

/-- DESCRIPTOR_START (R335). -/
def execDescriptorStart (n : Fin 64) (s : State) : Host.Outcome State Fault Refusal :=
  .next (s.run (dmaDescStart n.val))

/-- DMA_UNIT (R332). -/
def execDmaUnit (n : Fin 64) (s : State) : Host.Outcome State Fault Refusal :=
  .next (s.run (dmaUnit n.val))

/-- DMA_RETRY (R337). -/
def execDmaRetry (n : Fin 64) (s : State) : Host.Outcome State Fault Refusal :=
  .next (s.run (dmaRetry n.val))

/-- PACING_GATE_EVAL (R339). -/
def execPacingGateEval (n : Fin 64) (s : State) : Host.Outcome State Fault Refusal :=
  .next (s.onHw (dmaGate n.val))

/-- DMA_DROP_CNT_READ (R46). -/
def execDmaDropCntRead (ini : Initiator) (n : Fin 64) (s : State) : Host.Outcome State Fault Refusal :=
  .next (s.run (pageGet ini 0x31 n.val 0x060))

end Sys2Proof.Machine
end

