-- ==== Sys2Proof/Machine/RowHbr.lean ====
section
/-!
DEFINITION. One meaning per row of the table: the half-bridges (chapter 05).
-/
namespace Sys2Proof.Machine

/-- HBR_CMD_OFF_COAST (R141). -/
def execHbrCmdOffCoast (ini : Initiator) (n : Fin 24) (duty : BitVec 16) (s : State) : Host.Outcome State Fault Refusal :=
  .next (s.run (pageCmd ini 0x11 n.val 0x040 (BitVec.ofNat 32 (duty.toNat * 0x10000 + 0))))

/-- HBR_CMD_HIGH_FWD (R141). -/
def execHbrCmdHighFwd (ini : Initiator) (n : Fin 24) (duty : BitVec 16) (s : State) : Host.Outcome State Fault Refusal :=
  .next (s.run (pageCmd ini 0x11 n.val 0x040 (BitVec.ofNat 32 (duty.toNat * 0x10000 + 1))))

/-- HBR_CMD_LOW_REV (R141). -/
def execHbrCmdLowRev (ini : Initiator) (n : Fin 24) (duty : BitVec 16) (s : State) : Host.Outcome State Fault Refusal :=
  .next (s.run (pageCmd ini 0x11 n.val 0x040 (BitVec.ofNat 32 (duty.toNat * 0x10000 + 2))))

/-- HBR_CMD_PWM_BRAKE (R141). -/
def execHbrCmdPwmBrake (ini : Initiator) (n : Fin 24) (duty : BitVec 16) (s : State) : Host.Outcome State Fault Refusal :=
  .next (s.run (pageCmd ini 0x11 n.val 0x040 (BitVec.ofNat 32 (duty.toNat * 0x10000 + 3))))

/-- HBR_CMD_BRAKEH (R141). -/
def execHbrCmdBrakeh (ini : Initiator) (n : Fin 24) (duty : BitVec 16) (s : State) : Host.Outcome State Fault Refusal :=
  .next (s.run (pageCmd ini 0x11 n.val 0x040 (BitVec.ofNat 32 (duty.toNat * 0x10000 + 4))))

/-- HBR_CMD_FPWM (R141). -/
def execHbrCmdFpwm (ini : Initiator) (n : Fin 24) (duty : BitVec 16) (s : State) : Host.Outcome State Fault Refusal :=
  .next (s.run (pageCmd ini 0x11 n.val 0x040 (BitVec.ofNat 32 (duty.toNat * 0x10000 + 5))))

/-- HBR_CMD_RPWM (R141). -/
def execHbrCmdRpwm (ini : Initiator) (n : Fin 24) (duty : BitVec 16) (s : State) : Host.Outcome State Fault Refusal :=
  .next (s.run (pageCmd ini 0x11 n.val 0x040 (BitVec.ofNat 32 (duty.toNat * 0x10000 + 6))))

/-- HBR_CMD_RESERVED (R141). -/
def execHbrCmdReserved (ini : Initiator) (n : Fin 24) (code : BitVec 3) (duty : BitVec 16) (s : State) : Host.Outcome State Fault Refusal :=
  .next (s.run (pageCmd ini 0x11 n.val 0x040 (BitVec.ofNat 32 (duty.toNat * 0x10000 + code.toNat))))

/-- HBR_MEMBER_WRITE (R139). -/
def execHbrMemberWrite (ini : Initiator) (n : Fin 24) (w : Word) (s : State) : Host.Outcome State Fault Refusal :=
  .next (s.run (pageCmd ini 0x11 n.val 0x040 w))

/-- HBR_SWITCH_CHANGE (R143). -/
def execHbrSwitchChange (n : Fin 24) (s : State) : Host.Outcome State Fault Refusal :=
  .next (s.onHw (hbrSwitch n.val))

/-- REVDLY_END (R145). -/
def execRevdlyEnd (n : Fin 24) (s : State) : Host.Outcome State Fault Refusal :=
  .next (s.onHw (hbrRevEnd n.val))

/-- REGULATION_DECAY (R146). -/
def execRegulationDecay (n : Fin 24) (mA : Nat) (s : State) : Host.Outcome State Fault Refusal :=
  .next (s.onHw (hbrReg n.val mA))

/-- REGULATION_OFF_TIME_END (R146). -/
def execRegulationOffTimeEnd (n : Fin 24) (s : State) : Host.Outcome State Fault Refusal :=
  .next (s.onHw (hbrRegEnd n.val))

/-- HBR_OVERCURRENT (R147). -/
def execHbrOvercurrent (n : Fin 24) (mA : Nat) (s : State) : Host.Outcome State Fault Refusal :=
  .next (s.onHw (hbrOver n.val mA))

/-- HBR_DESATURATION (R148). -/
def execHbrDesaturation (n : Fin 24) (d : SwitchDrop) (s : State) : Host.Outcome State Fault Refusal :=
  .next (s.onHw (hbrDesat n.val d.high d.mV))

/-- HBR_THERMAL_LATCH_SET (R150). -/
def execHbrThermalLatchSet (n : Fin 24) (degC : Nat) (s : State) : Host.Outcome State Fault Refusal :=
  .next (s.onHw (hbrTherm n.val degC))

/-- HBR_THERMAL_LATCH_RELEASE (R150). -/
def execHbrThermalLatchRelease (n : Fin 24) (degC : Nat) (s : State) : Host.Outcome State Fault Refusal :=
  .next (s.onHw (hbrThermRelease n.val degC))

/-- STALL (R151). -/
def execStall (e : StallTime) (s : State) : Host.Outcome State Fault Refusal :=
  .next (s.onHw (hbrStall e.unit.val e.mA e.ms))

/-- STALL_ACC_RESET (R151). -/
def execStallAccReset (n : Fin 24) (s : State) : Host.Outcome State Fault Refusal :=
  .next (s.onHw (hbrStallReset n.val))

/-- POS_CNT_WRITE (R152). -/
def execPosCntWrite (ini : Initiator) (n : Fin 24) (v : BitVec 16) (s : State) : Host.Outcome State Fault Refusal :=
  .next (s.run (pageCmd ini 0x11 n.val 0x050 (BitVec.ofNat 32 (v.toNat))))

/-- HBR_TRIP_CNT_READ (R46). -/
def execHbrTripCntRead (ini : Initiator) (n : Fin 24) (s : State) : Host.Outcome State Fault Refusal :=
  .next (s.run (pageGet ini 0x11 n.val 0x04C))

end Sys2Proof.Machine
end

