-- ==== Sys2Proof/Machine/RowHsw.lean ====
section
/-!
DEFINITION. One meaning per row of the table: the high-side channels and their feed groups (chapter 04).
-/
namespace Sys2Proof.Machine

/-- HSW_CMD_OFF (R100). -/
def execHswCmdOff (ini : Initiator) (n : Fin 96) (duty : BitVec 16) (s : State) : Host.Outcome State Fault Refusal :=
  .next (s.run (pageCmd ini 0x10 n.val 0x040 (BitVec.ofNat 32 (duty.toNat * 0x10000 + 0))))

/-- HSW_CMD_ON (R100). -/
def execHswCmdOn (ini : Initiator) (n : Fin 96) (duty : BitVec 16) (s : State) : Host.Outcome State Fault Refusal :=
  .next (s.run (pageCmd ini 0x10 n.val 0x040 (BitVec.ofNat 32 (duty.toNat * 0x10000 + 1))))

/-- HSW_CMD_PWM (R100). -/
def execHswCmdPwm (ini : Initiator) (n : Fin 96) (duty : BitVec 16) (s : State) : Host.Outcome State Fault Refusal :=
  .next (s.run (pageCmd ini 0x10 n.val 0x040 (BitVec.ofNat 32 (duty.toNat * 0x10000 + 2))))

/-- HSW_CMD_RESERVED (R101). -/
def execHswCmdReserved (ini : Initiator) (n : Fin 96) (duty : BitVec 16) (s : State) : Host.Outcome State Fault Refusal :=
  .next (s.run (pageCmd ini 0x10 n.val 0x040 (BitVec.ofNat 32 (duty.toNat * 0x10000 + 3))))

/-- HSW_EDGE_START (R102). -/
def execHswEdgeStart (n : Fin 96) (s : State) : Host.Outcome State Fault Refusal :=
  .next (s.onHw (hswEdge n.val))

/-- PWM_PERIOD_START (R106). -/
def execPwmPeriodStart (out : Output) (k tOa : Nat) (s : State) : Host.Outcome State Fault Refusal :=
  .next (s.onHw (pwmPeriodStart out k tOa))

/-- PWM_ON_PHASE_END (R105). -/
def execPwmOnPhaseEnd (out : Output) (s : State) : Host.Outcome State Fault Refusal :=
  .next (s.onHw (pwmOnPhaseEnd out))

/-- CURRENT_LIMIT_ENTRY (R111). -/
def execCurrentLimitEntry (n : Fin 96) (mA : Nat) (s : State) : Host.Outcome State Fault Refusal :=
  .next (s.onHw (hswLimEntry n.val mA))

/-- CURRENT_LIMIT_EXIT (R113). -/
def execCurrentLimitExit (n : Fin 96) (s : State) : Host.Outcome State Fault Refusal :=
  .next (s.onHw (hswLimExit n.val))

/-- INRUSH_WINDOW_END (R111). -/
def execInrushWindowEnd (n : Fin 96) (s : State) : Host.Outcome State Fault Refusal :=
  .next (s.onHw (hswInrushEnd n.val))

/-- LIMIT_ACC_CLEAR (R113). -/
def execLimitAccClear (n : Fin 96) (s : State) : Host.Outcome State Fault Refusal :=
  .next (s.onHw (hswAccClear n.val))

/-- SHORT_CIRCUIT (R112). -/
def execShortCircuit (n : Fin 96) (mA : Nat) (s : State) : Host.Outcome State Fault Refusal :=
  .next (s.onHw (hswShort n.val mA))

/-- LIMQ (R113). -/
def execLimq (n : Fin 96) (s : State) : Host.Outcome State Fault Refusal :=
  .next (s.onHw (hswLimq n.val))

/-- HSW_THERMAL_LATCH_SET (R114). -/
def execHswThermalLatchSet (n : Fin 96) (degC : Nat) (s : State) : Host.Outcome State Fault Refusal :=
  .next (s.onHw (hswTherm n.val degC))

/-- HSW_THERMAL_LATCH_RELEASE (R116). -/
def execHswThermalLatchRelease (n : Fin 96) (degC : Nat) (s : State) : Host.Outcome State Fault Refusal :=
  .next (s.onHw (hswThermRelease n.val degC))

/-- RETRY_DELAY_END (R115). -/
def execRetryDelayEnd (n : Fin 96) (s : State) : Host.Outcome State Fault Refusal :=
  .next (s.onHw (hswRetryEnd n.val))

/-- WIRE_MODEL_UPDATE (R118). -/
def execWireModelUpdate (n : Fin 96) (i2 : Nat) (s : State) : Host.Outcome State Fault Refusal :=
  .next (s.onHw (hswWire n.val i2))

/-- OPEN_LOAD_DETECT (R122). -/
def execOpenLoadDetect (n : Fin 96) (mA : Nat) (s : State) : Host.Outcome State Fault Refusal :=
  .next (s.onHw (hswOpen n.val mA))

/-- OPEN_LOAD_CLEAR (R122). -/
def execOpenLoadClear (n : Fin 96) (mA : Nat) (s : State) : Host.Outcome State Fault Refusal :=
  .next (s.onHw (hswOpenClear n.val mA))

/-- REVERSE_CURRENT_TRIP (R638). -/
def execReverseCurrentTrip (n : Fin 96) (mA : Nat) (s : State) : Host.Outcome State Fault Refusal :=
  .next (s.onHw (hswReverse n.val mA))

/-- FEED_VOLTAGE_DROP (R126). -/
def execFeedVoltageDrop (g : Fin 4) (mV : Nat) (s : State) : Host.Outcome State Fault Refusal :=
  .next (s.onHw (feedDrop g.val mV))

/-- FEED_UNDER_VOLTAGE (R126). -/
def execFeedUnderVoltage (g : Fin 4) (s : State) : Host.Outcome State Fault Refusal :=
  .next (s.onHw (feedUv g.val))

/-- FEED_VOLTAGE_RECOVERY (R126). -/
def execFeedVoltageRecovery (g : Fin 4) (mV : Nat) (s : State) : Host.Outcome State Fault Refusal :=
  .next (s.onHw (feedRecovery g.val mV))

/-- FEED_GROUP_RESTART (R127). -/
def execFeedGroupRestart (g : Fin 4) (s : State) : Host.Outcome State Fault Refusal :=
  .next (s.onHw (feedRestart g.val))

/-- POWER_DIE_SUPPLY_LOSS (R128). -/
def execPowerDieSupplyLoss (g : Fin 4) (s : State) : Host.Outcome State Fault Refusal :=
  .next (s.onHw (dieLoss g.val))

/-- POWER_DIE_SUPPLY_START (R128). -/
def execPowerDieSupplyStart (g : Fin 4) (s : State) : Host.Outcome State Fault Refusal :=
  .next (s.onHw (dieStart g.val))

/-- HSW_TRIP_CNT_READ (R46). -/
def execHswTripCntRead (ini : Initiator) (n : Fin 96) (s : State) : Host.Outcome State Fault Refusal :=
  .next (s.run (pageGet ini 0x10 n.val 0x04C))

/-- UV_CNT_READ (R46). -/
def execUvCntRead (ini : Initiator) (g : Fin 4) (s : State) : Host.Outcome State Fault Refusal :=
  .next (s.run (pageGet ini 0x10 (12 * g.val) 0x058))

end Sys2Proof.Machine
end

