-- ==== Sys2Proof/Machine/RowKey.lean ====
section
/-!
DEFINITION. One meaning per row of the table: Keystone and Ashlar (chapter 10).
-/
namespace Sys2Proof.Machine

/-- CTX_ENABLE (R293). -/
def execCtxEnable (ini : Initiator) (n : Byte) (s : State) : Host.Outcome State Fault Refusal :=
  .next (s.run (pageCmd ini 0x30 0 0x040 (BitVec.ofNat 32 (0x10000000 + n.toNat))))

/-- CTX_DISABLE (R305). -/
def execCtxDisable (ini : Initiator) (n : Byte) (s : State) : Host.Outcome State Fault Refusal :=
  .next (s.run (pageCmd ini 0x30 0 0x040 (BitVec.ofNat 32 (0x20000000 + n.toNat))))

/-- CTX_ACTIVATE (R296). -/
def execCtxActivate (ini : Initiator) (n : Byte) (s : State) : Host.Outcome State Fault Refusal :=
  .next (s.run (pageCmd ini 0x30 0 0x040 (BitVec.ofNat 32 (0x30000000 + n.toNat))))

/-- CTX_ABORT (R305). -/
def execCtxAbort (ini : Initiator) (n : Byte) (s : State) : Host.Outcome State Fault Refusal :=
  .next (s.run (pageCmd ini 0x30 0 0x040 (BitVec.ofNat 32 (0x40000000 + n.toNat))))

/-- CTX_CMD_REFUSED (R326). -/
def execCtxCmdRefused (ini : Initiator) (op : BitVec 4) (n : Byte) (s : State) : Host.Outcome State Fault Refusal :=
  .next (s.run (pageCmd ini 0x30 0 0x040 (BitVec.ofNat 32 (op.toNat * 0x10000000 + n.toNat))))

/-- YIELD (R303). -/
def execYield (ini : Initiator) (s : State) : Host.Outcome State Fault Refusal :=
  .next (s.run (pageCmd ini 0x30 0 0x044 1))

/-- EVL_WR (R310). -/
def execEvlWr (ini : Initiator) (w : Word) (s : State) : Host.Outcome State Fault Refusal :=
  .next (s.run (pageCmd ini 0x30 0 0x048 w))

/-- EVSW (R308). -/
def execEvsw (ini : Initiator) (w : Word) (s : State) : Host.Outcome State Fault Refusal :=
  .next (s.run (pageCmd ini 0x30 0 0x054 w))

/-- EVENT_LINE_CAUSE (R309). -/
def execEventLineCause (l : Fin 1024) (s : State) : Host.Outcome State Fault Refusal :=
  .next (s.onHw (lineEvent l.val))

/-- DISPATCH (R301). -/
def execDispatch (c : Fin 12) (s : State) : Host.Outcome State Fault Refusal :=
  .next (s.run (dispatch c.val))

/-- PREEMPT (R302). -/
def execPreempt (n : Byte) (s : State) : Host.Outcome State Fault Refusal :=
  .next (s.run (preempt n.toNat))

/-- DEADLINE (R306). -/
def execDeadline (n : Byte) (s : State) : Host.Outcome State Fault Refusal :=
  .next (s.run (deadlinePass n.toNat))

/-- OVR_CNT_READ (R46). -/
def execOvrCntRead (ini : Initiator) (s : State) : Host.Outcome State Fault Refusal :=
  .next (s.run (pageGet ini 0x30 0 0x060))

/-- SKIP_CNT_READ (R46). -/
def execSkipCntRead (ini : Initiator) (s : State) : Host.Outcome State Fault Refusal :=
  .next (s.run (pageGet ini 0x30 0 0x064))

/-- TAKE (R316). -/
def execTake (ini : Initiator) (s : State) : Host.Outcome State Fault Refusal :=
  .next (s.run (pageGet ini 0x32 0 0x044))

/-- GIVE (R317). -/
def execGive (ini : Initiator) (w : Word) (s : State) : Host.Outcome State Fault Refusal :=
  .next (s.run (pageCmd ini 0x32 0 0x048 w))

/-- PUT (R318). -/
def execPut (ini : Initiator) (w : Word) (s : State) : Host.Outcome State Fault Refusal :=
  .next (s.run (pageCmd ini 0x32 0 0x04C w))

/-- PQ_LINK (R318). -/
def execPqLink (ini : Initiator) (w : Word) (s : State) : Host.Outcome State Fault Refusal :=
  .next (s.run (pageCmd ini 0x32 0 0x060 w))

/-- QSTAT_DROP_READ (R46). -/
def execQstatDropRead (ini : Initiator) (q : Fin 64) (s : State) : Host.Outcome State Fault Refusal :=
  .next (s.run (pageGet ini 0x32 0 (0x800 + 4 * q.val)))

end Sys2Proof.Machine
end

