-- ==== Sys2Proof/Machine/RowMeas.lean ====
section
/-!
DEFINITION. One meaning per row of the table: the measurement groups (chapter 03).
-/
namespace Sys2Proof.Machine

/-- MEAS_RESULT (R69). -/
def execMeasResult (g : Fin 4) (k : Fin 48) (d : Int) (s : State) : Host.Outcome State Fault Refusal :=
  .next (s.onHw (measResult g.val k.val d))

/-- PWM_PERIOD_MEAN (R72). -/
def execPwmPeriodMean (g : Fin 4) (k : Fin 48) (d : Int) (s : State) : Host.Outcome State Fault Refusal :=
  .next (s.onHw (measMean g.val k.val d))

/-- RES_READ (R75). -/
def execResRead (ini : Initiator) (g : Fin 4) (k : Fin 48) (s : State) : Host.Outcome State Fault Refusal :=
  .next (s.run (pageGet ini 0x14 g.val (0x100 + 4 * k.val)))

/-- INJECTION_WINDOW_START (R81). -/
def execInjectionWindowStart (g : Fin 4) (lsb : Nat) (s : State) : Host.Outcome State Fault Refusal :=
  .next (s.onHw (winStart g.val lsb))

/-- INJECTION_WINDOW_END (R84). -/
def execInjectionWindowEnd (g : Fin 4) (gain : Nat) (ofs : Int) (s : State) : Host.Outcome State Fault Refusal :=
  .next (s.onHw (winEnd g.val gain ofs))

/-- CAL_ROUND_END (R85). -/
def execCalRoundEnd (g : Fin 4) (refOk : Bool) (s : State) : Host.Outcome State Fault Refusal :=
  .next (s.onHw (roundEnd g.val refOk))

/-- CAL_REQ_GO (R88). -/
def execCalReqGo (ini : Initiator) (g : Fin 4) (idx : BitVec 6) (s : State) : Host.Outcome State Fault Refusal :=
  .next (s.run (pageCmd ini 0x14 g.val 0x048 (BitVec.ofNat 32 (0x80000000 + idx.toNat))))

/-- CAL_REQ_IDLE (R88). -/
def execCalReqIdle (g : Fin 4) (lsb : Nat) (s : State) : Host.Outcome State Fault Refusal :=
  .next (s.onHw (calIdle g.val lsb))

/-- CAL_REQ_IDLE_TIMEOUT (R88). -/
def execCalReqIdleTimeout (g : Fin 4) (s : State) : Host.Outcome State Fault Refusal :=
  .next (s.onHw (calTimeout g.val))

end Sys2Proof.Machine
end

