-- ==== Sys2Proof/Machine/RowModule.lean ====
section
/-!
DEFINITION. One meaning per row of the table: frames, registers, commits, power domains and the Plinth (chapters 01, 02,
15).
-/
namespace Sys2Proof.Machine

/-- FRAME_BOUNDARY (R17). -/
def execFrameBoundary (s : State) : Host.Outcome State Fault Refusal :=
  .next (s.onM frameBoundary)

/-- REGISTER_WRITE (R5). -/
def execRegisterWrite (ini : Initiator) (a : Word) (k : Fin 5) (v : Quad) (s : State) : Host.Outcome State Fault Refusal :=
  .next (s.run (access true ini a.toNat (2 ^ k.val) v.toNat))

/-- EV_SET (R47). -/
def execEvSet (ini : Initiator) (ty inst : Byte) (w : Word) (s : State) : Host.Outcome State Fault Refusal :=
  .next (s.run (pageCmd ini ty.toNat inst.toNat 0x01C w))

/-- COMMIT_BOUNDARY (R49). -/
def execCommitBoundary (ini : Initiator) (ty inst : Byte) (s : State) : Host.Outcome State Fault Refusal :=
  .next (s.run (pageCmd ini ty.toNat inst.toNat 0x00C 1))

/-- COMMIT_IMMEDIATE (R51). -/
def execCommitImmediate (ini : Initiator) (ty inst : Byte) (s : State) : Host.Outcome State Fault Refusal :=
  .next (s.run (pageCmd ini ty.toNat inst.toNat 0x00C 2))

/-- COMMIT_CANCEL (R49). -/
def execCommitCancel (ini : Initiator) (ty inst : Byte) (s : State) : Host.Outcome State Fault Refusal :=
  .next (s.run (pageCmd ini ty.toNat inst.toNat 0x00C 3))

/-- COMMIT_RELOAD (R49). -/
def execCommitReload (ini : Initiator) (ty inst : Byte) (s : State) : Host.Outcome State Fault Refusal :=
  .next (s.run (pageCmd ini ty.toNat inst.toNat 0x00C 4))

/-- COMMIT_ARM (R49). -/
def execCommitArm (ini : Initiator) (ty inst : Byte) (s : State) : Host.Outcome State Fault Refusal :=
  .next (s.run (pageCmd ini ty.toNat inst.toNat 0x00C 5))

/-- COMMIT_BADCODE (R49). -/
def execCommitBadcode (ini : Initiator) (ty inst : Byte) (code : BitVec 3) (s : State) : Host.Outcome State Fault Refusal :=
  .next (s.run (pageCmd ini ty.toNat inst.toNat 0x00C (BitVec.ofNat 32 (code.toNat))))

/-- GROUP_COMMIT_GO (R53). -/
def execGroupCommitGo (ini : Initiator) (s : State) : Host.Outcome State Fault Refusal :=
  .next (s.run (pageCmd ini 1 0 0x070 1))

/-- DOMAIN_REQUEST_ON (R440). -/
def execDomainRequestOn (ini : Initiator) (d : Fin 45) (s : State) : Host.Outcome State Fault Refusal :=
  .next (s.run (pageCmd ini 2 0 (0x800 + 4 * d.val) 0))

/-- DOMAIN_REQUEST_RET (R440). -/
def execDomainRequestRet (ini : Initiator) (d : Fin 45) (s : State) : Host.Outcome State Fault Refusal :=
  .next (s.run (pageCmd ini 2 0 (0x800 + 4 * d.val) 1))

/-- DOMAIN_REQUEST_OFF (R440). -/
def execDomainRequestOff (ini : Initiator) (d : Fin 45) (s : State) : Host.Outcome State Fault Refusal :=
  .next (s.run (pageCmd ini 2 0 (0x800 + 4 * d.val) 2))

/-- DOMAIN_ENTRY_START (R442). -/
def execDomainEntryStart (s : State) : Host.Outcome State Fault Refusal :=
  .next (s.run (entryStart))

/-- DOMAIN_ENTRY_COMPLETE (R442). -/
def execDomainEntryComplete (s : State) : Host.Outcome State Fault Refusal :=
  .next (s.run (busEvent entryComplete))

/-- DOMAIN_ENTRY_ABORT (R444). -/
def execDomainEntryAbort (s : State) : Host.Outcome State Fault Refusal :=
  .next (s.run (entryAbort))

/-- DOMAIN_EXIT_COMPLETE (R446). -/
def execDomainExitComplete (s : State) : Host.Outcome State Fault Refusal :=
  .next (s.run (busEvent exitComplete))

/-- GROUP_COMMAND (R447). -/
def execGroupCommand (ini : Initiator) (tgt : BitVec 2) (stop : Bool) (s : State) : Host.Outcome State Fault Refusal :=
  .next (s.run (pageCmd ini 2 0 0x04C (BitVec.ofNat 32 (0x80000000 + tgt.toNat * 16 + stop.toNat))))

/-- PLINTH_WAKE (R450). -/
def execPlinthWake (src : Fin 18) (s : State) : Host.Outcome State Fault Refusal :=
  .next (s.run (fun m => m.onHw (fun h => if plinthSources.contains src.val then plinthWake src.val h else h)))

/-- LOW_POWER_ENTRY (R458). -/
def execLowPowerEntry (s : State) : Host.Outcome State Fault Refusal :=
  .next (s.onHw (lpEntry))

/-- PLINTH_BROWN_OUT (R459). -/
def execPlinthBrownOut (load : Bool) (rail : Option (Byte × Bool)) (s : State) : Host.Outcome State Fault Refusal :=
  .next (s.run (brownOut load rail))

/-- RTC_ALARM (R457). -/
def execRtcAlarm (s : State) : Host.Outcome State Fault Refusal :=
  .next (s.run (fun m => m.onHw (rtcAlarm)))

/-- WTP_ADDRESS_MATCH (R452). -/
def execWtpAddressMatch (addr : BitVec 7) (read : Bool) (s : State) : Host.Outcome State Fault Refusal :=
  .next (s.run (fun m => m.onHw (wtpAddress addr.toNat read)))

/-- WTP_POINTER_WRITE (R451). -/
def execWtpPointerWrite (v : Byte) (s : State) : Host.Outcome State Fault Refusal :=
  .next (s.onHw (wtpPointer v.toNat))

/-- WTP_DATA_WRITE (R453). -/
def execWtpDataWrite (v : Byte) (s : State) : Host.Outcome State Fault Refusal :=
  .next (s.onHw (wtpWrite v.toNat))

/-- WTP_DATA_READ (R453). -/
def execWtpDataRead (s : State) : Host.Outcome State Fault Refusal :=
  .next (s.onHw (wtpRead))

/-- WTP_STOP (R454). -/
def execWtpStop (s : State) : Host.Outcome State Fault Refusal :=
  .next (s.run (fun m => m.onHw (wtpStop)))

/-- REFUSE_CNT_READ (R46). -/
def execRefuseCntRead (ini : Initiator) (d : Fin 45) (s : State) : Host.Outcome State Fault Refusal :=
  .next (s.run (pageGet ini 2 0 (0x900 + 4 * d.val)))

end Sys2Proof.Machine
end

