-- ==== Sys2Proof/Machine/RowNet.lean ====
section
/-!
DEFINITION. One meaning per row of the table: the LIN channels and Ethernet ports (chapter 13).
-/
namespace Sys2Proof.Machine

/-- LIN_MODE_INIT (R392). -/
def execLinModeInit (ini : Initiator) (n : Fin 16) (s : State) : Host.Outcome State Fault Refusal :=
  .next (s.run (pageCmd ini 0x21 n.val 0x040 0))

/-- LIN_MODE_COMMANDER (R392). -/
def execLinModeCommander (ini : Initiator) (n : Fin 16) (s : State) : Host.Outcome State Fault Refusal :=
  .next (s.run (pageCmd ini 0x21 n.val 0x040 1))

/-- LIN_MODE_RESPONDER (R392). -/
def execLinModeResponder (ini : Initiator) (n : Fin 16) (s : State) : Host.Outcome State Fault Refusal :=
  .next (s.run (pageCmd ini 0x21 n.val 0x040 2))

/-- LIN_MODE_MONITOR (R392). -/
def execLinModeMonitor (ini : Initiator) (n : Fin 16) (s : State) : Host.Outcome State Fault Refusal :=
  .next (s.run (pageCmd ini 0x21 n.val 0x040 3))

/-- LIN_MODE_REFUSED (R392). -/
def execLinModeRefused (ini : Initiator) (n : Fin 16) (code : Fin 4) (s : State) : Host.Outcome State Fault Refusal :=
  .next (s.run (pageCmd ini 0x21 n.val 0x040 (BitVec.ofNat 32 (4 + code.val))))

/-- LIN_BUS_IDLE_APPLY (R392). -/
def execLinBusIdleApply (n : Fin 16) (s : State) : Host.Outcome State Fault Refusal :=
  .next (s.run (busEvent (fun m => m.onHw (linBusIdle n.val))))

/-- LIN_SLOT_START (R394). -/
def execLinSlotStart (n : Fin 16) (s : State) : Host.Outcome State Fault Refusal :=
  .next (s.run (busEvent (linSlotStart n.val)))

/-- LIN_HEADER (R396). -/
def execLinHeader (n : Fin 16) (pid : Byte) (s : State) : Host.Outcome State Fault Refusal :=
  .next (s.run (busEvent (digested (8 + n.val) 0x21 n.val (linHeader n.val pid.toNat))))

/-- LIN_RESPONSE_TIMEOUT (R397). -/
def execLinResponseTimeout (n : Fin 16) (l : List Byte) (s : State) : Host.Outcome State Fault Refusal :=
  .next (s.run (busEvent (digested (8 + n.val) 0x21 n.val (linTimeout n.val l))))

/-- LIN_ENTRY_COMPLETE (R397). -/
def execLinEntryComplete (n : Fin 16) (l : List Byte) (sum : Byte) (bitErr framing : Bool) (s : State) : Host.Outcome State Fault Refusal :=
  .next (s.run (busEvent (digested (8 + n.val) 0x21 n.val (linComplete n.val l sum.toNat bitErr framing))))

/-- LIN_WAKE_PULSE (R401). -/
def execLinWakePulse (ini : Initiator) (n : Fin 16) (mode : Fin 4) (s : State) : Host.Outcome State Fault Refusal :=
  .next (s.run (pageCmd ini 0x21 n.val 0x040 (BitVec.ofNat 32 (0x100 + mode.val))))

/-- LIN_SLEEP_REQUEST (R399). -/
def execLinSleepRequest (ini : Initiator) (n : Fin 16) (s : State) : Host.Outcome State Fault Refusal :=
  .next (s.run (pageCmd ini 0x21 n.val 0x04C 1))

/-- LIN_SLEEP_RELEASE (R400). -/
def execLinSleepRelease (ini : Initiator) (n : Fin 16) (s : State) : Host.Outcome State Fault Refusal :=
  .next (s.run (pageCmd ini 0x21 n.val 0x04C 0))

/-- TXDTO (R399). -/
def execTxdto (n : Fin 16) (s : State) : Host.Outcome State Fault Refusal :=
  .next (s.run (busEvent (digested (8 + n.val) 0x21 n.val (linTxdto n.val))))

/-- LIN_WAKE_DETECT (R400). -/
def execLinWakeDetect (n : Fin 4) (s : State) : Host.Outcome State Fault Refusal :=
  .next (s.run (busEvent (fun m => m.onHw (linWake n.val))))

/-- LIN_RX_STAT_READ (R46). -/
def execLinRxStatRead (ini : Initiator) (n : Fin 16) (s : State) : Host.Outcome State Fault Refusal :=
  .next (s.run (pageGet ini 0x21 n.val 0x048))

/-- ETH_FRAME_RECEIVED (R407). -/
def execEthFrameReceived (n : Fin 2) (l : List Byte) (fcsOk full : Bool) (ns : Int) (s : State) : Host.Outcome State Fault Refusal :=
  .next (s.run (busEvent (digested (24 + n.val) 0x22 n.val (ethReceive n.val l fcsOk full ns))))

/-- ETH_TXQ_PUT (R409). -/
def execEthTxqPut (ini : Initiator) (n : Fin 2) (q : Fin 2) (w : Word) (s : State) : Host.Outcome State Fault Refusal :=
  .next (s.run (pageCmd ini 0x22 n.val (0x050 + 4 * q.val) w))

/-- ETH_TX_ABORT (R409). -/
def execEthTxAbort (ini : Initiator) (n : Fin 2) (w : BitVec 2) (s : State) : Host.Outcome State Fault Refusal :=
  .next (s.run (pageCmd ini 0x22 n.val 0x05C (BitVec.ofNat 32 (w.toNat))))

/-- ETH_TX_END (R409). -/
def execEthTxEnd (n : Fin 2) (ns : Int) (s : State) : Host.Outcome State Fault Refusal :=
  .next (s.run (busEvent (digested (24 + n.val) 0x22 n.val (ethTxEnd n.val ns))))

/-- ETH_MODE_OFF (R412). -/
def execEthModeOff (ini : Initiator) (n : Fin 2) (s : State) : Host.Outcome State Fault Refusal :=
  .next (s.run (pageCmd ini 0x22 n.val 0x040 0))

/-- ETH_MODE_RUN (R412). -/
def execEthModeRun (ini : Initiator) (n : Fin 2) (s : State) : Host.Outcome State Fault Refusal :=
  .next (s.run (pageCmd ini 0x22 n.val 0x040 1))

/-- ETH_MODE_LOOPBACK (R415). -/
def execEthModeLoopback (ini : Initiator) (n : Fin 2) (s : State) : Host.Outcome State Fault Refusal :=
  .next (s.run (pageCmd ini 0x22 n.val 0x040 2))

/-- ETH_MODE_REFUSED (R415). -/
def execEthModeRefused (ini : Initiator) (n : Fin 2) (s : State) : Host.Outcome State Fault Refusal :=
  .next (s.run (pageCmd ini 0x22 n.val 0x040 3))

/-- TC10_REQ_SLEEP (R412). -/
def execTc10ReqSleep (ini : Initiator) (n : Fin 2) (s : State) : Host.Outcome State Fault Refusal :=
  .next (s.run (pageCmd ini 0x22 n.val 0x06C 1))

/-- TC10_REQ_WAKE (R412). -/
def execTc10ReqWake (ini : Initiator) (n : Fin 2) (s : State) : Host.Outcome State Fault Refusal :=
  .next (s.run (pageCmd ini 0x22 n.val 0x06C 2))

/-- TC10_REQ_ACCEPT (R412). -/
def execTc10ReqAccept (ini : Initiator) (n : Fin 2) (s : State) : Host.Outcome State Fault Refusal :=
  .next (s.run (pageCmd ini 0x22 n.val 0x06C 3))

/-- TC10_REQ_REJECT (R412). -/
def execTc10ReqReject (ini : Initiator) (n : Fin 2) (s : State) : Host.Outcome State Fault Refusal :=
  .next (s.run (pageCmd ini 0x22 n.val 0x06C 4))

/-- TC10_REQ_REFUSED (R412). -/
def execTc10ReqRefused (ini : Initiator) (n : Fin 2) (code : BitVec 3) (s : State) : Host.Outcome State Fault Refusal :=
  .next (s.run (pageCmd ini 0x22 n.val 0x06C (BitVec.ofNat 32 (code.toNat))))

/-- TC10_PARTNER_SLEEP_REQUEST (R412). -/
def execTc10PartnerSleepRequest (n : Fin 2) (s : State) : Host.Outcome State Fault Refusal :=
  .next (s.run (busEvent (fun m => m.onHw (tcPartner n.val))))

/-- TC10_HANDSHAKE_DONE (R412). -/
def execTc10HandshakeDone (n : Fin 2) (s : State) : Host.Outcome State Fault Refusal :=
  .next (s.run (busEvent (fun m => m.onHw (tcDone n.val))))

/-- TC10_HANDSHAKE_FAIL (R412). -/
def execTc10HandshakeFail (n : Fin 2) (s : State) : Host.Outcome State Fault Refusal :=
  .next (s.run (busEvent (fun m => m.onHw (ethHandshakeFail n.val))))

/-- TC10_SLEEP_TIMEOUT (R412). -/
def execTc10SleepTimeout (n : Fin 2) (s : State) : Host.Outcome State Fault Refusal :=
  .next (s.run (busEvent (fun m => m.onHw (ethSleepTimeout n.val))))

/-- TC10_WUP_RECEIVED (R412). -/
def execTc10WupReceived (n : Fin 2) (s : State) : Host.Outcome State Fault Refusal :=
  .next (s.run (busEvent (fun m => m.onHw (ethWup n.val))))

/-- TC10_WUR_RECEIVED (R412). -/
def execTc10WurReceived (n : Fin 2) (s : State) : Host.Outcome State Fault Refusal :=
  .next (s.run (busEvent (fun m => m.onHw (ethWur n.val))))

/-- ETH_LINK_UP (R412). -/
def execEthLinkUp (n : Fin 2) (sqi : BitVec 3) (s : State) : Host.Outcome State Fault Refusal :=
  .next (s.run (busEvent (fun m => m.onHw (ethLinkUp n.val sqi.toNat))))

/-- ETH_LINK_LOSS (R412). -/
def execEthLinkLoss (n : Fin 2) (s : State) : Host.Outcome State Fault Refusal :=
  .next (s.run (busEvent (fun m => m.onHw (ethLinkDown n.val))))

/-- ETH_RX_STAT_READ (R46). -/
def execEthRxStatRead (ini : Initiator) (n : Fin 2) (s : State) : Host.Outcome State Fault Refusal :=
  .next (s.run (pageGet ini 0x22 n.val 0x048))

/-- RX_ERR_READ (R46). -/
def execRxErrRead (ini : Initiator) (n : Fin 2) (s : State) : Host.Outcome State Fault Refusal :=
  .next (s.run (pageGet ini 0x22 n.val 0x04C))

end Sys2Proof.Machine
end

