-- ==== Sys2Proof/Machine/RowNsc.lean ====
section
/-!
DEFINITION. One meaning per row of the table: the network sleep coordinator (chapter 14).
-/
namespace Sys2Proof.Machine

/-- NEED_SET (R419). -/
def execNeedSet (ini : Initiator) (w : BitVec 16) (s : State) : Host.Outcome State Fault Refusal :=
  .next (s.run (pageCmd ini 0x23 0 0x044 (BitVec.ofNat 32 (w.toNat))))

/-- NEED_CLR (R419). -/
def execNeedClr (ini : Initiator) (w : BitVec 16) (s : State) : Host.Outcome State Fault Refusal :=
  .next (s.run (pageCmd ini 0x23 0 0x048 (BitVec.ofNat 32 (w.toNat))))

/-- KEEP (R420). -/
def execKeep (ini : Initiator) (w : Word) (s : State) : Host.Outcome State Fault Refusal :=
  .next (s.run (pageCmd ini 0x23 0 0x04C w))

/-- NSC_HOLD_EXPIRY (R422). -/
def execNscHoldExpiry (s : State) : Host.Outcome State Fault Refusal :=
  .next (s.run (busEvent (fun m => m.onHw (holdExpiry))))

/-- COMMIT_POINT (R423). -/
def execCommitPoint (s : State) : Host.Outcome State Fault Refusal :=
  .next (s.run (busEvent (fun m => m.onHw (commitPoint))))

/-- NSC_WAKE (R426). -/
def execNscWake (src : Fin 16) (s : State) : Host.Outcome State Fault Refusal :=
  .next (s.run (busEvent (fun m => m.onHw (nscFlagWake src.val))))

/-- NSC_SWITCH_END (R422). -/
def execNscSwitchEnd (s : State) : Host.Outcome State Fault Refusal :=
  .next (s.run (busEvent (fun m => m.onHw (switchEnd))))

/-- AWAKE_T_TICK (R430). -/
def execAwakeTTick (s : State) : Host.Outcome State Fault Refusal :=
  .next (s.run (busEvent (fun m => m.onHw (awakeTick))))

/-- FS_KICK (R431). -/
def execFsKick (ini : Initiator) (key : Byte) (s : State) : Host.Outcome State Fault Refusal :=
  .next (s.run (pageCmd ini 0x23 0 0x060 (BitVec.ofNat 32 (key.toNat))))

/-- FAIL_SAFE_EXPIRY (R432). -/
def execFailSafeExpiry (s : State) : Host.Outcome State Fault Refusal :=
  .next (s.run (busEvent (fun m => m.onHw (failSafe))))

/-- COUNTS_READ (R46). -/
def execCountsRead (ini : Initiator) (s : State) : Host.Outcome State Fault Refusal :=
  .next (s.run (pageGet ini 0x23 0 0x05C))

end Sys2Proof.Machine
end

