-- ==== Sys2Proof/Machine/RowReset.lean ====
section
/-!
DEFINITION. One meaning per row of the table: clocks, watchdogs and resets (chapters 16, 17).
-/
namespace Sys2Proof.Machine

/-- PLL_LOSS_OF_LOCK (R471). -/
def execPllLossOfLock (s : State) : Host.Outcome State Fault Refusal :=
  .next (s.onHw (pllLoss))

/-- LPO_CALIBRATION (R473). -/
def execLpoCalibration (us256 : BitVec 24) (s : State) : Host.Outcome State Fault Refusal :=
  .next (s.onHw (lpoCal us256.toNat))

/-- WDG_KICK (R485). -/
def execWdgKick (ini : Initiator) (key : Byte) (s : State) : Host.Outcome State Fault Refusal :=
  .next (s.run (pageCmd ini 3 0 0x050 (BitVec.ofNat 32 (key.toNat))))

/-- WATCHDOG_EXPIRY (R486). -/
def execWatchdogExpiry (c : Fin 12) (s : State) : Host.Outcome State Fault Refusal :=
  .next (s.run (watchdogExpiry c.val))

/-- DEBUG_PORT_RESET (R646). -/
def execDebugPortReset (s : State) : Host.Outcome State Fault Refusal :=
  .next (s.onHw (debugReset))

/-- POWER_ON_RESET (R491). -/
def execPowerOnReset (straps : Byte) (rail trimOk : Bool) (s : State) : Host.Outcome State Fault Refusal :=
  .next { s with m := powerReset straps rail trimOk s.m }

/-- CONTROLLER_RESET (R500). -/
def execControllerReset (trimOk : Bool) (s : State) : Host.Outcome State Fault Refusal :=
  .next (s.run (controllerReset trimOk))

/-- CORE_RESET (R495). -/
def execCoreReset (c : Fin 12) (s : State) : Host.Outcome State Fault Refusal :=
  .next (s.run (coreReset c.val))

/-- RST_CTL_CONTROLLER (R492). -/
def execRstCtlController (ini : Initiator) (s : State) : Host.Outcome State Fault Refusal :=
  .next (s.run (pageCmd ini 1 0 0x09C 0xC3010000))

/-- RST_CTL_CORE (R492). -/
def execRstCtlCore (ini : Initiator) (mask : BitVec 12) (s : State) : Host.Outcome State Fault Refusal :=
  .next (s.run (pageCmd ini 1 0 0x09C (BitVec.ofNat 32 (0xC3000000 + mask.toNat))))

/-- DEBUG_RESET_REQUEST (R492). -/
def execDebugResetRequest (s : State) : Host.Outcome State Fault Refusal :=
  .next (s.onHw (reqCtrlReset 5))

/-- IMAGE_VERIFICATION_DONE (R506). -/
def execImageVerificationDone (s : State) : Host.Outcome State Fault Refusal :=
  .next (s.run (verifyDone))

/-- OUTPUT_HOLD_END (R502). -/
def execOutputHoldEnd (s : State) : Host.Outcome State Fault Refusal :=
  .next (s.onHw (Machine.holdEnd))

/-- FALLBACK_FLASH_TOGGLE (R502). -/
def execFallbackFlashToggle (s : State) : Host.Outcome State Fault Refusal :=
  .next (s.onHw (flashToggle))

/-- OUT_REL (R504). -/
def execOutRel (ini : Initiator) (s : State) : Host.Outcome State Fault Refusal :=
  .next (s.run (pageCmd ini 1 0 0x098 0x3C000001))

/-- CRST_READ (R46). -/
def execCrstRead (ini : Initiator) (c : Fin 12) (s : State) : Host.Outcome State Fault Refusal :=
  .next (s.run (pageGet ini 1 0 (0x0A0 + 4 * c.val)))

end Sys2Proof.Machine
end

