-- ==== Sys2Proof/Machine/RowRest.lean ====
section
/-!
DEFINITION. One meaning per row of the table: the rows that the table lists last: events of several blocks.
-/
namespace Sys2Proof.Machine

/-- ILLEGAL_INSTRUCTION (R236). -/
def execIllegalInstruction (c : Fin 12) (s : State) : Host.Outcome State Fault Refusal :=
  .next (s.run (coreIllegal c))

/-- REGACT_EXPIRY (R146). -/
def execRegactExpiry (n : Fin 24) (s : State) : Host.Outcome State Fault Refusal :=
  .next (s.onHw (hbrRegExpire n.val))

/-- WAKE_DECODER_FRAME (R380). -/
def execWakeDecoderFrame (n : Fin 4) (error fd : Bool) (s : State) : Host.Outcome State Fault Refusal :=
  .next (s.run (busEvent (fun m => m.onHw (canDecoder n.val error fd))))

/-- LIN_SYNC_FRAMING_ERROR (R391). -/
def execLinSyncFramingError (f : SyncField) (s : State) : Host.Outcome State Fault Refusal :=
  .next (s.run (busEvent (digested (8 + f.chan.val) 0x21 f.chan.val (linSyncError f.chan.val f.t))))

/-- LIN_MODE_SWITCH_END (R399). -/
def execLinModeSwitchEnd (n : Fin 16) (s : State) : Host.Outcome State Fault Refusal :=
  .next (s.run (busEvent (fun m => m.onHw (linSwitchEnd n.val))))

/-- ETH_MODE_SWITCH_END (R412). -/
def execEthModeSwitchEnd (n : Fin 2) (s : State) : Host.Outcome State Fault Refusal :=
  .next (s.run (busEvent (fun m => m.onHw (ethSwitchEnd n.val))))

/-- UHF_LISTEN_END (R526). -/
def execUhfListenEnd (s : State) : Host.Outcome State Fault Refusal :=
  .next (s.onHw (listenEnd))

/-- MODULE_SUPPLY_LOSS (R633). -/
def execModuleSupplyLoss (s : State) : Host.Outcome State Fault Refusal :=
  .next (s.run (supplyLoss))

end Sys2Proof.Machine
end

