-- ==== Sys2Proof/Machine/RowSol.lean ====
section
/-!
DEFINITION. One meaning per row of the table: the solenoid banks (chapter 06).
-/
namespace Sys2Proof.Machine

/-- SOL_CMD_FIRE (R170). -/
def execSolCmdFire (ini : Initiator) (g v : Fin 4) (s : State) : Host.Outcome State Fault Refusal :=
  .next (s.run (pageCmd ini 0x12 g.val (0x040 + 4 * v.val) 1))

/-- SOL_CMD_OFF (R170). -/
def execSolCmdOff (ini : Initiator) (g v : Fin 4) (s : State) : Host.Outcome State Fault Refusal :=
  .next (s.run (pageCmd ini 0x12 g.val (0x040 + 4 * v.val) 0))

/-- SOL_CMD_RESERVED (R171). -/
def execSolCmdReserved (ini : Initiator) (g v : Fin 4) (code : Fin 2) (s : State) : Host.Outcome State Fault Refusal :=
  .next (s.run (pageCmd ini 0x12 g.val (0x040 + 4 * v.val) (BitVec.ofNat 32 (2 + code.val))))

/-- VALVE_START_INSTANT (R172). -/
def execValveStartInstant (g v : Fin 4) (s : State) : Host.Outcome State Fault Refusal :=
  .next (s.onHw (solStart g.val v.val))

/-- PEAK_START (R172). -/
def execPeakStart (g v : Fin 4) (s : State) : Host.Outcome State Fault Refusal :=
  .next (s.onHw (solPeakStart g.val v.val))

/-- DEFERRED_PEAK_START (R183). -/
def execDeferredPeakStart (g : Fin 4) (s : State) : Host.Outcome State Fault Refusal :=
  .next (s.onHw (solDeferred g.val))

/-- PEAK_REGULATION_CROSSING (R173). -/
def execPeakRegulationCrossing (g v : Fin 4) (mA : Nat) (s : State) : Host.Outcome State Fault Refusal :=
  .next (s.onHw (solCross g.val v.val mA))

/-- ARMATURE_DETECTED (R179). -/
def execArmatureDetected (g v : Fin 4) (e : Travel) (s : State) : Host.Outcome State Fault Refusal :=
  .next (s.onHw (solArm g.val v.val e.us e.top e.low e.up))

/-- PEAK_END (R173). -/
def execPeakEnd (g v : Fin 4) (maxMa : Nat) (s : State) : Host.Outcome State Fault Refusal :=
  .next (s.onHw (solPeakEnd g.val v.val maxMa))

/-- HOLD_PERIOD (R174). -/
def execHoldPeriod (g v : Fin 4) (onT meanMa : Nat) (s : State) : Host.Outcome State Fault Refusal :=
  .next (s.onHw (solHoldPeriod g.val v.val onT meanMa))

/-- HOLD_END (R175). -/
def execHoldEnd (g v : Fin 4) (s : State) : Host.Outcome State Fault Refusal :=
  .next (s.onHw (solHoldEnd g.val v.val))

/-- VALVE_RELEASED (R176). -/
def execValveReleased (g : Fin 4) (e : CoilCurrent) (s : State) : Host.Outcome State Fault Refusal :=
  .next (s.onHw (solReleased g.val e.valve.val e.mA))

/-- DEFER_TIMEOUT (R184). -/
def execDeferTimeout (g v : Fin 4) (s : State) : Host.Outcome State Fault Refusal :=
  .next (s.onHw (solDeferOut g.val v.val))

/-- DUTY_BIN_ADVANCE (R185). -/
def execDutyBinAdvance (g v : Fin 4) (s : State) : Host.Outcome State Fault Refusal :=
  .next (s.onHw (solBin g.val v.val))

/-- VALVE_OVERCURRENT (R186). -/
def execValveOvercurrent (g v : Fin 4) (mA : Nat) (s : State) : Host.Outcome State Fault Refusal :=
  .next (s.onHw (solVoc g.val v.val mA))

/-- VALVE_LOW_SIDE_DESAT (R186). -/
def execValveLowSideDesat (g v : Fin 4) (mV : Nat) (s : State) : Host.Outcome State Fault Refusal :=
  .next (s.onHw (solDesat g.val v.val mV))

/-- OPEN_COIL_IN_HOLD (R186). -/
def execOpenCoilInHold (g v : Fin 4) (mA : Nat) (s : State) : Host.Outcome State Fault Refusal :=
  .next (s.onHw (solOpenHold g.val v.val mA))

/-- HOLD_TOO_LOW (R186). -/
def execHoldTooLow (g v : Fin 4) (mA : Nat) (s : State) : Host.Outcome State Fault Refusal :=
  .next (s.onHw (solHoldLow g.val v.val mA))

/-- BANK_OVERCURRENT (R186). -/
def execBankOvercurrent (g : Fin 4) (mA : Nat) (s : State) : Host.Outcome State Fault Refusal :=
  .next (s.onHw (solBoc g.val mA))

/-- BANK_RAIL_SHORT (R186). -/
def execBankRailShort (g : Fin 4) (mV : Nat) (s : State) : Host.Outcome State Fault Refusal :=
  .next (s.onHw (solRailShort g.val mV))

/-- VALVE_CONTACT_TO_GROUND (R186). -/
def execValveContactToGround (g v : Fin 4) (s : State) : Host.Outcome State Fault Refusal :=
  .next (s.onHw (solContactGnd g.val v.val))

/-- LOW_SIDE_THERMAL_LATCH (R186). -/
def execLowSideThermalLatch (g v : Fin 4) (degC : Nat) (s : State) : Host.Outcome State Fault Refusal :=
  .next (s.onHw (solLsLatch g.val v.val degC))

/-- BANK_THERMAL_LATCH (R187). -/
def execBankThermalLatch (g : Fin 4) (degC : Nat) (s : State) : Host.Outcome State Fault Refusal :=
  .next (s.onHw (solBankLatch g.val degC))

/-- SOL_THERMAL_LATCH_RELEASE (R187). -/
def execSolThermalLatchRelease (g : Fin 4) (v : Option (Fin 4)) (degC : Nat) (s : State) : Host.Outcome State Fault Refusal :=
  .next (s.onHw (solLatchOut g.val (v.map Fin.val) degC))

/-- SOL_TRIP_CNT_READ (R46). -/
def execSolTripCntRead (ini : Initiator) (g : Fin 4) (s : State) : Host.Outcome State Fault Refusal :=
  .next (s.run (pageGet ini 0x12 g.val 0x0B4))

end Sys2Proof.Machine
end

