-- ==== Sys2Proof/Machine/RowSwi.lean ====
section
/-!
DEFINITION. One meaning per row of the table: the switch inputs and capacitive channels (chapter 07).
-/
namespace Sys2Proof.Machine

/-- SWI_SAMPLE (R208). -/
def execSwiSample (g : Fin 4) (mvs : List Int) (s : State) : Host.Outcome State Fault Refusal :=
  .next (s.onHw (swiSample g.val mvs))

/-- INPUT_OVERVOLTAGE (R207). -/
def execInputOvervoltage (n : Fin 128) (mV : Int) (s : State) : Host.Outcome State Fault Refusal :=
  .next (s.onHw (inputOver n.val mV))

/-- WETTING_RECONNECT (R207). -/
def execWettingReconnect (n : Fin 128) (s : State) : Host.Outcome State Fault Refusal :=
  .next (s.onHw (swiReconnect n.val))

/-- WETTING_OVERTEMP (R206). -/
def execWettingOvertemp (g : Fin 4) (degC : Nat) (s : State) : Host.Outcome State Fault Refusal :=
  .next (s.onHw (wettingHot g.val degC))

/-- WETTING_OVERTEMP_CLEAR (R206). -/
def execWettingOvertempClear (g : Fin 4) (degC : Nat) (s : State) : Host.Outcome State Fault Refusal :=
  .next (s.onHw (wettingCool g.val degC))

/-- PARK_POLL (R215). -/
def execParkPoll (mvs : List Int) (s : State) : Host.Outcome State Fault Refusal :=
  .next (s.run (fun m => m.onHw (parkPollWake mvs)))

/-- CAP_SAMPLE (R218). -/
def execCapSample (raw : BitVec 16) (raws : List (BitVec 16)) (s : State) : Host.Outcome State Fault Refusal :=
  .next (s.onHw (capSample ((raw :: raws).map BitVec.toNat)))

/-- CAP_CONFIRM_SAMPLE (R220). -/
def execCapConfirmSample (raw : BitVec 16) (raws : List (BitVec 16)) (s : State) : Host.Outcome State Fault Refusal :=
  .next (s.run (fun m => m.onHw (capConfirmWake ((raw :: raws).map BitVec.toNat))))

/-- STUCK_TOUCH (R222). -/
def execStuckTouch (c : Fin 8) (s : State) : Host.Outcome State Fault Refusal :=
  .next (s.onHw (capStuck c.val))

end Sys2Proof.Machine
end

