-- ==== Sys2Proof/Machine/Dispatch.lean ====
section
/-!
DEFINITION. The dispatch: one arm per command.
-/
namespace Sys2Proof.Machine

/-- The effect of a command on everything but the queue. -/
def exec (i : Instr) (s : State) : Host.Outcome State Fault Refusal :=
  match i with
  | .frameBoundary => Sys2Proof.Machine.execFrameBoundary s
  | .registerWrite ini a k v => Sys2Proof.Machine.execRegisterWrite ini a k v s
  | .evSet ini ty inst w => Sys2Proof.Machine.execEvSet ini ty inst w s
  | .commitBoundary ini ty inst => Sys2Proof.Machine.execCommitBoundary ini ty inst s
  | .commitImmediate ini ty inst => Sys2Proof.Machine.execCommitImmediate ini ty inst s
  | .commitCancel ini ty inst => Sys2Proof.Machine.execCommitCancel ini ty inst s
  | .commitReload ini ty inst => Sys2Proof.Machine.execCommitReload ini ty inst s
  | .commitArm ini ty inst => Sys2Proof.Machine.execCommitArm ini ty inst s
  | .commitBadcode ini ty inst code => Sys2Proof.Machine.execCommitBadcode ini ty inst code s
  | .groupCommitGo ini => Sys2Proof.Machine.execGroupCommitGo ini s
  | .domainRequestOn ini d => Sys2Proof.Machine.execDomainRequestOn ini d s
  | .domainRequestRet ini d => Sys2Proof.Machine.execDomainRequestRet ini d s
  | .domainRequestOff ini d => Sys2Proof.Machine.execDomainRequestOff ini d s
  | .domainEntryStart => Sys2Proof.Machine.execDomainEntryStart s
  | .domainEntryComplete => Sys2Proof.Machine.execDomainEntryComplete s
  | .domainEntryAbort => Sys2Proof.Machine.execDomainEntryAbort s
  | .domainExitComplete => Sys2Proof.Machine.execDomainExitComplete s
  | .groupCommand ini tgt stop => Sys2Proof.Machine.execGroupCommand ini tgt stop s
  | .plinthWake src => Sys2Proof.Machine.execPlinthWake src s
  | .lowPowerEntry => Sys2Proof.Machine.execLowPowerEntry s
  | .plinthBrownOut load rail => Sys2Proof.Machine.execPlinthBrownOut load rail s
  | .rtcAlarm => Sys2Proof.Machine.execRtcAlarm s
  | .wtpAddressMatch addr read => Sys2Proof.Machine.execWtpAddressMatch addr read s
  | .wtpPointerWrite v => Sys2Proof.Machine.execWtpPointerWrite v s
  | .wtpDataWrite v => Sys2Proof.Machine.execWtpDataWrite v s
  | .wtpDataRead => Sys2Proof.Machine.execWtpDataRead s
  | .wtpStop => Sys2Proof.Machine.execWtpStop s
  | .refuseCntRead ini d => Sys2Proof.Machine.execRefuseCntRead ini d s
  | .measResult g k d => Sys2Proof.Machine.execMeasResult g k d s
  | .pwmPeriodMean g k d => Sys2Proof.Machine.execPwmPeriodMean g k d s
  | .resRead ini g k => Sys2Proof.Machine.execResRead ini g k s
  | .injectionWindowStart g lsb => Sys2Proof.Machine.execInjectionWindowStart g lsb s
  | .injectionWindowEnd g gain ofs => Sys2Proof.Machine.execInjectionWindowEnd g gain ofs s
  | .calRoundEnd g refOk => Sys2Proof.Machine.execCalRoundEnd g refOk s
  | .calReqGo ini g idx => Sys2Proof.Machine.execCalReqGo ini g idx s
  | .calReqIdle g lsb => Sys2Proof.Machine.execCalReqIdle g lsb s
  | .calReqIdleTimeout g => Sys2Proof.Machine.execCalReqIdleTimeout g s
  | .hswCmdOff ini n duty => Sys2Proof.Machine.execHswCmdOff ini n duty s
  | .hswCmdOn ini n duty => Sys2Proof.Machine.execHswCmdOn ini n duty s
  | .hswCmdPwm ini n duty => Sys2Proof.Machine.execHswCmdPwm ini n duty s
  | .hswCmdReserved ini n duty => Sys2Proof.Machine.execHswCmdReserved ini n duty s
  | .hswEdgeStart n => Sys2Proof.Machine.execHswEdgeStart n s
  | .pwmPeriodStart out k tOa => Sys2Proof.Machine.execPwmPeriodStart out k tOa s
  | .pwmOnPhaseEnd out => Sys2Proof.Machine.execPwmOnPhaseEnd out s
  | .currentLimitEntry n mA => Sys2Proof.Machine.execCurrentLimitEntry n mA s
  | .currentLimitExit n => Sys2Proof.Machine.execCurrentLimitExit n s
  | .inrushWindowEnd n => Sys2Proof.Machine.execInrushWindowEnd n s
  | .limitAccClear n => Sys2Proof.Machine.execLimitAccClear n s
  | .shortCircuit n mA => Sys2Proof.Machine.execShortCircuit n mA s
  | .limq n => Sys2Proof.Machine.execLimq n s
  | .hswThermalLatchSet n degC => Sys2Proof.Machine.execHswThermalLatchSet n degC s
  | .hswThermalLatchRelease n degC => Sys2Proof.Machine.execHswThermalLatchRelease n degC s
  | .retryDelayEnd n => Sys2Proof.Machine.execRetryDelayEnd n s
  | .wireModelUpdate n i2 => Sys2Proof.Machine.execWireModelUpdate n i2 s
  | .openLoadDetect n mA => Sys2Proof.Machine.execOpenLoadDetect n mA s
  | .openLoadClear n mA => Sys2Proof.Machine.execOpenLoadClear n mA s
  | .reverseCurrentTrip n mA => Sys2Proof.Machine.execReverseCurrentTrip n mA s
  | .feedVoltageDrop g mV => Sys2Proof.Machine.execFeedVoltageDrop g mV s
  | .feedUnderVoltage g => Sys2Proof.Machine.execFeedUnderVoltage g s
  | .feedVoltageRecovery g mV => Sys2Proof.Machine.execFeedVoltageRecovery g mV s
  | .feedGroupRestart g => Sys2Proof.Machine.execFeedGroupRestart g s
  | .powerDieSupplyLoss g => Sys2Proof.Machine.execPowerDieSupplyLoss g s
  | .powerDieSupplyStart g => Sys2Proof.Machine.execPowerDieSupplyStart g s
  | .hswTripCntRead ini n => Sys2Proof.Machine.execHswTripCntRead ini n s
  | .uvCntRead ini g => Sys2Proof.Machine.execUvCntRead ini g s
  | .hbrCmdOffCoast ini n duty => Sys2Proof.Machine.execHbrCmdOffCoast ini n duty s
  | .hbrCmdHighFwd ini n duty => Sys2Proof.Machine.execHbrCmdHighFwd ini n duty s
  | .hbrCmdLowRev ini n duty => Sys2Proof.Machine.execHbrCmdLowRev ini n duty s
  | .hbrCmdPwmBrake ini n duty => Sys2Proof.Machine.execHbrCmdPwmBrake ini n duty s
  | .hbrCmdBrakeh ini n duty => Sys2Proof.Machine.execHbrCmdBrakeh ini n duty s
  | .hbrCmdFpwm ini n duty => Sys2Proof.Machine.execHbrCmdFpwm ini n duty s
  | .hbrCmdRpwm ini n duty => Sys2Proof.Machine.execHbrCmdRpwm ini n duty s
  | .hbrCmdReserved ini n code duty => Sys2Proof.Machine.execHbrCmdReserved ini n code duty s
  | .hbrMemberWrite ini n w => Sys2Proof.Machine.execHbrMemberWrite ini n w s
  | .hbrSwitchChange n => Sys2Proof.Machine.execHbrSwitchChange n s
  | .revdlyEnd n => Sys2Proof.Machine.execRevdlyEnd n s
  | .regulationDecay n mA => Sys2Proof.Machine.execRegulationDecay n mA s
  | .regulationOffTimeEnd n => Sys2Proof.Machine.execRegulationOffTimeEnd n s
  | .hbrOvercurrent n mA => Sys2Proof.Machine.execHbrOvercurrent n mA s
  | .hbrDesaturation n d => Sys2Proof.Machine.execHbrDesaturation n d s
  | .hbrThermalLatchSet n degC => Sys2Proof.Machine.execHbrThermalLatchSet n degC s
  | .hbrThermalLatchRelease n degC => Sys2Proof.Machine.execHbrThermalLatchRelease n degC s
  | .stall e => Sys2Proof.Machine.execStall e s
  | .stallAccReset n => Sys2Proof.Machine.execStallAccReset n s
  | .posCntWrite ini n v => Sys2Proof.Machine.execPosCntWrite ini n v s
  | .hbrTripCntRead ini n => Sys2Proof.Machine.execHbrTripCntRead ini n s
  | .solCmdFire ini g v => Sys2Proof.Machine.execSolCmdFire ini g v s
  | .solCmdOff ini g v => Sys2Proof.Machine.execSolCmdOff ini g v s
  | .solCmdReserved ini g v code => Sys2Proof.Machine.execSolCmdReserved ini g v code s
  | .valveStartInstant g v => Sys2Proof.Machine.execValveStartInstant g v s
  | .peakStart g v => Sys2Proof.Machine.execPeakStart g v s
  | .deferredPeakStart g => Sys2Proof.Machine.execDeferredPeakStart g s
  | .peakRegulationCrossing g v mA => Sys2Proof.Machine.execPeakRegulationCrossing g v mA s
  | .armatureDetected g v e => Sys2Proof.Machine.execArmatureDetected g v e s
  | .peakEnd g v maxMa => Sys2Proof.Machine.execPeakEnd g v maxMa s
  | .holdPeriod g v onT meanMa => Sys2Proof.Machine.execHoldPeriod g v onT meanMa s
  | .holdEnd g v => Sys2Proof.Machine.execHoldEnd g v s
  | .valveReleased g e => Sys2Proof.Machine.execValveReleased g e s
  | .deferTimeout g v => Sys2Proof.Machine.execDeferTimeout g v s
  | .dutyBinAdvance g v => Sys2Proof.Machine.execDutyBinAdvance g v s
  | .valveOvercurrent g v mA => Sys2Proof.Machine.execValveOvercurrent g v mA s
  | .valveLowSideDesat g v mV => Sys2Proof.Machine.execValveLowSideDesat g v mV s
  | .openCoilInHold g v mA => Sys2Proof.Machine.execOpenCoilInHold g v mA s
  | .holdTooLow g v mA => Sys2Proof.Machine.execHoldTooLow g v mA s
  | .bankOvercurrent g mA => Sys2Proof.Machine.execBankOvercurrent g mA s
  | .bankRailShort g mV => Sys2Proof.Machine.execBankRailShort g mV s
  | .valveContactToGround g v => Sys2Proof.Machine.execValveContactToGround g v s
  | .lowSideThermalLatch g v degC => Sys2Proof.Machine.execLowSideThermalLatch g v degC s
  | .bankThermalLatch g degC => Sys2Proof.Machine.execBankThermalLatch g degC s
  | .solThermalLatchRelease g v degC => Sys2Proof.Machine.execSolThermalLatchRelease g v degC s
  | .solTripCntRead ini g => Sys2Proof.Machine.execSolTripCntRead ini g s
  | .swiSample g mvs => Sys2Proof.Machine.execSwiSample g mvs s
  | .inputOvervoltage n mV => Sys2Proof.Machine.execInputOvervoltage n mV s
  | .wettingReconnect n => Sys2Proof.Machine.execWettingReconnect n s
  | .wettingOvertemp g degC => Sys2Proof.Machine.execWettingOvertemp g degC s
  | .wettingOvertempClear g degC => Sys2Proof.Machine.execWettingOvertempClear g degC s
  | .parkPoll mvs => Sys2Proof.Machine.execParkPoll mvs s
  | .capSample raw raws => Sys2Proof.Machine.execCapSample raw raws s
  | .capConfirmSample raw raws => Sys2Proof.Machine.execCapConfirmSample raw raws s
  | .stuckTouch c => Sys2Proof.Machine.execStuckTouch c s
  | .coreInterrupt c => Sys2Proof.Machine.execCoreInterrupt c s
  | .nop c hd specs => Sys2Proof.Machine.execNop c hd specs s
  | .trap c hd specs => Sys2Proof.Machine.execTrap c hd specs s
  | .eret c hd specs => Sys2Proof.Machine.execEret c hd specs s
  | .done c hd specs => Sys2Proof.Machine.execDone c hd specs s
  | .crd c hd specs => Sys2Proof.Machine.execCrd c hd specs s
  | .cwr c hd specs => Sys2Proof.Machine.execCwr c hd specs s
  | .rep c hd specs => Sys2Proof.Machine.execRep c hd specs s
  | .repi c hd specs => Sys2Proof.Machine.execRepi c hd specs s
  | .br c hd specs => Sys2Proof.Machine.execBr c hd specs s
  | .jmp c hd specs => Sys2Proof.Machine.execJmp c hd specs s
  | .call c hd specs => Sys2Proof.Machine.execCall c hd specs s
  | .frn c hd specs => Sys2Proof.Machine.execFrn c hd specs s
  | .add c hd specs => Sys2Proof.Machine.execAdd c hd specs s
  | .addc c hd specs => Sys2Proof.Machine.execAddc c hd specs s
  | .sub c hd specs => Sys2Proof.Machine.execSub c hd specs s
  | .subb c hd specs => Sys2Proof.Machine.execSubb c hd specs s
  | .neg c hd specs => Sys2Proof.Machine.execNeg c hd specs s
  | .cmp c hd specs => Sys2Proof.Machine.execCmp c hd specs s
  | .divu c hd specs => Sys2Proof.Machine.execDivu c hd specs s
  | .divs c hd specs => Sys2Proof.Machine.execDivs c hd specs s
  | .remu c hd specs => Sys2Proof.Machine.execRemu c hd specs s
  | .rems c hd specs => Sys2Proof.Machine.execRems c hd specs s
  | .mov c hd specs => Sys2Proof.Machine.execMov c hd specs s
  | .movz c hd specs => Sys2Proof.Machine.execMovz c hd specs s
  | .movs c hd specs => Sys2Proof.Machine.execMovs c hd specs s
  | .and c hd specs => Sys2Proof.Machine.execAnd c hd specs s
  | .or c hd specs => Sys2Proof.Machine.execOr c hd specs s
  | .xor c hd specs => Sys2Proof.Machine.execXor c hd specs s
  | .andn c hd specs => Sys2Proof.Machine.execAndn c hd specs s
  | .not c hd specs => Sys2Proof.Machine.execNot c hd specs s
  | .tst c hd specs => Sys2Proof.Machine.execTst c hd specs s
  | .shl c hd specs => Sys2Proof.Machine.execShl c hd specs s
  | .shr c hd specs => Sys2Proof.Machine.execShr c hd specs s
  | .sar c hd specs => Sys2Proof.Machine.execSar c hd specs s
  | .rol c hd specs => Sys2Proof.Machine.execRol c hd specs s
  | .mulu c hd specs => Sys2Proof.Machine.execMulu c hd specs s
  | .muls c hd specs => Sys2Proof.Machine.execMuls c hd specs s
  | .macu c hd specs => Sys2Proof.Machine.execMacu c hd specs s
  | .macs c hd specs => Sys2Proof.Machine.execMacs c hd specs s
  | .movp c hd specs => Sys2Proof.Machine.execMovp c hd specs s
  | .vmulu c hd specs => Sys2Proof.Machine.execVmulu c hd specs s
  | .vmuls c hd specs => Sys2Proof.Machine.execVmuls c hd specs s
  | .vmacu c hd specs => Sys2Proof.Machine.execVmacu c hd specs s
  | .vmacs c hd specs => Sys2Proof.Machine.execVmacs c hd specs s
  | .vadd c hd specs => Sys2Proof.Machine.execVadd c hd specs s
  | .vsub c hd specs => Sys2Proof.Machine.execVsub c hd specs s
  | .vadds c hd specs => Sys2Proof.Machine.execVadds c hd specs s
  | .vsubs c hd specs => Sys2Proof.Machine.execVsubs c hd specs s
  | .vaddus c hd specs => Sys2Proof.Machine.execVaddus c hd specs s
  | .vsubus c hd specs => Sys2Proof.Machine.execVsubus c hd specs s
  | .vmin c hd specs => Sys2Proof.Machine.execVmin c hd specs s
  | .vmax c hd specs => Sys2Proof.Machine.execVmax c hd specs s
  | .vminu c hd specs => Sys2Proof.Machine.execVminu c hd specs s
  | .vmaxu c hd specs => Sys2Proof.Machine.execVmaxu c hd specs s
  | .vceq c hd specs => Sys2Proof.Machine.execVceq c hd specs s
  | .vcgt c hd specs => Sys2Proof.Machine.execVcgt c hd specs s
  | .vcgtu c hd specs => Sys2Proof.Machine.execVcgtu c hd specs s
  | .vshl c hd specs => Sys2Proof.Machine.execVshl c hd specs s
  | .vshr c hd specs => Sys2Proof.Machine.execVshr c hd specs s
  | .vsar c hd specs => Sys2Proof.Machine.execVsar c hd specs s
  | .tas c hd specs => Sys2Proof.Machine.execTas c hd specs s
  | .lr c hd specs => Sys2Proof.Machine.execLr c hd specs s
  | .sc c hd specs => Sys2Proof.Machine.execSc c hd specs s
  | .probe c hd specs => Sys2Proof.Machine.execProbe c hd specs s
  | .ctxEnable ini n => Sys2Proof.Machine.execCtxEnable ini n s
  | .ctxDisable ini n => Sys2Proof.Machine.execCtxDisable ini n s
  | .ctxActivate ini n => Sys2Proof.Machine.execCtxActivate ini n s
  | .ctxAbort ini n => Sys2Proof.Machine.execCtxAbort ini n s
  | .ctxCmdRefused ini op n => Sys2Proof.Machine.execCtxCmdRefused ini op n s
  | .yield ini => Sys2Proof.Machine.execYield ini s
  | .evlWr ini w => Sys2Proof.Machine.execEvlWr ini w s
  | .evsw ini w => Sys2Proof.Machine.execEvsw ini w s
  | .eventLineCause l => Sys2Proof.Machine.execEventLineCause l s
  | .dispatch c => Sys2Proof.Machine.execDispatch c s
  | .preempt n => Sys2Proof.Machine.execPreempt n s
  | .deadline n => Sys2Proof.Machine.execDeadline n s
  | .ovrCntRead ini => Sys2Proof.Machine.execOvrCntRead ini s
  | .skipCntRead ini => Sys2Proof.Machine.execSkipCntRead ini s
  | .take ini => Sys2Proof.Machine.execTake ini s
  | .give ini w => Sys2Proof.Machine.execGive ini w s
  | .put ini w => Sys2Proof.Machine.execPut ini w s
  | .pqLink ini w => Sys2Proof.Machine.execPqLink ini w s
  | .qstatDropRead ini q => Sys2Proof.Machine.execQstatDropRead ini q s
  | .dmaStart ini n => Sys2Proof.Machine.execDmaStart ini n s
  | .dmaStop ini n => Sys2Proof.Machine.execDmaStop ini n s
  | .dmaAbort ini n => Sys2Proof.Machine.execDmaAbort ini n s
  | .dmaResume ini n => Sys2Proof.Machine.execDmaResume ini n s
  | .dmaCmdRefused ini n op => Sys2Proof.Machine.execDmaCmdRefused ini n op s
  | .descriptorStart n => Sys2Proof.Machine.execDescriptorStart n s
  | .dmaUnit n => Sys2Proof.Machine.execDmaUnit n s
  | .dmaRetry n => Sys2Proof.Machine.execDmaRetry n s
  | .pacingGateEval n => Sys2Proof.Machine.execPacingGateEval n s
  | .dmaDropCntRead ini n => Sys2Proof.Machine.execDmaDropCntRead ini n s
  | .canModeInit ini n => Sys2Proof.Machine.execCanModeInit ini n s
  | .canModeNormal ini n => Sys2Proof.Machine.execCanModeNormal ini n s
  | .canModeMonitor ini n => Sys2Proof.Machine.execCanModeMonitor ini n s
  | .canModeRestricted ini n => Sys2Proof.Machine.execCanModeRestricted ini n s
  | .canModeLoopback ini n => Sys2Proof.Machine.execCanModeLoopback ini n s
  | .canModeRefused ini n code => Sys2Proof.Machine.execCanModeRefused ini n code s
  | .canBusIdleApply n => Sys2Proof.Machine.execCanBusIdleApply n s
  | .canIntegrationDone n => Sys2Proof.Machine.execCanIntegrationDone n s
  | .boreq ini n mode => Sys2Proof.Machine.execBoreq ini n mode s
  | .busOffRecoveryDone n => Sys2Proof.Machine.execBusOffRecoveryDone n s
  | .canFrameReceived n f => Sys2Proof.Machine.execCanFrameReceived n f s
  | .canErrorDetected n lec cls after => Sys2Proof.Machine.execCanErrorDetected n lec cls after s
  | .txbLoad ini n b w => Sys2Proof.Machine.execTxbLoad ini n b w s
  | .canTxqPut ini n w => Sys2Proof.Machine.execCanTxqPut ini n w s
  | .txAbortBuffer ini n b => Sys2Proof.Machine.execTxAbortBuffer ini n b s
  | .txAbortQueue ini n => Sys2Proof.Machine.execTxAbortQueue ini n s
  | .txSelection n => Sys2Proof.Machine.execTxSelection n s
  | .canTxEnd n r tdcv => Sys2Proof.Machine.execCanTxEnd n r tdcv s
  | .canTrxNormal ini n => Sys2Proof.Machine.execCanTrxNormal ini n s
  | .canTrxSilent ini n => Sys2Proof.Machine.execCanTrxSilent ini n s
  | .canTrxSleep ini n => Sys2Proof.Machine.execCanTrxSleep ini n s
  | .canModeSwitchEnd n => Sys2Proof.Machine.execCanModeSwitchEnd n s
  | .wup n ns => Sys2Proof.Machine.execWup n ns s
  | .wuf n ide id dlc data => Sys2Proof.Machine.execWuf n ide id dlc data s
  | .fecw n => Sys2Proof.Machine.execFecw n s
  | .perrRead ini n => Sys2Proof.Machine.execPerrRead ini n s
  | .canRxStatRead ini n => Sys2Proof.Machine.execCanRxStatRead ini n s
  | .linModeInit ini n => Sys2Proof.Machine.execLinModeInit ini n s
  | .linModeCommander ini n => Sys2Proof.Machine.execLinModeCommander ini n s
  | .linModeResponder ini n => Sys2Proof.Machine.execLinModeResponder ini n s
  | .linModeMonitor ini n => Sys2Proof.Machine.execLinModeMonitor ini n s
  | .linModeRefused ini n code => Sys2Proof.Machine.execLinModeRefused ini n code s
  | .linBusIdleApply n => Sys2Proof.Machine.execLinBusIdleApply n s
  | .linSlotStart n => Sys2Proof.Machine.execLinSlotStart n s
  | .linHeader n pid => Sys2Proof.Machine.execLinHeader n pid s
  | .linResponseTimeout n l => Sys2Proof.Machine.execLinResponseTimeout n l s
  | .linEntryComplete n l sum bitErr framing => Sys2Proof.Machine.execLinEntryComplete n l sum bitErr framing s
  | .linWakePulse ini n mode => Sys2Proof.Machine.execLinWakePulse ini n mode s
  | .linSleepRequest ini n => Sys2Proof.Machine.execLinSleepRequest ini n s
  | .linSleepRelease ini n => Sys2Proof.Machine.execLinSleepRelease ini n s
  | .txdto n => Sys2Proof.Machine.execTxdto n s
  | .linWakeDetect n => Sys2Proof.Machine.execLinWakeDetect n s
  | .linRxStatRead ini n => Sys2Proof.Machine.execLinRxStatRead ini n s
  | .ethFrameReceived n l fcsOk full ns => Sys2Proof.Machine.execEthFrameReceived n l fcsOk full ns s
  | .ethTxqPut ini n q w => Sys2Proof.Machine.execEthTxqPut ini n q w s
  | .ethTxAbort ini n w => Sys2Proof.Machine.execEthTxAbort ini n w s
  | .ethTxEnd n ns => Sys2Proof.Machine.execEthTxEnd n ns s
  | .ethModeOff ini n => Sys2Proof.Machine.execEthModeOff ini n s
  | .ethModeRun ini n => Sys2Proof.Machine.execEthModeRun ini n s
  | .ethModeLoopback ini n => Sys2Proof.Machine.execEthModeLoopback ini n s
  | .ethModeRefused ini n => Sys2Proof.Machine.execEthModeRefused ini n s
  | .tc10ReqSleep ini n => Sys2Proof.Machine.execTc10ReqSleep ini n s
  | .tc10ReqWake ini n => Sys2Proof.Machine.execTc10ReqWake ini n s
  | .tc10ReqAccept ini n => Sys2Proof.Machine.execTc10ReqAccept ini n s
  | .tc10ReqReject ini n => Sys2Proof.Machine.execTc10ReqReject ini n s
  | .tc10ReqRefused ini n code => Sys2Proof.Machine.execTc10ReqRefused ini n code s
  | .tc10PartnerSleepRequest n => Sys2Proof.Machine.execTc10PartnerSleepRequest n s
  | .tc10HandshakeDone n => Sys2Proof.Machine.execTc10HandshakeDone n s
  | .tc10HandshakeFail n => Sys2Proof.Machine.execTc10HandshakeFail n s
  | .tc10SleepTimeout n => Sys2Proof.Machine.execTc10SleepTimeout n s
  | .tc10WupReceived n => Sys2Proof.Machine.execTc10WupReceived n s
  | .tc10WurReceived n => Sys2Proof.Machine.execTc10WurReceived n s
  | .ethLinkUp n sqi => Sys2Proof.Machine.execEthLinkUp n sqi s
  | .ethLinkLoss n => Sys2Proof.Machine.execEthLinkLoss n s
  | .ethRxStatRead ini n => Sys2Proof.Machine.execEthRxStatRead ini n s
  | .rxErrRead ini n => Sys2Proof.Machine.execRxErrRead ini n s
  | .needSet ini w => Sys2Proof.Machine.execNeedSet ini w s
  | .needClr ini w => Sys2Proof.Machine.execNeedClr ini w s
  | .keep ini w => Sys2Proof.Machine.execKeep ini w s
  | .nscHoldExpiry => Sys2Proof.Machine.execNscHoldExpiry s
  | .commitPoint => Sys2Proof.Machine.execCommitPoint s
  | .nscWake src => Sys2Proof.Machine.execNscWake src s
  | .nscSwitchEnd => Sys2Proof.Machine.execNscSwitchEnd s
  | .awakeTTick => Sys2Proof.Machine.execAwakeTTick s
  | .fsKick ini key => Sys2Proof.Machine.execFsKick ini key s
  | .failSafeExpiry => Sys2Proof.Machine.execFailSafeExpiry s
  | .countsRead ini => Sys2Proof.Machine.execCountsRead ini s
  | .pllLossOfLock => Sys2Proof.Machine.execPllLossOfLock s
  | .lpoCalibration us256 => Sys2Proof.Machine.execLpoCalibration us256 s
  | .wdgKick ini key => Sys2Proof.Machine.execWdgKick ini key s
  | .watchdogExpiry c => Sys2Proof.Machine.execWatchdogExpiry c s
  | .debugPortReset => Sys2Proof.Machine.execDebugPortReset s
  | .powerOnReset straps rail trimOk => Sys2Proof.Machine.execPowerOnReset straps rail trimOk s
  | .controllerReset trimOk => Sys2Proof.Machine.execControllerReset trimOk s
  | .coreReset c => Sys2Proof.Machine.execCoreReset c s
  | .rstCtlController ini => Sys2Proof.Machine.execRstCtlController ini s
  | .rstCtlCore ini mask => Sys2Proof.Machine.execRstCtlCore ini mask s
  | .debugResetRequest => Sys2Proof.Machine.execDebugResetRequest s
  | .imageVerificationDone => Sys2Proof.Machine.execImageVerificationDone s
  | .outputHoldEnd => Sys2Proof.Machine.execOutputHoldEnd s
  | .fallbackFlashToggle => Sys2Proof.Machine.execFallbackFlashToggle s
  | .outRel ini => Sys2Proof.Machine.execOutRel ini s
  | .crstRead ini c => Sys2Proof.Machine.execCrstRead ini c s
  | .pollCmd ini slots ant pas => Sys2Proof.Machine.execPollCmd ini slots ant pas s
  | .touchPollStart => Sys2Proof.Machine.execTouchPollStart s
  | .pollAttemptStart => Sys2Proof.Machine.execPollAttemptStart s
  | .responseWindowEnd l cs => Sys2Proof.Machine.execResponseWindowEnd l cs s
  | .antennaFault a short => Sys2Proof.Machine.execAntennaFault a short s
  | .buttonTelegram t => Sys2Proof.Machine.execButtonTelegram t s
  | .uhfWake => Sys2Proof.Machine.execUhfWake s
  | .authWindowEnd => Sys2Proof.Machine.execAuthWindowEnd s
  | .learnCtl ini => Sys2Proof.Machine.execLearnCtl ini s
  | .learnDone => Sys2Proof.Machine.execLearnDone s
  | .immoClose ini => Sys2Proof.Machine.execImmoClose ini s
  | .immoOpen ini => Sys2Proof.Machine.execImmoOpen ini s
  | .relayOvercurrent mA => Sys2Proof.Machine.execRelayOvercurrent mA s
  | .invInfoRead ini => Sys2Proof.Machine.execInvInfoRead ini s
  | .hash ini => Sys2Proof.Machine.execHash ini s
  | .verify ini => Sys2Proof.Machine.execVerify ini s
  | .quote ini => Sys2Proof.Machine.execQuote ini s
  | .idexport ini => Sys2Proof.Machine.execIdexport ini s
  | .ktexport ini => Sys2Proof.Machine.execKtexport ini s
  | .keyset ini => Sys2Proof.Machine.execKeyset ini s
  | .erase ini => Sys2Proof.Machine.execErase ini s
  | .program ini => Sys2Proof.Machine.execProgram ini s
  | .commit ini => Sys2Proof.Machine.execCommit ini s
  | .rollfwd ini => Sys2Proof.Machine.execRollfwd ini s
  | .ucfg ini => Sys2Proof.Machine.execUcfg ini s
  | .rand ini => Sys2Proof.Machine.execRand ini s
  | .badop ini op => Sys2Proof.Machine.execBadop ini op s
  | .cryptoCmdRefused ini w => Sys2Proof.Machine.execCryptoCmdRefused ini w s
  | .cryptoOperationDone nvFail => Sys2Proof.Machine.execCryptoOperationDone nvFail s
  | .beaconReceived src tag len => Sys2Proof.Machine.execBeaconReceived src tag len s
  | .heardSetExpiry a => Sys2Proof.Machine.execHeardSetExpiry a s
  | .syncReceived sysNs trim => Sys2Proof.Machine.execSyncReceived sysNs trim s
  | .pdelayExchange => Sys2Proof.Machine.execPdelayExchange s
  | .syncTimeout => Sys2Proof.Machine.execSyncTimeout s
  | .remoteReadRequest ini dst => Sys2Proof.Machine.execRemoteReadRequest ini dst s
  | .remoteWriteRequest ini dst => Sys2Proof.Machine.execRemoteWriteRequest ini dst s
  | .respReceived reqSeq res data => Sys2Proof.Machine.execRespReceived reqSeq res data s
  | .requestTimeout => Sys2Proof.Machine.execRequestTimeout s
  | .rdreqReceived src reqSeq a => Sys2Proof.Machine.execRdreqReceived src reqSeq a s
  | .wrreqReceived src reqSeq a w => Sys2Proof.Machine.execWrreqReceived src reqSeq a w s
  | .bondMsgSend => Sys2Proof.Machine.execBondMsgSend s
  | .msgReceived src dq sfn l => Sys2Proof.Machine.execMsgReceived src dq sfn l s
  | .mirinReceived src sfn aligned l => Sys2Proof.Machine.execMirinReceived src sfn aligned l s
  | .miroutReceived src sfn l => Sys2Proof.Machine.execMiroutReceived src sfn l s
  | .mirrorWindowEnd => Sys2Proof.Machine.execMirrorWindowEnd s
  | .qkick ini key => Sys2Proof.Machine.execQkick ini key s
  | .quoinEdge => Sys2Proof.Machine.execQuoinEdge s
  | .quoinTimeout => Sys2Proof.Machine.execQuoinTimeout s
  | .takeoverDelayEnd => Sys2Proof.Machine.execTakeoverDelayEnd s
  | .gate ini key open_ => Sys2Proof.Machine.execGate ini key open_ s
  | .cmpCntRead ini => Sys2Proof.Machine.execCmpCntRead ini s
  | .linkCntRead ini => Sys2Proof.Machine.execLinkCntRead ini s
  | .msgStatRead ini => Sys2Proof.Machine.execMsgStatRead ini s
  | .illegalInstruction c => Sys2Proof.Machine.execIllegalInstruction c s
  | .regactExpiry n => Sys2Proof.Machine.execRegactExpiry n s
  | .wakeDecoderFrame n error fd => Sys2Proof.Machine.execWakeDecoderFrame n error fd s
  | .linSyncFramingError f => Sys2Proof.Machine.execLinSyncFramingError f s
  | .linModeSwitchEnd n => Sys2Proof.Machine.execLinModeSwitchEnd n s
  | .ethModeSwitchEnd n => Sys2Proof.Machine.execEthModeSwitchEnd n s
  | .uhfListenEnd => Sys2Proof.Machine.execUhfListenEnd s
  | .moduleSupplyLoss => Sys2Proof.Machine.execModuleSupplyLoss s

end Sys2Proof.Machine
end

