-- ==== Sys2Proof/Safety.lean ====
section
/-!
DEFINITION. The terms that claims use: the canonical form of the memory, when a command that writes or reads a register reaches it,
and what a command answers.
-/
namespace Sys2Proof.Machine

/-- The byte memory is in its canonical form. -/
def Mach.memOk (m : Mach) : Bool := Memory.wf m.mem

/-- The module is supplied: what has no supply does nothing (R633). -/
def State.alive (s : State) : Bool := !s.m.hw.rst.off

/-- An access of `ini` to register `off` of page (`ty`, `i`), a write where `wr`, finds its way: the page is populated, the initiator issues
and no earlier access of it hangs, a task's grants cover the register, and PD18 and the domain of the page take accesses (R30, R39, R256,
R482). -/
def reach (h : Hw) (ini : Initiator) (ty i off : Nat) (wr : Bool) : Bool :=
  (pageDomain ty i).isSome && iniLive h ini && !ungranted h ini (pg ty i + off) 4 wr && domOpen h 18 && accessOpen h ini (pg ty i + off)

/-- The command may read register `off` of page (`ty`, `i`). -/
def State.reads (s : State) (ini : Initiator) (ty i off : Nat) : Bool := s.alive && reach s.m.hw ini ty i off false

/-- A write of register `off` of page (`ty`, `i`) finds its way to the page. -/
def State.arrives (s : State) (ini : Initiator) (ty i off : Nat) : Bool := s.alive && reach s.m.hw ini ty i off true

/-- The command may write it: the write finds its way and the page's lock allows it (R59 … R61). -/
def State.writes (s : State) (ini : Initiator) (ty i off : Nat) : Bool :=
  s.arrives ini ty i off && lockAllows s.m.hw ini ty i off

/-- The state whose blocks are changed by `f`; memory and queue stay. -/
def State.withHw (s : State) (f : Hw → Hw) : State := { s with m := { s.m with hw := f s.m.hw } }

/-- The command answers the state whose blocks are changed by `f`: every byte of memory and the queue stay as they are. -/
def Gives (c : Instr) (s : State) (f : Hw → Hw) : Prop := exec c s = .next (s.withHw f)

/-- The command answers the state whose blocks are changed by `f`, and the accesses that wait since step 2 of an entry that `f` ended then proceed
(R444); memory and the queue of commands stay but for those accesses. -/
def Wakes (c : Instr) (s : State) (f : Hw → Hw) : Prop := exec c s = .next { s with m := proceed s.m (s.m.onHw f) }

/-- The command answers a next state of which `P` holds. -/
def Answers (c : Instr) (s : State) (P : State → Prop) : Prop := ∃ t, exec c s = .next t ∧ P t

/-- Every byte of memory reads as before. -/
def sameMem (s t : State) : Prop := ∀ a, rdByte t.m.mem a = rdByte s.m.mem a

/-- Every byte of memory outside the `n` bytes from `a` reads as before. -/
def sameMemBut (s t : State) (a n : Nat) : Prop := ∀ b, b < a ∨ a + n ≤ b → rdByte t.m.mem b = rdByte s.m.mem b

/-- Every stored register but those at the addresses of the list holds what it held. -/
def sameRegsBut (h h' : Hw) (l : List Nat) : Prop := ∀ a, a ∉ l → rdA h' a = rdA h a

/-- The change that a read of a register with RC bits `mask` makes: those bits clear, and the answer is `v` (R5). -/
def rcRead (ty i off : Nat) (mask : Word) (v : Nat) (h : Hw) : Hw :=
  { relevel ty i (wr h ty i off (rd h ty i off &&& ~~~mask)) with reply := v }

/-- The sequencer has nothing to do and no access waits anywhere. -/
def quiet (h : Hw) : Bool :=
  decide (h.pwr.cur = none) && h.pwr.singles.isEmpty && h.pwr.sets.isEmpty && h.waits.isEmpty

/-- From `s` to `t` only the record of high-side channel `n`, the timers and the listed registers of its page change. -/
def hswKept (s t : State) (n : Nat) (l : List Nat) : Prop :=
  t = s.withHw (fun h => { h with regs := t.m.hw.regs, hsw := t.m.hw.hsw, hswT := t.m.hw.hswT }) ∧ (∀ k, k ≠ n → hsw t.m.hw k = hsw s.m.hw k) ∧
    sameRegsBut s.m.hw t.m.hw (l.map (fun o => pg 0x10 n + o))

/-- From `s` to `t` only the record of the half-bridge unit led by `u` and the listed registers of the pages of its half-bridges change. -/
def hbrKept (s t : State) (u : Nat) (l : List Nat) : Prop :=
  t = s.withHw (fun h => { h with regs := t.m.hw.regs, hbr := t.m.hw.hbr }) ∧ (∀ k, k ≠ u → hbr t.m.hw k = hbr s.m.hw k) ∧
    sameRegsBut s.m.hw t.m.hw ((hbrMembers s.m.hw u).flatMap (fun n => l.map (fun o => pg 0x11 n + o)))

/-- From `s` to `t` only the record of valve `v` of bank `g`, the record of that bank and the event, level and TRIP_CNT registers of its page
change. -/
def solKept (s t : State) (g v : Nat) : Prop :=
  t = s.withHw (fun h => { h with regs := t.m.hw.regs, valves := t.m.hw.valves, banks := t.m.hw.banks }) ∧
    (∀ k, k ≠ solNo g v → smGet {} t.m.hw.valves k = smGet {} s.m.hw.valves k) ∧ (∀ j, j ≠ g → bank t.m.hw j = bank s.m.hw j) ∧
    sameRegsBut s.m.hw t.m.hw [pg 0x12 g + oRAW, pg 0x12 g + oSTAT, pg 0x12 g + 0x0B4]

/-- The bank's record after one of its valves changed: `b`, with the bank switch off when no valve is in WAIT, PEAK or HOLD (R169). -/
def bankAfter (t : State) (g : Nat) (b : Bank) : Prop :=
  bank t.m.hw g = if (List.range 4).any (fun k => busyValve (valve t.m.hw g k)) = true then b else { b with sw := false }

/-- Event source `i` of a page is set, where the page's domain is ON. -/
def evSeen (h : Hw) (ty n i : Nat) : Prop := pageOn h ty n = true → bit (rd h ty n oSTAT) i = true

/-- From `s` to `t` only the record of CAN channel `n`, the listed registers of its page and the fail-safe count change. -/
def canKept (s t : State) (n : Nat) (l : List Nat) : Prop :=
  t = s.withHw (fun h => { h with regs := t.m.hw.regs, can := t.m.hw.can, nsc := t.m.hw.nsc }) ∧ (∀ k, k ≠ n → can t.m.hw k = can s.m.hw k) ∧
    { t.m.hw.nsc with fsFrom := s.m.hw.nsc.fsFrom, fsLoaded := s.m.hw.nsc.fsLoaded } = s.m.hw.nsc ∧
    sameRegsBut s.m.hw t.m.hw (l.map (fun o => pg 0x20 n + o))

/-- The same of LIN channel `n`. -/
def linKept (s t : State) (n : Nat) (l : List Nat) : Prop :=
  t = s.withHw (fun h => { h with regs := t.m.hw.regs, lin := t.m.hw.lin, nsc := t.m.hw.nsc }) ∧ (∀ k, k ≠ n → lin t.m.hw k = lin s.m.hw k) ∧
    { t.m.hw.nsc with fsFrom := s.m.hw.nsc.fsFrom, fsLoaded := s.m.hw.nsc.fsLoaded } = s.m.hw.nsc ∧
    sameRegsBut s.m.hw t.m.hw (l.map (fun o => pg 0x21 n + o))

/-- The same of Ethernet port `n`. -/
def ethKept (s t : State) (n : Nat) (l : List Nat) : Prop :=
  t = s.withHw (fun h => { h with regs := t.m.hw.regs, eth := t.m.hw.eth, nsc := t.m.hw.nsc }) ∧ (∀ k, k ≠ n → eth t.m.hw k = eth s.m.hw k) ∧
    { t.m.hw.nsc with fsFrom := s.m.hw.nsc.fsFrom, fsLoaded := s.m.hw.nsc.fsLoaded } = s.m.hw.nsc ∧
    sameRegsBut s.m.hw t.m.hw (l.map (fun o => pg 0x22 n + o))

/-- The ring of a front end is queue `q`, PD17 is ON and one page may be claimed for it (R319, R321). -/
def ringTakesOne (h : Hw) (ty n q : Nat) : Prop :=
  ringQueue h ty n = some q ∧ domOn h 17 = true ∧ freeCount h ≠ 0 ∧ (rsvOf h < freeCount h ∨ bit (qcfg h q) 30 = true) ∧
    qFull h q (filling h q) = false

/-- An entry of the bytes `l`, one page long, joined the tail of queue `q`; no other byte of memory changed. -/
def entryStored (s t : State) (q : Nat) (l : List Byte) : Prop :=
  ∃ p, queue t.m.hw q = queue s.m.hw q ++ [⟨p, s.m.hw.frame, 256, 0⟩] ∧ apage t.m.hw p = { own := .queue q, next := none } ∧
    rdBytes t.m.mem (pageAddr p) l.length = l ∧ sameMemBut s t (pageAddr p) l.length

/-- The bytes of a LIN entry (R397): the header, then the response. -/
def linEntry (own enh : Bool) (seq pid stat frame time : Nat) (l : List Byte) : List Byte :=
  [0x80000000 + own.toNat * 0x4000000 + enh.toNat * 0x2000000 + seq, pid, stat * 0x100 + l.length, frame % 65536, time % 2 ^ 32, 0, 0,
    0].flatMap wordBytes ++ l

/-- The bytes of an Ethernet entry of one page (R407): the header, then the frame. -/
def ethEntry (seq frame time ts : Nat) (l : List Byte) : List Byte :=
  let t := tagged l
  [0x80000000 + t.toNat * 0x8000000 + seq, (if t then be16 l 14 else 0) * 0x10000 + be16 l (if t then 16 else 12), 0x10000 + l.length,
    frame % 65536, time % 2 ^ 32, 0, ts % 2 ^ 32, ts / 2 ^ 32 % 2 ^ 32].flatMap wordBytes ++ l

/-- The Bond link queued one frame of type `typ` to `dst` with the payload `data` at its port, and SEQ counted it (R563, R565, R566). -/
def bondQueued (s t : State) (typ dst : Nat) (data : List Byte) : Prop :=
  ∃ p f, bondPort s.m.hw = some p ∧ (eth t.m.hw p).bond = (eth s.m.hw p).bond ++ [f] ∧ f.typ = typ ∧ f.src = bondAddr s.m.hw ∧ f.dst = dst ∧
    f.seq = (s.m.hw.bond.seq + 1) % 65536 ∧ f.data = data ∧ t.m.hw.bond.seq = f.seq

/-! ## Instructions of the cores -/

/-- The record of context `n` in `t` holds the state of the task that core `c` held in `s`, with `pc` and flags `f`; no byte outside the 0x4A0
bytes of that state changes (R291, R294). -/
def recStored (s t : State) (n c : Nat) (pc : Word) (f : Flags) : Prop :=
  let b := recBase s.m.hw n
  (∀ a, a < 1024 → rdByte t.m.mem (b + a) = rdByte s.m.mem (nearBase c + descF (ctx s.m.hw n) 52 8 * 0x400 + a)) ∧
    (∀ k, k < 4 → rdMem t.m.mem (b + 0x400 + 0x20 * k) 32 = (smGet 0 (olk s.m.hw c).prods k).toNat) ∧
    rdMem t.m.mem (b + 0x480) 4 = pc.toNat ∧ rdMem t.m.mem (b + 0x484) 4 = flagsNat f ∧
    rdMem t.m.mem (b + 0x490) 8 = (ctx s.m.hw n).rel % 2 ^ 64 ∧ sameMemBut s t b 0x4A0

/-- The core issues, nothing of it is late, no repeat runs, the instruction may be fetched, its encoding is legal, the mode may run it and its
condition holds (R231, R236, R239, R255, R266, R267, R482). -/
def coreReady (s : State) (i : CoreInstr) : Bool :=
  let h := s.m.hw
  let r := olk h i.core.val
  s.alive && iniLive h (.core i.core) && decide (r.rep = none ∧ r.late = [] ∧ r.lateP = []) &&
    (List.range (instrLen i / 2)).all (fun k =>
      let a := (r.pc.toNat + 2 * k) % 4294967296
      (fetchFault h i.core.val a).isNone && fetchOpen h i a) &&
    !isIllegal i r.sup && !i.hd.rpt && (!isPriv i.op || r.sup) && condHolds r.flags i.hd.cond.val

/-- The window of the instruction's core. -/
def coreWin (s : State) (i : CoreInstr) : Nat := winBase i.core.val (olk s.m.hw i.core.val)

/-- The memory accesses of the instruction's operands. -/
def coreAcs (s : State) (i : CoreInstr) : List Acs := acsFrom i s.m.mem (coreWin s i) 0 i.specs

/-- No operand of the instruction faults, and every one that lies in memory lies in the core's near memory. -/
def nearOps (s : State) (i : CoreInstr) : Bool :=
  (acsFaults i s.m.hw i.core.val (coreAcs s i)).isEmpty && (coreAcs s i).all (fun x => isNear i.core.val x.a)

/-- No operand faults, every one that lies in memory lies in a memory whose domain is open, and the destination lies near. -/
def farOps (s : State) (i : CoreInstr) : Bool :=
  (acsFaults i s.m.hw i.core.val (coreAcs s i)).isEmpty && dstNear i.core.val (dstOf i.op (coreAcs s i)) &&
    (coreAcs s i).all (fun x => decide (x.a < 0x40000000) && acsOpen s.m.hw (.core i.core) x)

/-- The values of the sources, in specifier order from specifier `k` (R233, R242, R244): an operand in memory as the memory holds it. -/
def sourceVals (i : CoreInstr) (m : Mem) (win : Nat) : Nat → List Spec → List Nat
  | _, [] => []
  | k, x :: r =>
    if k = 0 ∧ (hasDst i.op = true ∨ i.op = .sc) then sourceVals i m win (k + 1) r
    else
      let n := specSize i.op i.hd.size.val k
      (match immRule i.op k, opAddr m win n x with
       | some _, _ => immNat x
       | none, none => immSource i x
       | none, some a => rdMem m a n) :: sourceVals i m win (k + 1) r

/-- What the instruction computes from its sources. -/
def coreEff (s : State) (i : CoreInstr) : Eff :=
  let r := olk s.m.hw i.core.val
  opEff i r i.core.val (instrLen i) (relFrame s.m.hw r) s.m.hw.frame (sourceVals i s.m.mem (coreWin s i) 0 i.specs)

/-- The memory after the pointer changes of the instruction's operands (R243, R244). -/
def memPtrs (s : State) (i : CoreInstr) : Mem := (applyPtrs (coreWin s i) (ptrList i 0 i.specs) s.m).mem

/-- That memory with the value `v` written to the destination, where there are both. -/
def memDst (s : State) (i : CoreInstr) (v : Option Nat) : Mem :=
  match dstOf i.op (coreAcs s i), v with
  | some x, some w => wrMem (memPtrs s i) x.a x.n (w % 2 ^ (8 * x.n))
  | _, _ => memPtrs s i

/-- The address after the instruction. -/
def pcNext (s : State) (i : CoreInstr) : Nat := ((olk s.m.hw i.core.val).pc.toNat + instrLen i) % 4294967296

/-- The record of core `c` but for its reservation, which a write to its quadword clears (R284). -/
def olkCore (h : Hw) (c : Nat) : Olk := { olk h c with resv := none }

/-- From `s` to `t` only the records of the cores change among the blocks, those of the other cores at most in their reservations; the record of
core `c` is `r` but for its reservation. -/
def coreAfter (s t : State) (c : Nat) (r : Olk) : Prop :=
  t.m.hw = { s.m.hw with olk := t.m.hw.olk } ∧ t.pending = s.pending ∧ (∀ k, k ≠ c → olkCore t.m.hw k = olkCore s.m.hw k) ∧
    olkCore t.m.hw c = { r with resv := none }

/-- The core's record at the entry with `cause` that saves `epc` and `eaddr` (R262). -/
def entered (r : Olk) (cause : Nat) (epc eaddr : Word) (ecause : Word) : Olk :=
  { r with
    epc := epc, ecause := ecause, eaddr := eaddr, eflags := r.flags, pmode := r.sup, pie := r.ie, sup := true, ie := false, exl := true
    pc := r.vbase + BitVec.ofNat 32 (0x40 * cause), rep := none, phase := .run
    nest := if r.phase = .free then 1 else if r.nest = 0 then 0 else r.nest + 1 }

end Sys2Proof.Machine
end

