-- ==== Sys2Proof/Certificates/Slice0/Obligations.lean ====
section
/-!
DEFINITION. The statements about the model. `Gives c s f` says that command `c` answers the next state in which the blocks are changed by
`f` and nothing else is: every byte of memory and the queue of commands stay as they are, and so does every register and record that `f`
does not name. `Answers c s P` says that it answers a next state of which `P` holds.
-/
open Sys2Proof Sys2Proof.Machine

/-! ## The block as a whole -/

/-- A step with command `c` at the front of the queue is `exec` of `c` on the state with the queue's rest (the model's own form: a block
takes its commands first in, first out; log entry 1). -/
def Obligations.StepRunsFront : Prop :=
  ∀ (c : Instr) (r : List Instr) (s : State), step { s with pending := c :: r } = exec c { s with pending := r }

/-- Every command answers a next state, in every state, and leaves the queue of the commands that wait as it is.

With no command waiting a step is one microsecond in which nothing is commanded (log entry 1): time advances, the timebase with it
while PD18 is ON, modulo 2^64 (R13), the blocks' own copy of it in every state of PD18 (R472), and the RTC by the CK_LPO cycles that have passed (R456); all else stays.

While the module has no supply, every command but POWER_ON_RESET leaves the state as it is (the model's choice, log entry 1). -/
def Obligations.BlockSteps : Prop :=
  (∀ (c : Instr) (s : State), Answers c s (fun t => t.pending = s.pending)) ∧
  (∀ s : State, s.pending = [] → s.alive = true →
     step s = .next (s.withHw (fun h =>
       { h with
         now := h.now + 1
         timebase := if (dom h 18).state = .on then (h.timebase + 1) % 2 ^ 64 else h.timebase
         tbCopy := (h.tbCopy + 1) % 2 ^ 64
         pwr := { h.pwr with
           rtcFrac := (h.pwr.rtcFrac + 32768) % 1000000
           rtc := (h.pwr.rtc + (h.pwr.rtcFrac + 32768) / 1000000) % 2 ^ 48 } }))) ∧
  (∀ (c : Instr) (s : State), s.alive = false → (∀ straps rail trimOk, c ≠ .powerOnReset straps rail trimOk) → exec c s = .next s)

/-- The canonical form of the byte memory (addresses strictly rising, no entry equal to what an unlisted address reads as) is kept by
every step, whichever command stands in front. -/
def Obligations.MemoryFormKept : Prop :=
  ∀ s t : State, s.m.memOk = true → step s = .next t → t.m.memOk = true

/-- The module right after reset (R7, R8, R13, R439, R491, R496): no command waits, the timebase and the frame count are 0, every domain is ON, every core is
in reset in supervisor mode, every register reads its reset value, DEV_ID and DEV_REV.MAJOR identify the module, every high-side channel, half-bridge and valve
is off, every CAN and LIN channel is in INIT with its transceiver in SLEEP, every Ethernet port is OFF, the sleep coordinator is OFF, every page is in the free
pool, and no context, DMA channel, poll or crypto operation runs. -/
def Obligations.ResetState : Prop :=
  State.reset.m.memOk = true ∧ State.reset.alive = true ∧ State.reset.pending = [] ∧
    let h := State.reset.m.hw
    h.timebase = 0 ∧ h.frame = 0 ∧ appliedLen h = 1000 ∧ (∀ d, d < 45 → domOn h d = true ∧ (dom h d).busy = false) ∧
    (∀ c, c < 12 → (olk h c).phase = .reset ∧ (olk h c).sup = true) ∧
    (∀ ty i off, rd h ty i off = regReset 0 (pg ty i + off)) ∧ rd h 1 0 0x040 = 0xC51A9640 ∧ devRev / 256 % 256 = 1 ∧
    (∀ n, n < 96 → (hsw h n).st = .off ∧ (hsw h n).out = false) ∧ (∀ n, n < 24 → (hbr h n).st = .off) ∧
    (∀ g v, g < 4 → v < 4 → (valve h g v).st = .idle) ∧
    (∀ n, n < 8 → (can h n).mode = 0 ∧ (can h n).trx = 2) ∧ (∀ n, n < 16 → (lin h n).mode = 0 ∧ (lin h n).sleep = true) ∧
    (∀ n, n < 2 → ethMode h n = 0 ∧ (eth h n).tc = 2) ∧ h.nsc.st = 0 ∧ freeCount h = 4096 ∧
    (∀ n, n < 256 → (ctx h n).st = .disabled) ∧ (∀ n, n < 64 → (dma h n).st = .idle) ∧ h.acc.poll = none ∧ h.cry.run = none

/-! ## Register pages (chapter 02) -/

/-- REGISTER_WRITE of a register without a meaning of its own (R5): RW and RWS bits take the written value, W1C bits written 1 clear, every
other bit stays; the level sources of the page follow. An unassigned offset sets UNMAPPED (R36) and a narrower write WIDTH. -/
def Obligations.RegisterWriteByAccessType : Prop :=
  (∀ (ini : Initiator) (ty i off : Nat) (r : Reg) (v : Quad) (s : State), ty < 0x100 → i < 0x100 → off < 0x1000 → off % 4 = 0 →
    s.writes ini ty i off = true → findReg ty i off = some r → pageAct ini ty i off (BitVec.ofNat 32 v.toNat) s.m = none →
    Gives (.registerWrite ini (BitVec.ofNat 32 (pg ty i + off)) 2 v) s (fun h =>
      let w : Word := BitVec.ofNat 32 v.toNat
      let rw := rwMask ty i off r
      relevel ty i (wr h ty i off (((rd h ty i off &&& ~~~rw) ||| (w &&& rw)) &&& ~~~(w &&& r.w1c))))) ∧
  (∀ (ini : Initiator) (ty i off : Nat) (v : Quad) (s : State), ty < 0x100 → i < 0x100 → off < 0x1000 → off % 4 = 0 →
    s.arrives ini ty i off = true → findReg ty i off = none →
    Gives (.registerWrite ini (BitVec.ofNat 32 (pg ty i + off)) 2 v) s (fun h => err h ty i 0)) ∧
  (∀ (ini : Initiator) (ty i off : Nat) (k : Fin 2) (v : Quad) (r : Reg) (s : State), ty < 0x100 → i < 0x100 → off < 0x1000 →
    off % 4 = 0 → s.arrives ini ty i off = true → findReg ty i off = some r →
    Gives (.registerWrite ini (BitVec.ofNat 32 (pg ty i + off)) (k.castLE (by decide)) v) s (fun h => err h ty i 1))

/-- R60: a write of a register that PG_LOCK covers is accepted from every initiator in mode 0b00; in mode 0b01 from supervisor-mode code of a core and the debug
port; in mode 0b10 from those and, except for PG_LOCK itself, from task-mode code of the context OWNER; in mode 0b11 from none. An accepted write of a register
without a meaning of its own stores by access type; a refused one is ignored and sets ERR_STAT.LOCKED. -/
def Obligations.PageLocks : Prop :=
  ∀ (ini : Initiator) (ty i off : Nat) (r : Reg) (v : Quad) (s : State), ty < 0x100 → i < 0x100 → off < 0x1000 → off % 4 = 0 →
    s.arrives ini ty i off = true → findReg ty i off = some r →
    let l := rd s.m.hw ty i oLOCK
    let mode := fld l 0 2
    let covered := off ∈ [oPWR, oCOMMIT, oEN, oSET, oROUTE, oLOCK] ∨ 0x400 ≤ off ∧ off < 0x800 ∨
      0x040 ≤ off ∧ off < 0x400 ∧ bit l 4 = true ∧ (mode = 1 ∨ mode = 2)
    let supervisor := match ini with | .core c => (olk s.m.hw c.val).sup = true | .debug => True | _ => False
    let owner := match ini with | .core c => (olk s.m.hw c.val).sup = false ∧ (olk s.m.hw c.val).ctx = some (fld l 8 8) | _ => False
    let accepted := mode = 0 ∨ mode = 1 ∧ supervisor ∨ mode = 2 ∧ (supervisor ∨ owner ∧ off ≠ oLOCK)
    (covered → ¬ accepted → Gives (.registerWrite ini (BitVec.ofNat 32 (pg ty i + off)) 2 v) s (fun h => err h ty i 2)) ∧
    ((covered → accepted) → s.writes ini ty i off = true ∧
      (pageAct ini ty i off (BitVec.ofNat 32 v.toNat) s.m = none →
        Gives (.registerWrite ini (BitVec.ofNat 32 (pg ty i + off)) 2 v) s (fun h =>
          let w : Word := BitVec.ofNat 32 v.toNat
          let rw := rwMask ty i off r
          relevel ty i (wr h ty i off (((rd h ty i off &&& ~~~rw) ||| (w &&& rw)) &&& ~~~(w &&& r.w1c))))))

/-- REGISTER_WRITE to a memory that takes the access (an aligned write, of a task within its grants, to near memory by its own core or to a
memory whose domain is ON and not in step 2 of an entry): the bytes written read back little-endian (R228), every other byte stays, every
core's reservation on a quadword touched is cleared (R284), and nothing else of the blocks changes. -/
def Obligations.MemoryWriteReadsBack : Prop :=
  ∀ (ini : Initiator) (a : Word) (k : Fin 5) (v : Quad) (s : State), s.alive = true → a.toNat < 0x40000000 → 0x01000000 ≤ a.toNat →
    a.toNat % 2 ^ k.val = 0 → (addrDomain a.toNat).isSome = true → iniLive s.m.hw ini = true →
    ungranted s.m.hw ini a.toNat (2 ^ k.val) true = false →
    (splitWords a.toNat (2 ^ k.val)).all (fun b => accessOpen s.m.hw ini b) = true →
    Answers (.registerWrite ini a k v) s (fun t =>
      rdMem t.m.mem a.toNat (2 ^ k.val) = v.toNat % 256 ^ (2 ^ k.val) ∧ sameMemBut s t a.toNat (2 ^ k.val) ∧
      t.m.hw = clearResv a.toNat (2 ^ k.val) s.m.hw ∧ t.pending = s.pending)

/-- The commit codes (R49, R51): BOUNDARY sets PEND, CANCEL clears PEND and ARMED, ARM sets ARMED, RELOAD copies the applied
configuration into the staging area, IMMEDIATE applies the staging area outside the HSW, HBR and SOL pages; a reserved code sets
BADCODE and does nothing else.

Applying a populated page (R49, R51): the applied configuration takes every staged register, CCOUNT advances by 1 modulo 256, PEND clears,
and no other page's applied configuration changes. Where a CAN or LIN commit waits for bus idle or the end of a round (R357, R392, R395), PEND
clears, the staged set waits, and neither CCOUNT nor any applied configuration changes.

GROUP_COMMIT_GO (R53): on every armed page whose domain is ON, ARMED becomes PEND; no other register changes.

EV_SET (R47): a write sets the selected bits of EV_STAT, of the sources the page defines, and nothing else. -/
def Obligations.CommitsAndSources : Prop :=
  (∀ (ini : Initiator) (ty inst : Byte) (s : State), s.writes ini ty.toNat inst.toNat oCOMMIT = true →
     Gives (.commitBoundary ini ty inst) s (fun h => wrF h ty.toNat inst.toNat oCOMMIT 8 1 1) ∧
     Gives (.commitCancel ini ty inst) s (fun h => wrF h ty.toNat inst.toNat oCOMMIT 8 2 0) ∧
     Gives (.commitArm ini ty inst) s (fun h => wrF h ty.toNat inst.toNat oCOMMIT 9 1 1) ∧
     Gives (.commitReload ini ty inst) s (fun h =>
       { h with regs := smCopyRange (pg ty.toNat inst.toNat + 0x400) (pg ty.toNat inst.toNat + 0x800) h.applied h.regs }) ∧
     (¬ (ty = 0x10 ∨ ty = 0x11 ∨ ty = 0x12) → Gives (.commitImmediate ini ty inst) s (applyPage ty.toNat inst.toNat true)) ∧
     (∀ code : BitVec 3, 6 ≤ code.toNat → Gives (.commitBadcode ini ty inst code) s (fun h => err h ty.toNat inst.toNat 3))) ∧
  (∀ (ty i : Nat) (imm : Bool) (h : Hw), (pageDomain ty i).isSome = true →
     bit (rd (applyPage ty i imm h) ty i oCOMMIT) 8 = false ∧
     (commitWaits ty i h = false →
       (∀ off, 0x400 ≤ off → off < 0x800 → cfg (applyPage ty i imm h) ty i off = rd h ty i off) ∧
       (∀ a, (a < pg ty i + 0x400 ∨ pg ty i + 0x800 ≤ a) → cfgA (applyPage ty i imm h) a = cfgA h a) ∧
       fld (rd (applyPage ty i imm h) ty i oCOMMIT) 16 8 = (fld (rd h ty i oCOMMIT) 16 8 + 1) % 256) ∧
     (commitWaits ty i h = true →
       (∀ a, cfgA (applyPage ty i imm h) a = cfgA h a) ∧
       fld (rd (applyPage ty i imm h) ty i oCOMMIT) 16 8 = fld (rd h ty i oCOMMIT) 16 8 ∧
       (ty = 0x20 → (can (applyPage ty i imm h) i).defer = some (stagedSet h ty i)) ∧
       (ty = 0x21 → (lin (applyPage ty i imm h) i).defer = some (stagedSet h ty i)))) ∧
  (∀ (ini : Initiator) (s : State), s.writes ini 1 0 0x070 = true →
     Answers (.groupCommitGo ini) s (fun t =>
       t = s.withHw (fun h => { h with regs := t.m.hw.regs }) ∧
       (∀ e ∈ pageTypes, ∀ i, i < e.2 → rd t.m.hw e.1 i oCOMMIT =
         if bit (rd s.m.hw e.1 i oCOMMIT) 9 = true ∧ pageOn s.m.hw e.1 i = true then setFld (rd s.m.hw e.1 i oCOMMIT) 8 2 1
         else rd s.m.hw e.1 i oCOMMIT) ∧
       (∀ a, (∀ e ∈ pageTypes, ∀ i, i < e.2 → a ≠ pg e.1 i + oCOMMIT) → rdA t.m.hw a = rdA s.m.hw a))) ∧
  (∀ (ini : Initiator) (ty inst : Byte) (w : Word) (s : State), s.writes ini ty.toNat inst.toNat oSET = true →
     Gives (.evSet ini ty inst w) s (fun h =>
       wr h ty.toNat inst.toNat oSTAT (rd h ty.toNat inst.toNat oSTAT ||| (w &&& evDefined ty.toNat))))

/-- R52: on an HSW, HBR or SOL page the commit code 0b010 has the effect of code 0b001 and sets ERR_STAT.IMMDEF. -/
def Obligations.ImmediateCommitDeferred : Prop :=
  ∀ (ini : Initiator) (ty inst : Byte) (s : State), (ty = 0x10 ∨ ty = 0x11 ∨ ty = 0x12) → s.writes ini ty.toNat inst.toNat oCOMMIT = true →
    let boundary := fun h : Hw => wrF h ty.toNat inst.toNat oCOMMIT 8 1 1
    Gives (.commitBoundary ini ty inst) s boundary ∧
      Gives (.commitImmediate ini ty inst) s (fun h => err (boundary h) ty.toNat inst.toNat 4)

/-- A read of a counter or result answers its value and clears its RC bits, and changes nothing else but the level sources of its page:
the counts of refusals, resets, trips, under-voltages, overruns, skips and drops.

The same of the counts of the buses, the coordinator, the access front end and the Bond link. -/
def Obligations.CountersClearOnRead : Prop :=
  (∀ (ini : Initiator) (s : State),
     (∀ d : Fin 45, s.reads ini 2 0 (0x900 + 4 * d.val) = true →
       Gives (.refuseCntRead ini d) s (rcRead 2 0 (0x900 + 4 * d.val) 0xFFFF (rd s.m.hw 2 0 (0x900 + 4 * d.val)).toNat)) ∧
     (∀ c : Fin 12, s.reads ini 1 0 (0x0A0 + 4 * c.val) = true →
       Gives (.crstRead ini c) s (rcRead 1 0 (0x0A0 + 4 * c.val) 0xFF00 (rd s.m.hw 1 0 (0x0A0 + 4 * c.val)).toNat)) ∧
     (∀ n : Fin 96, s.reads ini 0x10 n.val 0x04C = true →
       Gives (.hswTripCntRead ini n) s (rcRead 0x10 n.val 0x04C 0xFFFF (rd s.m.hw 0x10 n.val 0x04C).toNat)) ∧
     (∀ n : Fin 24, s.reads ini 0x11 n.val 0x04C = true →
       Gives (.hbrTripCntRead ini n) s (rcRead 0x11 n.val 0x04C 0xFFFF (rd s.m.hw 0x11 n.val 0x04C).toNat)) ∧
     (∀ g : Fin 4, s.reads ini 0x12 g.val 0x0B4 = true →
       Gives (.solTripCntRead ini g) s (rcRead 0x12 g.val 0x0B4 0xFFFFFFFF (rd s.m.hw 0x12 g.val 0x0B4).toNat)) ∧
     (∀ g : Fin 4, s.reads ini 0x10 (12 * g.val) 0x058 = true →
       Gives (.uvCntRead ini g) s (rcRead 0x10 (12 * g.val) 0x058 0xFFFF0000
         ((rd s.m.hw 0x10 (12 * g.val) 0x058).toNat + feedStat s.m.hw g.val))) ∧
     (∀ (g : Fin 4) (k : Fin 48), s.reads ini 0x14 g.val (0x100 + 4 * k.val) = true →
       Gives (.resRead ini g k) s (rcRead 0x14 g.val (0x100 + 4 * k.val) 0x80000000 (rd s.m.hw 0x14 g.val (0x100 + 4 * k.val)).toNat)) ∧
     (s.reads ini 0x30 0 0x060 = true → Gives (.ovrCntRead ini) s (rcRead 0x30 0 0x060 0xFFFF (rd s.m.hw 0x30 0 0x060).toNat)) ∧
     (s.reads ini 0x30 0 0x064 = true → Gives (.skipCntRead ini) s (rcRead 0x30 0 0x064 0xFFFF (rd s.m.hw 0x30 0 0x064).toNat)) ∧
     (∀ n : Fin 64, s.reads ini 0x31 n.val 0x060 = true →
       Gives (.dmaDropCntRead ini n) s (rcRead 0x31 n.val 0x060 0xFFFF (rd s.m.hw 0x31 n.val 0x060).toNat)) ∧
     (∀ q : Fin 64, s.reads ini 0x32 0 (0x800 + 4 * q.val) = true →
       Gives (.qstatDropRead ini q) s (rcRead 0x32 0 (0x800 + 4 * q.val) 0xFFFF0000
         ((rd s.m.hw 0x32 0 (0x800 + 4 * q.val)).toNat + fill s.m.hw q.val)))) ∧
  (∀ (ini : Initiator) (s : State),
     (∀ n : Fin 8, s.reads ini 0x20 n.val 0x04C = true →
       Gives (.perrRead ini n) s (rcRead 0x20 n.val 0x04C 0xFFFFFFFF (rd s.m.hw 0x20 n.val 0x04C).toNat)) ∧
     (∀ n : Fin 8, s.reads ini 0x20 n.val 0x050 = true →
       Gives (.canRxStatRead ini n) s (rcRead 0x20 n.val 0x050 0xFFFF0000
         ((rd s.m.hw 0x20 n.val 0x050).toNat + (can s.m.hw n.val).seq))) ∧
     (∀ n : Fin 16, s.reads ini 0x21 n.val 0x048 = true →
       Gives (.linRxStatRead ini n) s (rcRead 0x21 n.val 0x048 0xFFFF0000
         ((rd s.m.hw 0x21 n.val 0x048).toNat + (lin s.m.hw n.val).seq))) ∧
     (∀ n : Fin 2, s.reads ini 0x22 n.val 0x048 = true →
       Gives (.ethRxStatRead ini n) s (rcRead 0x22 n.val 0x048 0xFFFF0000
         ((rd s.m.hw 0x22 n.val 0x048).toNat + (eth s.m.hw n.val).seq))) ∧
     (∀ n : Fin 2, s.reads ini 0x22 n.val 0x04C = true →
       Gives (.rxErrRead ini n) s (rcRead 0x22 n.val 0x04C 0xFFFFFFFF (rd s.m.hw 0x22 n.val 0x04C).toNat)) ∧
     (s.reads ini 0x23 0 0x05C = true →
       Gives (.countsRead ini) s (rcRead 0x23 0 0x05C 0xFFFFFFFF (rd s.m.hw 0x23 0 0x05C).toNat)) ∧
     (s.reads ini 0x40 0 0x05C = true →
       Gives (.invInfoRead ini) s (rcRead 0x40 0 0x05C 0xFFFF0000 (rd s.m.hw 0x40 0 0x05C).toNat)) ∧
     (s.reads ini 0x50 0 0x064 = true →
       Gives (.cmpCntRead ini) s (rcRead 0x50 0 0x064 0xFFFFFFFF (rd s.m.hw 0x50 0 0x064).toNat)) ∧
     (s.reads ini 0x50 0 0x068 = true →
       Gives (.linkCntRead ini) s (rcRead 0x50 0 0x068 0xFFFFFFFF (rd s.m.hw 0x50 0 0x068).toNat)) ∧
     (s.reads ini 0x50 0 0x084 = true →
       Gives (.msgStatRead ini) s (rcRead 0x50 0 0x084 0xFFFFFFFF (rd s.m.hw 0x50 0 0x084).toNat)))

/-! ## The measurement engine (chapter 03) -/

/-- The calibration arithmetic (R62, R63): the overlay computes ((raw × FG) >> 20) + FO and the final value exactly, with shifts toward minus infinity, and saturates
both to −8 388 608 … +8 388 607; a stage of the decimator's calibration does the same; a gain of 2^20 with no offset leaves a value of that range as it is. -/
def Obligations.CalibrationArithmetic : Prop :=
  let sat := fun x : Int => if x < -8388608 then -8388608 else if 8388607 < x then 8388607 else x
  (∀ (raw : Int) (fg ug : Nat) (fo uo : Int), overlay raw fg fo ug uo = sat (sat (raw * fg / 2 ^ 20 + fo) * ug / 2 ^ 20 + uo)) ∧
  (∀ (v : Int) (g : Nat) (o : Int), calStage v g o = sat (v * g / 2 ^ 20 + o)) ∧
  (∀ v : Int, -8388608 ≤ v → v ≤ 8388607 → overlay v 1048576 0 1048576 0 = v ∧ sext 24 (field24 v) = v)

/-- MEAS_RESULT and PWM_PERIOD_MEAN (R69 … R74): the output `d` of a channel in operation (its domain ON, no injection window of it, settled, and a current
channel's die supplied: R82, R83, R91) passes its calibration, or is the end of the channel's measuring range where it lies beyond that; the
result passes the factory and user overlay and is stored with VALID, FRESH and the next SEQ; an output beyond the range sets the channel's OVR
flag and pulses source 1 where the flag was 0. The mean of a PWM period takes the place of the plain output where PMEAN selects it. A channel
that is not in operation takes no output.

No channel out of operation takes an output (R82, R83, R91), and no mean takes a place that PMEAN does not give it (R72). -/
def Obligations.MeasurementResult : Prop :=
  (∀ (g : Fin 4) (k : Fin 48) (d : Int) (s : State), s.alive = true → measLive s.m.hw g.val k.val = true →
     let res := fun h : Hw =>
       let raw := if d < measBot k.val then measBot k.val else if measTop k.val < d then measTop k.val
         else calStage d (fld (rd h 0x14 g.val (0xB00 + 4 * k.val)) 0 22) (sext 24 (fld (rd h 0x14 g.val (0xC00 + 4 * k.val)) 0 24))
       let value := overlay raw (ftrimG h g.val k.val) (ftrimO h g.val k.val) (fld (cfg h 0x14 g.val (0x500 + 4 * k.val)) 0 22)
         (sext 24 (fld (cfg h 0x14 g.val (0x600 + 4 * k.val)) 0 24))
       let seq := (fld (rd h 0x14 g.val (0x100 + 4 * k.val)) 24 6 + 1) % 64
       let h1 := wr h 0x14 g.val (0x100 + 4 * k.val) (BitVec.ofNat 32 (0xC0000000 + seq * 2 ^ 24 + field24 value))
       let h2 := { h1 with newSince := smPut false (64 * g.val + k.val) true h1.newSince }
       let off := 0x050 + 4 * (k.val / 32)
       if (measBot k.val ≤ d ∧ d ≤ measTop k.val) ∨ bit (rd h2 0x14 g.val off) (k.val % 32) = true then h2
       else pulse (wr h2 0x14 g.val off (setBit (rd h2 0x14 g.val off) (k.val % 32) true)) 0x14 g.val 1
     (usesMean s.m.hw g.val k.val = false → Gives (.measResult g k d) s res) ∧
     (usesMean s.m.hw g.val k.val = true → Gives (.pwmPeriodMean g k d) s res ∧ Gives (.measResult g k d) s id)) ∧
  (∀ (g : Fin 4) (k : Fin 48) (d : Int) (s : State), s.alive = true →
     (domOn s.m.hw (31 + g.val) = false ∨ (meas s.m.hw g.val).win.map Prod.fst = some k.val ∨ settled s.m.hw g.val k.val = false ∨
         k.val < 34 ∧ (feed s.m.hw g.val).supply ≠ .on →
       Gives (.measResult g k d) s id ∧ Gives (.pwmPeriodMean g k d) s id) ∧
     (usesMean s.m.hw g.val k.val = false → Gives (.pwmPeriodMean g k d) s id))

/-- INJECTION_WINDOW_START (R81, R85): while calibration is enabled, no window runs and no request waits, the round gives its channel a window
where the channel is idle (a voltage channel always; a current channel with a supplied die, an off command and a current below 1 % of
nominal), and passes on to the next of the channels 0 … 45 otherwise.

INJECTION_WINDOW_END (R82, R84, R85, R88): the window of channel `i` ends, the channel begins to settle, and the round moves on. With the references in
order and the coefficients within the bounds of R84, gain and offset are taken and CAL_AGE reads 0; with the references in order and a bound
missed, CALFAIL of the channel is set; without references nothing more. A window on request leaves the round where it is and reports RESULT
0b01 where the coefficients are taken, else 0b11, with CALDONE.

CAL_ROUND_END (R85, R86): STATUS.REF_OK takes the outcome of the comparison, and the CAL_AGE of each of the channels 0 … 45 that has been
calibrated counts by 1 up to 0xFFFE; 0xFFFF stays.

Calibration on request (R88): CAL_REQ with GO keeps IDX and waits for the next boundary; the channel that becomes idle in time gets its
window at once; one that does not drops the request with RESULT 0b10 and CALDONE. -/
def Obligations.CalibrationRound : Prop :=
  (∀ (g : Fin 4) (lsb : Nat) (s : State), s.alive = true → domOpen s.m.hw (31 + g.val) = true → (meas s.m.hw g.val).win = none →
     (meas s.m.hw g.val).reqWait = none → cfgF s.m.hw 0x14 g.val 0x400 0 1 = 1 →
     let i := (meas s.m.hw g.val).idx
     let idle := 34 ≤ i ∨ ((feed s.m.hw g.val).supply = .on ∧ measOff s.m.hw g.val i = true ∧ lsb * 100 < measNominal i)
     (idle → Gives (.injectionWindowStart g lsb) s (fun h => setMeas h g.val { meas h g.val with win := some (i, false) })) ∧
     (¬ idle → Gives (.injectionWindowStart g lsb) s (fun h =>
       setMeas h g.val { meas h g.val with idx := if i < 45 then i + 1 else 0 }))) ∧
  (∀ (g : Fin 4) (gain : Nat) (ofs : Int) (i : Nat) (isReq : Bool) (s : State), s.alive = true → (meas s.m.hw g.val).win = some (i, isReq) →
     let after := fun h : Hw =>
       let r := { meas h g.val with win := none, settle := smPut 0 i (h.now + 1) (meas h g.val).settle }
       setMeas h g.val (if isReq then r else { r with idx := if r.idx < 45 then r.idx + 1 else 0 })
     let done := fun (res : Nat) (h : Hw) =>
       measLevels g.val (if isReq then pulse (wrF h 0x14 g.val 0x048 8 2 res) 0x14 g.val 6 else h)
     (bit (rd s.m.hw 0x14 g.val 0x040) 1 = true → calOk s.m.hw g.val i gain ofs = true →
       Gives (.injectionWindowEnd g gain ofs) s (fun h =>
         done 1 (wr (wr (wr (after h) 0x14 g.val (0xB00 + 4 * i) (BitVec.ofNat 32 gain)) 0x14 g.val (0xC00 + 4 * i)
           (BitVec.ofNat 32 (field24 ofs))) 0x14 g.val (0xD00 + 4 * i) 0))) ∧
     (bit (rd s.m.hw 0x14 g.val 0x040) 1 = true → calOk s.m.hw g.val i gain ofs = false →
       Gives (.injectionWindowEnd g gain ofs) s (fun h => done 3 (flagBit (after h) g.val 0x058 i 2))) ∧
     (bit (rd s.m.hw 0x14 g.val 0x040) 1 = false → Gives (.injectionWindowEnd g gain ofs) s (fun h => done 3 (after h)))) ∧
  (∀ (g : Fin 4) (refOk : Bool) (s : State), s.alive = true → domOn s.m.hw (31 + g.val) = true →
     Answers (.calRoundEnd g refOk) s (fun t =>
       bit (rd t.m.hw 0x14 g.val 0x040) 1 = refOk ∧
       (∀ i, i < 46 → fld (rd t.m.hw 0x14 g.val (0xD00 + 4 * i)) 0 16 =
         (let a := fld (rd s.m.hw 0x14 g.val (0xD00 + 4 * i)) 0 16
          if a = 0xFFFF then 0xFFFF else min 0xFFFE (a + 1))) ∧
       t = s.withHw (fun h => { h with regs := t.m.hw.regs }) ∧
       sameRegsBut s.m.hw t.m.hw ([pg 0x14 g.val + 0x040, pg 0x14 g.val + oRAW, pg 0x14 g.val + oSTAT] ++
         (List.range 46).map (fun i => pg 0x14 g.val + (0xD00 + 4 * i))))) ∧
  (∀ (g : Fin 4) (s : State),
     (∀ (ini : Initiator) (idx : BitVec 6), s.writes ini 0x14 g.val 0x048 = true →
       Gives (.calReqGo ini g idx) s (fun h =>
         let h1 := wrF h 0x14 g.val 0x048 0 6 idx.toNat
         setMeas h1 g.val { meas h1 g.val with reqNew := some idx.toNat })) ∧
     (∀ (lsb i : Nat), s.alive = true → (meas s.m.hw g.val).reqWait = some i → domOpen s.m.hw (31 + g.val) = true → measIdle s.m.hw g.val i lsb = true →
       (meas s.m.hw g.val).win = none →
       Gives (.calReqIdle g lsb) s (fun h => setMeas h g.val { meas h g.val with win := some (i, true), reqWait := none })) ∧
     (s.alive = true → (meas s.m.hw g.val).reqWait.isSome = true →
       Gives (.calReqIdleTimeout g) s (fun h =>
         pulse (wrF (setMeas h g.val { meas h g.val with reqWait := none }) 0x14 g.val 0x048 8 2 2) 0x14 g.val 6)))

/-! ## High-side channels and power dies (chapter 04) -/

/-- R101 and R171: a write of HSW CTL with CMD = 0b11, or of SOL CTL[v] with CMD = 0b10 or 0b11, leaves CTL and everything else as they are and sets
ERR_STAT[16] CMDRSV (with it the error level, source 31). -/
def Obligations.ReservedCommandsIgnored : Prop :=
  (∀ (ini : Initiator) (n : Fin 96) (duty : BitVec 16) (s : State), s.writes ini 0x10 n.val 0x040 = true →
    Answers (.hswCmdReserved ini n duty) s (fun t =>
      bit (rd t.m.hw 0x10 n.val oERR) 16 = true ∧ rd t.m.hw 0x10 n.val 0x040 = rd s.m.hw 0x10 n.val 0x040 ∧
      t = s.withHw (fun h => { h with regs := t.m.hw.regs }) ∧
      sameRegsBut s.m.hw t.m.hw [pg 0x10 n.val + oERR, pg 0x10 n.val + oRAW, pg 0x10 n.val + oSTAT])) ∧
  (∀ (ini : Initiator) (g v : Fin 4) (code : Fin 2) (s : State), s.writes ini 0x12 g.val (0x040 + 4 * v.val) = true →
    Answers (.solCmdReserved ini g v code) s (fun t =>
      bit (rd t.m.hw 0x12 g.val oERR) 16 = true ∧ rd t.m.hw 0x12 g.val (0x040 + 4 * v.val) = rd s.m.hw 0x12 g.val (0x040 + 4 * v.val) ∧
      t = s.withHw (fun h => { h with regs := t.m.hw.regs }) ∧
      sameRegsBut s.m.hw t.m.hw [pg 0x12 g.val + oERR, pg 0x12 g.val + oRAW, pg 0x12 g.val + oSTAT]))

/-- A CTL write with CMD OFF, ON or PWM stores command and DUTY on the page for the next boundary and does nothing else (R100).

HSW_EDGE_START (R102, R103, R109, R111): at the instant of a pending edge, `k` µs away and before the next boundary, the channel takes its command:
OFF switches it off; ON switches it on, unless the fallback pattern is in an off-phase, the edge is no longer pending, and the first switch-on
opens the inrush window unless INR_T is 0.

PWM periods of a high-side channel (R104 … R110): a period starts at its instant of the schedule, with an on-time of PER × DUTY / 65535 rounded down; the
output switches on for it unless it is 0 or too short to switch, and off at its end unless the off-time is too short; a phase left out counts
as CLIP. The first on-phase opens the inrush window. The end of an on-phase switches the output off.

The current limit (R111, R113): reaching the active limit, within its 10 %, takes a driving channel from ON to LIMIT and runs its accumulator; falling
below it returns it to ON; INR_T after its start the inrush window ends, and a current held at LIM_INR keeps the short-circuit threshold
for t_LIMON; t_LIMRST of driving without limiting clears the accumulator; each time holds within its 5 %. -/
def Obligations.HswSwitching : Prop :=
  (∀ (ini : Initiator) (n : Fin 96) (duty : BitVec 16) (s : State), s.writes ini 0x10 n.val 0x040 = true →
     Gives (.hswCmdOff ini n duty) s (fun h => wr h 0x10 n.val 0x040 (BitVec.ofNat 32 (duty.toNat * 0x10000))) ∧
     Gives (.hswCmdOn ini n duty) s (fun h => wr h 0x10 n.val 0x040 (BitVec.ofNat 32 (duty.toNat * 0x10000 + 1))) ∧
     Gives (.hswCmdPwm ini n duty) s (fun h => wr h 0x10 n.val 0x040 (BitVec.ofNat 32 (duty.toNat * 0x10000 + 2)))) ∧
  (∀ (n : Fin 96) (k : Nat) (s : State), s.alive = true → (hsw s.m.hw n.val).pend = true → edgeIn s.m.hw n.val = some k →
     let r := hsw s.m.hw n.val
     let t0 := fun t : State => t.m.hw.now = s.m.hw.now + k ∧ (∀ j, j ≠ n.val → hsw t.m.hw j = hsw s.m.hw j) ∧
       sameRegsBut s.m.hw t.m.hw [pg 0x10 n.val + oRAW, pg 0x10 n.val + oSTAT] ∧ sameMem s t
     (r.cmd = 0 → Answers (.hswEdgeStart n) s (fun t => hsw t.m.hw n.val = { hswCut r with st := .off } ∧ t0 t)) ∧
     (r.cmd = 1 → Answers (.hswEdgeStart n) s (fun t =>
       hsw t.m.hw n.val = { r with
         st := if r.st = .off then .on else r.st, pend := false, out := !r.flashOff, fresh := r.fresh && r.flashOff, pwmOld := false
         ran := r.ran || r.out
         inrush := if r.fresh && !r.flashOff then decide (dieF s.m.hw 0x10 n.val 0x40C 8 8 ≠ 0) else r.inrush } ∧ t0 t))) ∧
  ((∀ (per off e m tOa : Nat) (p : Pwm), let start := e + off % per + m * per
     0 < per → p.onAt + min tOa 64 ≤ start → p.dutyAt + min tOa 64 ≤ start → p.perEnd ≤ start →
     pwmStart per off e m tOa true p =
       some ⟨{ p with perEnd := start + per, moved := false }, per * p.duty / 65535, per - per * p.duty / 65535⟩) ∧
   (∀ (n : Fin 96) (s : State), s.alive = true →
     let r := hsw s.m.hw n.val
     let slew := dieF s.m.hw 0x10 n.val 0x408 0 2
     (r.cmd = 2 ∨ r.pend = true ∧ r.pwmOld = true) →
     (∀ (k tOa : Nat) (q : PwmHit), (r.st = .on ∨ r.st = .limit) →
       pwmStart (hswPer s.m.hw n.val) (64 * dieF s.m.hw 0x10 n.val 0x404 0 16) (epochOf s.m.hw (dieF s.m.hw 0x10 n.val 0x404 16 4) r.pwm.epoch)
         k tOa (decide (r.cmd = 2)) r.pwm = some q →
       let go := decide (q.onT ≠ 0) && !tooShort slew q.onT
       Answers (.pwmPeriodStart (.hsw n) k tOa) s (fun t =>
         hsw t.m.hw n.val = { r with
           out := go, ran := r.ran || r.out, pwm := { q.p with stay := go && (tooShort slew q.offT || decide (q.offT = 0)) }
           fresh := r.fresh && !go, inrush := if r.fresh && go then decide (dieF s.m.hw 0x10 n.val 0x40C 8 8 ≠ 0) else r.inrush
           st := if go then r.st else .on } ∧
         hswKept s t n.val [oRAW, oSTAT] ∧
         ((tooShort slew q.onT || (go && tooShort slew q.offT)) = true → evSeen t.m.hw 0x10 n.val 9))) ∧
     (r.out = true → pwmOffNow s.m.hw r.pwm = true →
       Answers (.pwmOnPhaseEnd (.hsw n)) s (fun t =>
         hsw t.m.hw n.val = { r with out := false, ran := true, st := .on } ∧ hswKept s t n.val [oRAW, oSTAT])))) ∧
  (∀ (n : Fin 96) (s : State), s.alive = true →
     let r := hsw s.m.hw n.val
     (∀ mA, r.st = .on → r.out = true → hswLimit s.m.hw n.val * 9 ≤ mA * 10 →
       Answers (.currentLimitEntry n mA) s (fun t =>
         hsw t.m.hw n.val = { r with st := .limit, acc := true } ∧ hswKept s t n.val [oRAW, oSTAT] ∧
         (pageOn s.m.hw 0x10 n.val = true → bit (rd t.m.hw 0x10 n.val oRAW) 0 = true))) ∧
     (r.st = .limit →
       Answers (.currentLimitExit n) s (fun t => hsw t.m.hw n.val = { r with st := .on } ∧ hswKept s t n.val [oRAW, oSTAT])) ∧
     (r.inrush = true → (hswT s.m.hw n.val).inrAt + dieF s.m.hw 0x10 n.val 0x40C 8 8 * 950 ≤ s.m.hw.now →
       Answers (.inrushWindowEnd n) s (fun t =>
         hsw t.m.hw n.val = { r with inrush := false, limAt := if r.st = .limit then some s.m.hw.now else r.limAt } ∧
         hswKept s t n.val [oRAW, oSTAT])) ∧
     (r.st = .on → 950 ≤ hswFree s.m.hw n.val →
       Answers (.limitAccClear n) s (fun t => hsw t.m.hw n.val = { r with acc := false } ∧ hswKept s t n.val [oRAW, oSTAT])))

/-- A short circuit (1.5 times the limit, within 15 %), an accumulator that has reached the limit time within 5 %, and a reverse current (R112,
R113, R115, R638) switch a driving channel off: it enters RETRY with retries left and LOCKOUT without; TRIP_CNT counts up to 0xFFFF, and the SC or LIMQ source is set.

The thermal latch (R114, R116): at T_TL the latch sets and the channel, but for one in WIRE, enters THERM, off; 15 K below it the latch releases, and a
channel in THERM goes to OFF under the command OFF, and under ON or PWM to RETRY when retries are left and to LOCKOUT when none is.

RETRY_DELAY_END (R115, R123, R124): the delay of RDLY after the entry into RETRY, within 5 %, RETRY_LEFT decreases by 1; under OFF the channel is in OFF; under ON it switches on at once, under PWM it waits for its
period start, and it waits in UVOFF while its feed group is in under-voltage.

WIRE_MODEL_UPDATE (R118, R120, R121): with a wire selected, θ moves toward K × I² by 10 ms / τ of the distance, or starts at THINIT where a wire was just
selected; the current of a channel that has been off is 0; the allowed rise is that configured now. At or above the allowed rise the channel
enters WIRE, off, and TRIP_CNT counts; below it, it stays as it is; in WIRE it stays there until OFF was applied and the wire is cool. With no wire
selected θ is 0. θ is held at 2^-32 K (log entry 18).

Open load (R122, R135): in a phase in which the channel conducts, a current below OL_THR for OL_QT sets STATE.OL unless OL_QT is 0, and one above
1.125 × OL_THR for OL_QT clears it, each within the threshold's 2 % and 1 mA. -/
def Obligations.HswProtection : Prop :=
  (∀ (n : Fin 96) (s : State), s.alive = true →
     let r := hsw s.m.hw n.val
     let trip := fun (src : Nat) (t : State) =>
       hsw t.m.hw n.val = { r with
         out := false, pend := false, inrush := false, acc := false, limAt := none, ran := r.ran || r.out
         st := if r.retryLeft = 0 then .lockout else .retry } ∧
       evSeen t.m.hw 0x10 n.val src ∧ hswKept s t n.val [oRAW, oSTAT, 0x04C] ∧
       (pageOn s.m.hw 0x10 n.val = true → fld (rd t.m.hw 0x10 n.val 0x04C) 0 16 = min 0xFFFF (fld (rd s.m.hw 0x10 n.val 0x04C) 0 16 + 1))
     (∀ mA, (r.st = .on ∨ r.st = .limit) → r.out = true → hswScLimit s.m.hw n.val * 255 < mA * 200 → Answers (.shortCircuit n mA) s (trip 1)) ∧
     (∀ mA, (r.st = .on ∨ r.st = .limit) → r.out = true → hswNominal n.val * 3 < mA * 2 → Answers (.reverseCurrentTrip n mA) s (trip 1)) ∧
     (r.st = .limit → limqTime s.m.hw n.val * 95 ≤ hswLimited s.m.hw n.val * 100 → Answers (.limq n) s (trip 2))) ∧
  (∀ (n : Fin 96) (degC : Nat) (s : State), s.alive = true →
     let r := hsw s.m.hw n.val
     (r.supplied = true → 165 ≤ degC →
       Answers (.hswThermalLatchSet n degC) s (fun t =>
         hsw t.m.hw n.val = (if r.st = .wire then { r with tl := true } else { hswCut r with tl := true, st := .therm }) ∧
         hswKept s t n.val [oRAW, oSTAT, 0x04C])) ∧
     (r.tl = true → degC ≤ 170 →
       Answers (.hswThermalLatchRelease n degC) s (fun t =>
         hsw t.m.hw n.val = { r with
           tl := false
           st := if r.st ≠ .therm then r.st else if r.cmd = 0 then .off else if r.retryLeft = 0 then .lockout else .retry } ∧
         hswKept s t n.val [oRAW, oSTAT]))) ∧
  (∀ (n : Fin 96) (s : State), s.alive = true → (hsw s.m.hw n.val).st = .retry →
     (hswT s.m.hw n.val).retryAt + retryTime s.m.hw n.val * 95 / 100 ≤ s.m.hw.now →
     let r := hsw s.m.hw n.val
     let normal := feedNormal s.m.hw (hswGroup n.val) = true
     let after := fun x : HswCh =>
       Answers (.retryDelayEnd n) s (fun t => hsw t.m.hw n.val = { x with retryLeft := r.retryLeft - 1 } ∧ hswKept s t n.val [oRAW, oSTAT])
     (r.cmd = 0 → after { r with st := .off }) ∧
     (normal → r.cmd = 1 → r.flashOff = false →
       after { r with st := .on, out := true, inrush := decide (dieF s.m.hw 0x10 n.val 0x40C 8 8 ≠ 0) }) ∧
     (normal → r.cmd ≠ 0 → (r.cmd ≠ 1 ∨ r.flashOff = true) → after { r with st := .on, fresh := true }) ∧
     (¬ normal → r.cmd ≠ 0 → after { r with st := .uvoff })) ∧
  (∀ (n : Fin 96) (i2 : Nat) (s : State), s.alive = true → (hsw s.m.hw n.val).supplied = true →
     let r := hsw s.m.hw n.val
     let becomes := fun (x : HswCh) (l : List Nat) =>
       Answers (.wireModelUpdate n i2) s (fun t => hsw t.m.hw n.val = x ∧ hswKept s t n.val l)
     (wireOff s.m.hw n.val = false →
       let steady : Int := (wireK s.m.hw n.val * 65536 * (if r.out || r.ran then i2 else 0) / 10 ^ 10 : Nat)
       let next : Int := if r.modelOff then (dieF s.m.hw 0x10 n.val 0x418 24 8 * 2 ^ 32 : Nat)
         else r.thetaX + (steady - r.thetaX) / (100 * wireTau s.m.hw n.val : Nat)
       let x := min (0xFFFE * 2 ^ 26) next.toNat
       let r1 := { r with thetaX := x, modelOff := false, ran := r.out, allow := wireA s.m.hw n.val }
       let hot := wireA s.m.hw n.val * 64 ≤ (min 0xFFFE (x / 2 ^ 26) : Nat)
       (r.st ≠ .wire → ¬ hot → becomes r1 [oRAW, oSTAT]) ∧
       (r.st ≠ .wire → hot → becomes { hswCut r1 with offSeen := false, st := .wire } [oRAW, oSTAT, 0x04C]) ∧
       (r.st = .wire → becomes (if wireCool s.m.hw n.val r1 && r.offSeen then hswSettle s.m.hw n.val r1 else r1) [oRAW, oSTAT])) ∧
     (wireOff s.m.hw n.val = true → r.st ≠ .wire → becomes { r with thetaX := 0, modelOff := true } [oRAW, oSTAT])) ∧
  (∀ (n : Fin 96) (mA : Nat) (s : State), s.alive = true → ((hsw s.m.hw n.val).st = .on ∨ (hsw s.m.hw n.val).st = .limit) →
     (hsw s.m.hw n.val).out = true →
     let r := hsw s.m.hw n.val
     (dieF s.m.hw 0x10 n.val 0x414 16 8 ≠ 0 → mA * 100 < dieF s.m.hw 0x10 n.val 0x414 0 12 * 102 + 100 →
       Answers (.openLoadDetect n mA) s (fun t => hsw t.m.hw n.val = { r with ol := true } ∧ hswKept s t n.val [oRAW, oSTAT])) ∧
     (dieF s.m.hw 0x10 n.val 0x414 0 12 * 882 < mA * 800 + 800 →
       Answers (.openLoadClear n mA) s (fun t => hsw t.m.hw n.val = { r with ol := false } ∧ hswKept s t n.val [oRAW, oSTAT])))

/-- The voltage of a feed group whose die is supplied (R125, R126), each threshold within its 2 %: below UV_THR the filter starts, and below UV_THR plus the
hysteresis a running restart delay stops; from UV_THR plus the hysteresis the filter stops and a group in under-voltage begins the
delay.

A feed group that enters under-voltage after UV_FILT, within 10 %, and one that restarts after RST_DLY, within 5 % (R126, R127): every channel of the group that conducts or is off goes to UVOFF,
or OFF where its command is OFF; at the end of the restart delay a channel in UVOFF takes up its command, ON after its PHOFF. The channels
of the other groups stay as they are.

The supply of a power die (R128, R505): its loss leaves every channel of the group off with its latch, open-load flag and θ lost; its return
leaves the group in under-voltage, with latches clear and RETRY_LEFT at the applied RMAX. A die that was in HOLD or FALLBACK starts in FALLBACK (R505). -/
def Obligations.FeedSupply : Prop :=
  (∀ (g : Fin 4) (mV : Nat) (s : State), s.alive = true → (feed s.m.hw g.val).supply = .on →
     let thr := uvThr s.m.hw g.val
     let full := uvThr s.m.hw g.val + uvHys s.m.hw
     (mV * 100 < thr * 102 → Gives (.feedVoltageDrop g mV) s (fun h => setFeed h g.val { feed h g.val with
       rstPend := false, low := true, lowAt := if (feed h g.val).low then (feed h g.val).lowAt else h.now })) ∧
     (thr * 102 ≤ mV * 100 → mV * 100 < full * 102 →
       Gives (.feedVoltageDrop g mV) s (fun h => setFeed h g.val { feed h g.val with rstPend := false })) ∧
     (full * 98 ≤ mV * 100 → Gives (.feedVoltageRecovery g mV) s (fun h =>
       setFeed h g.val (if (feed h g.val).uv then { feed h g.val with
           low := false, rstPend := true, rstAt := if (feed h g.val).rstPend then (feed h g.val).rstAt else h.now }
         else { feed h g.val with low := false }))) ∧
     (thr * 98 ≤ mV * 100 → mV * 100 < full * 98 →
       Gives (.feedVoltageRecovery g mV) s (fun h => setFeed h g.val { feed h g.val with low := false }))) ∧
  (∀ (g : Fin 4) (s : State), s.alive = true → (feed s.m.hw g.val).supply = .on →
     ((feed s.m.hw g.val).low = true → (feed s.m.hw g.val).lowAt + uvFilt s.m.hw g.val * 90 / 100 ≤ s.m.hw.now → Answers (.feedUnderVoltage g) s (fun t =>
       feed t.m.hw g.val = { feed s.m.hw g.val with uv := true, rstPend := false, low := false } ∧ sameMem s t ∧
       (∀ n, n < 96 → hswGroup n = g.val → hsw t.m.hw n =
         (let r := hsw s.m.hw n
          if r.st = .on ∨ r.st = .limit ∨ r.st = .off then { hswCut r with st := if r.cmd = 0 then .off else .uvoff } else r)) ∧
       (∀ n, n < 96 → hswGroup n ≠ g.val → hsw t.m.hw n = hsw s.m.hw n))) ∧
     ((feed s.m.hw g.val).rstPend = true → (feed s.m.hw g.val).rstAt + rstDly s.m.hw g.val * 95 / 100 ≤ s.m.hw.now → Answers (.feedGroupRestart g) s (fun t =>
       feed t.m.hw g.val = { feed s.m.hw g.val with uv := false, rstPend := false } ∧ sameMem s t ∧
       (∀ n, n < 96 → hswGroup n = g.val → hsw t.m.hw n =
         (let r := hsw s.m.hw n
          if r.st ≠ .uvoff then r
          else if r.cmd = 1 then { hswCut r with
            st := .off, pend := true, edgeAt := s.m.hw.now + dieF s.m.hw 0x10 n 0x404 0 16, fresh := true }
          else { hswCut r with st := .on, fresh := true })) ∧
       (∀ n, n < 96 → hswGroup n ≠ g.val → hsw t.m.hw n = hsw s.m.hw n)))) ∧
  (∀ (g : Fin 4) (s : State), s.alive = true →
     ((feed s.m.hw g.val).supply = .on → Answers (.powerDieSupplyLoss g) s (fun t =>
       (feed t.m.hw g.val).supply = .lost ∧ (feed t.m.hw g.val).uv = true ∧ sameMem s t ∧
       ∀ n, n < 96 → hsw t.m.hw n =
         (let r := hsw s.m.hw n
          if hswGroup n = g.val then { hswCut r with
            st := if r.cmd = 0 then .off else .uvoff, supplied := false, tl := false, ol := false, thetaX := 0, offSeen := false
            ran := false }
          else r))) ∧
     ((feed s.m.hw g.val).supply ≠ .on → (feed s.m.hw g.val).mode = .normal → Answers (.powerDieSupplyStart g) s (fun t =>
       (feed t.m.hw g.val).supply = .on ∧ (feed t.m.hw g.val).uv = true ∧ sameMem s t ∧
       ∀ n, n < 96 → hswGroup n = g.val →
         (hsw t.m.hw n).out = false ∧ (hsw t.m.hw n).supplied = true ∧ (hsw t.m.hw n).tl = false ∧
         (hsw t.m.hw n).st = (if (hsw s.m.hw n).cmd = 0 then .off else .uvoff) ∧
         (hsw t.m.hw n).retryLeft = cfgF s.m.hw 0x10 n 0x410 0 4)) ∧
     ((feed s.m.hw g.val).supply ≠ .on → (feed s.m.hw g.val).mode ≠ .normal → Answers (.powerDieSupplyStart g) s (fun t =>
       (feed t.m.hw g.val).supply = .on ∧ (feed t.m.hw g.val).mode = .fallback ∧ sameMem s t)))

/-! ## Half-bridges (chapter 05) -/

/-- A CTL write on a lead page with a command of the unit's topology (R141): codes 0b000 … 0b011 of every unit, 0b100 … 0b110 of an H-bridge or a
paralleled pair; command and DUTY are stored on the page for the next boundary.

CTL writes that a page refuses (R139, R141): a code reserved for the unit's topology sets CMDRSV, a write on a member page other than the
lead sets MEMBER; neither has any other effect.

HBR_SWITCH_CHANGE and REVDLY_END (R143, R145, R151, R156): at the instant of the pending change, `k` µs away and before the next boundary, and at the end of
REV_T, the unit's switches take the position its command asks for, with the state, the direction and the instant of a drive start that go
with it.

PWM periods of a half-bridge unit (R142, R144, R166): a period of its schedule that starts drives for its on-time, unless that is 0 or too short to switch,
or regulation holds the load in decay; its end lets the load decay as DECAY selects; a phase left out counts as CLIP on every page.

Current regulation (R146): above IREG, within its 3 % and 50 mA, a driving unit turns to its off-time with REGACT, which makes STATE read REG; the end of
the off-time of TOFF, within its 5 %, lets it drive again unless its on-phase has ended; REGACT expires 1 ms after regulation last acted. -/
def Obligations.HbrSwitching : Prop :=
  (∀ (ini : Initiator) (n : Fin 24) (duty : BitVec 16) (s : State), s.writes ini 0x11 n.val 0x040 = true → hbrLead s.m.hw n.val = n.val →
     let put := fun (c : Nat) (h : Hw) => wr h 0x11 n.val 0x040 (BitVec.ofNat 32 (duty.toNat * 0x10000 + c))
     Gives (.hbrCmdOffCoast ini n duty) s (put 0) ∧ Gives (.hbrCmdHighFwd ini n duty) s (put 1) ∧
     Gives (.hbrCmdLowRev ini n duty) s (put 2) ∧ Gives (.hbrCmdPwmBrake ini n duty) s (put 3) ∧
     (hbrSingle s.m.hw n.val = false → Gives (.hbrCmdBrakeh ini n duty) s (put 4) ∧ Gives (.hbrCmdFpwm ini n duty) s (put 5) ∧
       Gives (.hbrCmdRpwm ini n duty) s (put 6))) ∧
  (∀ (ini : Initiator) (n : Fin 24) (s : State), s.writes ini 0x11 n.val 0x040 = true →
     (∀ (code : BitVec 3) (duty : BitVec 16), hbrLead s.m.hw n.val = n.val →
       (if hbrSingle s.m.hw n.val = true then 4 ≤ code.toNat else code.toNat = 7) →
       Gives (.hbrCmdReserved ini n code duty) s (fun h => err h 0x11 n.val 16)) ∧
     (∀ w : Word, hbrLead s.m.hw n.val ≠ n.val → Gives (.hbrMemberWrite ini n w) s (fun h => err h 0x11 n.val 17))) ∧
  (∀ (n : Fin 24) (s : State), s.alive = true →
     let r := hbr s.m.hw n.val
     let single := hbrSingle s.m.hw n.val
     let st : HbrSt := if hbrDrives single r.cmd = true then .drive else if r.cmd = 0 then .off else .brake
     let dir := if hbrDir single r.cmd = 0 then r.dir else hbrDir single r.cmd
     (∀ k, r.pend = true → edgeLeft s.m.hw (n.val / 6) r.edgeAt = some k → Answers (.hbrSwitchChange n) s (fun t =>
       hbr t.m.hw n.val = { r with
         act := r.cmd, pend := false, decay := false, onPh := false, sw := hbrSw single r.cmd, st := st, dir := dir
         driveAt := if st = .drive ∧ r.st ≠ .drive then s.m.hw.now + k else r.driveAt } ∧
       t.m.hw.now = s.m.hw.now + k ∧ (∀ j, j ≠ n.val → hbr t.m.hw j = hbr s.m.hw j) ∧ sameMem s t ∧
       sameRegsBut s.m.hw t.m.hw ((hbrMembers s.m.hw n.val).flatMap (fun m => [pg 0x11 m + oRAW, pg 0x11 m + oSTAT])))) ∧
     (r.st = .revdly → r.revAt ≤ s.m.hw.now → Answers (.revdlyEnd n) s (fun t =>
       hbr t.m.hw n.val = { r with
         act := r.cmd, st := .drive, pend := false, decay := false, dir := dir, driveAt := s.m.hw.now
         sw := if hbrIsPwm single r.cmd = true then .open else hbrSw single r.cmd } ∧ hbrKept s t n.val [oRAW, oSTAT]))) ∧
  (∀ (n : Fin 24) (s : State), s.alive = true →
     let r := hbr s.m.hw n.val
     let single := hbrSingle s.m.hw n.val
     let slew := hbrF s.m.hw n.val 0x408 12 2
     let decaySw : Sw := if hbrF s.m.hw n.val 0x408 4 1 = 0 then .lows else .open
     (∀ (k tOa : Nat) (q : PwmHit), hbrIsPwm single r.act = true → r.st = .drive →
       pwmStart (hbrPer s.m.hw n.val) (64 * hbrF s.m.hw n.val 0x404 0 16) (epochOf s.m.hw (hbrF s.m.hw n.val 0x404 16 4) r.pwm.epoch)
         k tOa (hbrIsPwm single r.cmd) r.pwm = some q →
       let go := decide (q.onT ≠ 0) && !hbrShort slew q.onT
       Answers (.pwmPeriodStart (.hbr n) k tOa) s (fun t =>
         hbr t.m.hw n.val = { r with
           onPh := go, sw := if go && !r.decay then hbrSw single r.act else decaySw
           pwm := { q.p with stay := go && (hbrShort slew q.offT || decide (q.offT = 0)) } } ∧ hbrKept s t n.val [oRAW, oSTAT] ∧
         ((hbrShort slew q.onT || (go && hbrShort slew q.offT)) = true →
           ∀ m, m < 24 → hbrLead s.m.hw m = n.val → evSeen t.m.hw 0x11 m 12))) ∧
     (r.onPh = true → pwmOffNow s.m.hw r.pwm = true → Answers (.pwmOnPhaseEnd (.hbr n)) s (fun t =>
       hbr t.m.hw n.val = { r with onPh := false, sw := decaySw } ∧ hbrKept s t n.val [oRAW, oSTAT]))) ∧
  (∀ (n : Fin 24) (s : State), s.alive = true →
     let r := hbr s.m.hw n.val
     let ireg := hbrF s.m.hw n.val 0x40C 0 12 * 10
     (∀ mA, r.st = .drive → (r.sw = .fwd ∨ r.sw = .rev) → ireg ≠ 0 → ireg * 97 < mA * 100 + 5000 →
       Answers (.regulationDecay n mA) s (fun t =>
         hbr t.m.hw n.val = { r with
           regAct := true, regAt := s.m.hw.now, decay := true, sw := if hbrF s.m.hw n.val 0x408 4 1 = 0 then .lows else .open } ∧
         hbrSt (hbr t.m.hw n.val) = .reg ∧ hbrKept s t n.val [oRAW, oSTAT])) ∧
     (r.decay = true → regOff s.m.hw n.val * 95 ≤ (s.m.hw.now - r.regAt) * 100 → Answers (.regulationOffTimeEnd n) s (fun t =>
       hbr t.m.hw n.val = { r with
         decay := false
         sw := if hbrIsPwm (hbrSingle s.m.hw n.val) r.act = true ∧ r.onPh = false then r.sw else hbrSw (hbrSingle s.m.hw n.val) r.act } ∧
       hbrKept s t n.val [oRAW, oSTAT])) ∧
     (r.decay = false → r.regAt + 1000 ≤ s.m.hw.now → Answers (.regactExpiry n) s (fun t =>
       hbr t.m.hw n.val = { r with regAct := false } ∧ hbrKept s t n.val [oRAW, oSTAT])))

/-- Overcurrent and desaturation (R147, R148): a current above OC_LVL of the lead, within 10 %, or more than V_DSAT, 1.6 V at the least (R166), across a switch that is
on, takes a supplied unit that is not latched to TRIP with every switch off; CAUSE reads OC, SCG or SCB; TRIP_CNT counts on every page of the
unit.

The thermal latches of a unit (R150), at 165 °C at the least and 15 K below: one that sets takes the unit to THERM with every switch off; the last that
releases leads to OFF under the command 0b000, and to TRIP with CAUSE THERM otherwise; before that the unit stays as it is.

Stall and position (R151, R152): `ms` of a drive phase after the blanking, at or above THR, enter the stall accumulator; one that reaches QT sets STALL on
the lead page and, as ACT selects, leaves the unit driving, or halts it braked or coasting; 10 ms below the level clear the accumulator; a
write of POS sets the count. -/
def Obligations.HbrProtection : Prop :=
  (∀ (n : Fin 24) (s : State), s.alive = true →
     let u := hbrLead s.m.hw n.val
     let r := hbr s.m.hw u
     r.st ≠ .therm → r.st ≠ .trip → (feed s.m.hw (u / 6)).supply = .on →
     let trip := fun (cause src : Nat) (t : State) =>
       hbr t.m.hw u = { r with
         sw := .open, pend := false, decay := false, onPh := false, st := .trip, cause := cause, halted := false } ∧
       (∀ k, k < 24 → hbrLead s.m.hw k = u → evSeen t.m.hw 0x11 k src) ∧
       (∀ k, k < 24 → hbrLead s.m.hw k = u → pageOn s.m.hw 0x11 k = true →
         fld (rd t.m.hw 0x11 k 0x04C) 0 16 = min 0xFFFF (fld (rd s.m.hw 0x11 k 0x04C) 0 16 + 1)) ∧
       hbrKept s t u [oRAW, oSTAT, 0x04C]
     (∀ mA, (match hbrF s.m.hw u 0x40C 28 2 with | 0 => 16000 | 1 => 20000 | 2 => 25000 | _ => 30000) * 9 < mA * 10 →
       Answers (.hbrOvercurrent n mA) s (trip 1 1)) ∧
     (∀ mV, 1600 < mV → hbrOut s.m.hw n.val = 1 → Answers (.hbrDesaturation n ⟨true, mV⟩) s (trip 2 2)) ∧
     (∀ mV, 1600 < mV → hbrOut s.m.hw n.val = 2 → Answers (.hbrDesaturation n ⟨false, mV⟩) s (trip 3 2))) ∧
  (∀ (n : Fin 24) (degC : Nat) (s : State), s.alive = true →
     let u := hbrLead s.m.hw n.val
     let r := hbr s.m.hw u
     let only := fun (b : Bool) (t : State) => smGet false t.m.hw.hbrTl n.val = b ∧ sameMem s t ∧ (∀ k, k ≠ u → hbr t.m.hw k = hbr s.m.hw k) ∧
       (∀ k, k ≠ n.val → smGet false t.m.hw.hbrTl k = smGet false s.m.hw.hbrTl k)
     let others := ∃ k, k < 24 ∧ k ≠ n.val ∧ hbrLead s.m.hw k = u ∧ smGet false s.m.hw.hbrTl k = true
     ((feed s.m.hw (n.val / 6)).supply = .on → 165 ≤ degC → Answers (.hbrThermalLatchSet n degC) s (fun t =>
       only true t ∧ hbr t.m.hw u = { r with sw := .open, pend := false, decay := false, onPh := false, st := .therm, halted := false })) ∧
     (smGet false s.m.hw.hbrTl n.val = true → degC ≤ 170 →
       (r.st = .therm → ¬ others → Answers (.hbrThermalLatchRelease n degC) s (fun t =>
         only false t ∧ hbr t.m.hw u = (if r.cmd = 0 then { r with st := .off } else { r with st := .trip, cause := 7 }))) ∧
       (r.st ≠ .therm ∨ others → Answers (.hbrThermalLatchRelease n degC) s (fun t => only false t ∧ hbr t.m.hw u = r)))) ∧
  (∀ (n : Fin 24) (s : State),
     let r := hbr s.m.hw n.val
     let qt := hbrF s.m.hw n.val 0x410 16 8
     let act := hbrF s.m.hw n.val 0x410 30 2
     (∀ mA ms, s.alive = true → r.st = .drive → qt ≠ 0 → hbrLead s.m.hw n.val = n.val → hbrF s.m.hw n.val 0x410 0 12 * 10 ≤ mA →
       r.driveAt + hbrF s.m.hw n.val 0x410 24 6 * 9500 + ms * 1000 ≤ s.m.hw.now → r.stallAt + ms * 1000 ≤ s.m.hw.now →
       let r1 := { r with stallAcc := r.stallAcc + ms, stallAt := s.m.hw.now }
       let full := r.stallAcc * 100 < qt * 95 ∧ qt * 95 ≤ (r.stallAcc + ms) * 100
       (¬ full → Answers (.stall ⟨n, mA, ms⟩) s (fun t => hbr t.m.hw n.val = r1 ∧ hbrKept s t n.val [oRAW, oSTAT])) ∧
       (full → Answers (.stall ⟨n, mA, ms⟩) s (fun t =>
         evSeen t.m.hw 0x11 n.val 5 ∧ hbrKept s t n.val [oRAW, oSTAT, 0x04C] ∧
         hbr t.m.hw n.val =
           (if act = 0 then { r1 with cause := 4 }
            else { r1 with
              sw := if act = 2 then .open else .lows, pend := false, decay := false, onPh := false
              st := .halt, cause := 4, halted := true, haltCmd := r.cmd, haltBrake := decide (act ≠ 2) })))) ∧
     (s.alive = true → Answers (.stallAccReset n) s (fun t =>
       hbr t.m.hw n.val = { r with stallAcc := 0 } ∧ hbrKept s t n.val [oRAW, oSTAT])) ∧
     (∀ (ini : Initiator) (v : BitVec 16), s.writes ini 0x11 n.val 0x050 = true →
       Answers (.posCntWrite ini n v) s (fun t =>
         fld (rd t.m.hw 0x11 n.val 0x050) 0 16 = v.toNat ∧ t = s.withHw (fun h => { h with regs := t.m.hw.regs }) ∧
         sameRegsBut s.m.hw t.m.hw [pg 0x11 n.val + oRAW, pg 0x11 n.val + oSTAT, pg 0x11 n.val + 0x050])))

/-! ## Solenoid banks (chapter 06) -/

/-- CTL writes of a valve (R170, R171): FIRE and OFF are stored for the next boundary, FIRE as a new FIRE; a reserved code is ignored and sets
CMDRSV.

The start of a valve's profile (R169, R172, R173, R177, R183). At its start instant, t_BSET before the planned peak start, the first admitted of the busy
valves turns the bank switch on. At the planned peak start, SOFF after that, the valve enters PEAK with the values applied now and its low side
on, or is deferred while another peak of the bank runs, has just ended, or is deferred; I_PEAK = 0 leads to HOLD at once. A deferred valve
that is earliest in admission order starts when the bank is clear, and DEFER_T takes the time it waited.

During a peak (R173, R178, R179, R201): once its shortest phase has passed, the low side turns off above I_PEAK and on below I_PEAK − PK_HYS, each within
3 % + 30 mA; a first detection in a rise segment, after the blanking and with the dip or slope that ARM_CFG asks for, is confirmed with its time
and a count, and sets the valve's ARMD source.

The end of a peak (R173, R175, R179, R186), T_PEAK after its start or ARM_EXT after a detection that cuts it: a valve whose current stayed below 0.4 × I_PEAK
trips as an open coil; another enters HOLD, with the hold end kept across an under-voltage or else T_HOLD from now; a peak without a confirmed
detection while detection is on counts as a miss.

Hold, release and deferral (R174 … R176, R184, R185, R201): a hold period begins with an on-time within the limits of SLEW; a hold ends in REL once the later of
its end and that of its last extension has come; a current below I_REL ends REL in IDLE; a deferred valve that has waited DMAX is rejected
with REJC 4 and returns to IDLE; the duty bins take the energized time up to now. -/
def Obligations.SolProfile : Prop :=
  (∀ (ini : Initiator) (g v : Fin 4) (s : State), s.writes ini 0x12 g.val (0x040 + 4 * v.val) = true →
     Gives (.solCmdFire ini g v) s (fun h =>
       let h1 := wr h 0x12 g.val (0x040 + 4 * v.val) 1
       { h1 with valves := smPut {} (solNo g.val v.val) { valve h g.val v.val with newFire := true } h1.valves }) ∧
     Gives (.solCmdOff ini g v) s (fun h => wr h 0x12 g.val (0x040 + 4 * v.val) 0) ∧
     (∀ code, Gives (.solCmdReserved ini g v code) s (fun h => err h 0x12 g.val 16))) ∧
  (∀ (g v : Fin 4) (s : State), s.alive = true → (valve s.m.hw g.val v.val).st = .wait →
     let h := s.m.hw
     let r := valve h g.val v.val
     let ip := iPeakOf h g.val v.val
     let plan := planOf h g.val v.val
     let clear := peakActive h g.val = false ∧ inGap h g.val = false
     let waiting := fun k => (valve h g.val k).queued = true ∧ (valve h g.val k).st = .wait
     let peak := fun t : State =>
       valve t.m.hw g.val v.val = { solAccount h g.val v.val r with
         st := .peak, queued := false, ls := true, lsAt := h.now, planAt := plan, peakAt := h.now
         iPeak := ip, pkHys := pkHysOf h g.val v.val, tPeak := tPeakOf h g.val v.val, det := false
         armCfg := die h 0x12 g.val (0x44C + 0x20 * v.val), deferT := if r.queued then min 0xFFFFF (h.now - r.planAt) else 0 } ∧
       bankAfter t g.val (bank h g.val) ∧ solKept s t g.val v.val
     (r.queued = false → plan = r.admitAt + soffOf h g.val v.val + 20) ∧
     (feedNormal h g.val = true → plan ≤ h.now + 20 → (∀ k, k < 4 → k ≠ v.val → busyValve (valve h g.val k) = true → r.ord < (valve h g.val k).ord) →
       Gives (.valveStartInstant g v) s (fun h => setBank h g.val { bank h g.val with sw := true })) ∧
     (r.queued = false → plan ≤ h.now → ip ≠ 0 → clear → (∀ k, k < 4 → ¬ waiting k) → Answers (.peakStart g v) s peak) ∧
     (r.queued = false → plan ≤ h.now → ip ≠ 0 → (¬ clear ∨ ∃ k, k < 4 ∧ waiting k) → Answers (.peakStart g v) s (fun t =>
       valve t.m.hw g.val v.val = { r with queued := true, planAt := plan } ∧ evSeen t.m.hw 0x12 g.val (12 + v.val) ∧
       bankAfter t g.val (bank h g.val) ∧ solKept s t g.val v.val)) ∧
     (r.queued = false → plan ≤ h.now → ip = 0 → Answers (.peakStart g v) s (fun t =>
       (valve t.m.hw g.val v.val).st = .hold ∧ (valve t.m.hw g.val v.val).ls = false ∧ (valve t.m.hw g.val v.val).passed = true ∧
       (valve t.m.hw g.val v.val).holdAt = h.now ∧ solKept s t g.val v.val)) ∧
     (r.queued = true → ip ≠ 0 → clear → (∀ k, k < 4 → k ≠ v.val → waiting k → r.ord < (valve h g.val k).ord) →
       Answers (.deferredPeakStart g) s peak)) ∧
  (∀ (g v : Fin 4) (s : State), s.alive = true → (valve s.m.hw g.val v.val).st = .peak →
     let r := valve s.m.hw g.val v.val
     let tol := r.iPeak * 30 + 3000
     (∀ mA, solMin s.m.hw g.val ≤ (s.m.hw.now - r.lsAt) * 40 →
       (if r.ls then r.iPeak * 1000 < mA * 100 + tol else mA * 100 < (r.iPeak - r.pkHys) * 1000 + tol) →
       Answers (.peakRegulationCrossing g v mA) s (fun t =>
         valve t.m.hw g.val v.val = { r with ls := !r.ls, lsAt := s.m.hw.now } ∧ bankAfter t g.val (bank s.m.hw g.val) ∧
         solKept s t g.val v.val)) ∧
     (∀ (us : Nat) (top low up : Int), r.ls = true → bit r.armCfg 31 = true → r.det = false → fld r.armCfg 8 8 * 100 ≤ us →
       r.peakAt + us ≤ s.m.hw.now →
       (if bit r.armCfg 30 then low * 256 < fld r.armCfg 0 8 * top ∧ 2 * (fld r.armCfg 0 8 * top) < up * 256
        else low + fld r.armCfg 0 8 * 10 ≤ top ∧ low + fld r.armCfg 0 8 * 10 ≤ up) →
       Answers (.armatureDetected g v ⟨us, top, low, up⟩) s (fun t =>
         valve t.m.hw g.val v.val = { r with
           det := true, detAt := r.peakAt + us, armT := setFld (setFld r.armT 0 16 (min 0xFFFE us)) 24 8 (fld r.armT 24 8 + 1) } ∧
         evSeen t.m.hw 0x12 g.val v.val ∧ bankAfter t g.val (bank s.m.hw g.val) ∧ solKept s t g.val v.val))) ∧
  (∀ (g v : Fin 4) (maxMa : Nat) (s : State), s.alive = true → (valve s.m.hw g.val v.val).st = .peak →
     let r := valve s.m.hw g.val v.val
     (r.peakAt + r.tPeak ≤ s.m.hw.now ∨
       bit r.armCfg 31 = true ∧ bit r.armCfg 29 = true ∧ r.det = true ∧ r.detAt + fld r.armCfg 16 8 * 100 ≤ s.m.hw.now) →
     (r.iPeak * 10 ≤ maxMa * 4 → Answers (.peakEnd g v maxMa) s (fun t =>
       (valve t.m.hw g.val v.val).st = .hold ∧ (valve t.m.hw g.val v.val).passed = true ∧
       (valve t.m.hw g.val v.val).holdEnd = (match r.keepEnd with
         | some e => some e
         | none => if tHoldOf s.m.hw g.val v.val = 0 then none else some (s.m.hw.now + tHoldOf s.m.hw g.val v.val * 1000)) ∧
       (bank t.m.hw g.val).lastPeak = some s.m.hw.now ∧
       (bit r.armCfg 31 = true → r.det = false → fld (valve t.m.hw g.val v.val).armT 0 16 = 0xFFFF ∧ evSeen t.m.hw 0x12 g.val (4 + v.val)) ∧
       ((bit r.armCfg 31 = false ∨ r.det = true) → (valve t.m.hw g.val v.val).armT = r.armT) ∧ solKept s t g.val v.val)) ∧
     (maxMa * 4 < r.iPeak * 10 → (feed s.m.hw g.val).supply = .on → Answers (.peakEnd g v maxMa) s (fun t =>
       (valve t.m.hw g.val v.val).st = .trip ∧ (valve t.m.hw g.val v.val).cause = 3 ∧ (valve t.m.hw g.val v.val).ls = false ∧
       solKept s t g.val v.val))) ∧
  (∀ (g v : Fin 4) (s : State), s.alive = true →
     let h := s.m.hw
     let r := valve h g.val v.val
     let top := holdPer h g.val - solMin h g.val
     (∀ onT meanMa, r.st = .hold → holdDue h g.val v.val = true → Answers (.holdPeriod g v onT meanMa) s (fun t =>
       let on := min top (max (solMin h g.val) onT)
       valve t.m.hw g.val v.val = { r with
         holdAt := h.now, holdOn := on
         holdLow := r.holdLow && decide (on = top) && decide (meanMa * 100 < iHoldOf h g.val v.val * 97) } ∧
       bankAfter t g.val (bank h g.val) ∧ solKept s t g.val v.val)) ∧
     (∀ e, r.st = .hold → laterOf r.holdEnd r.extEnd = some e → e ≤ h.now → Answers (.holdEnd g v) s (fun t =>
       (valve t.m.hw g.val v.val).st = .rel ∧ (valve t.m.hw g.val v.val).ls = false ∧ (valve t.m.hw g.val v.val).holdEnd = none ∧
       (valve t.m.hw g.val v.val).extEnd = none ∧ bankAfter t g.val (bank h g.val) ∧ solKept s t g.val v.val)) ∧
     (∀ mA, r.st = .rel → mA < 60 → Answers (.valveReleased g ⟨v, mA⟩) s (fun t =>
       valve t.m.hw g.val v.val = { r with st := .idle } ∧ bankAfter t g.val (bank h g.val) ∧ solKept s t g.val v.val)) ∧
     (r.st = .wait → r.queued = true → dmaxOf h g.val ≠ 0 → r.planAt + dmaxOf h g.val * 1000 ≤ h.now →
       Answers (.deferTimeout g v) s (fun t =>
         valve t.m.hw g.val v.val = { r with st := .idle, queued := false, rejc := 4 } ∧ evSeen t.m.hw 0x12 g.val (8 + v.val) ∧
         solKept s t g.val v.val)) ∧
     Answers (.dutyBinAdvance g v) s (fun t =>
       valve t.m.hw g.val v.val = { r with bins := binsAt (dutyLen h g.val v.val) h.now r, binFrom := h.now } ∧
       bankAfter t g.val (bank h g.val) ∧ solKept s t g.val v.val))

/-- The protection of a valve (R186, R188): an overcurrent, a desaturated low side that is on, an open coil in HOLD take it to TRIP with CAUSE
1, 2, 3, off, and TRIP_CNT of the valve counts up to 255; the low-side latch takes it to THERM; a hold current too low at the upper limit of the
on-time sets HOLDLOW. Each bound is the low end of its range in R201.

The protection of a bank (R187): an overcurrent, a rail short, a valve contact at ground open the bank switch with BCAUSE 1, 2, 3 and BTRIP, the
bank latch with BCAUSE 4 and BTHERM; every valve in WAIT, PEAK or HOLD enters TRIP with CAUSE 4, or THERM for the latch; the others and the
other banks stay.

SOL_THERMAL_LATCH_RELEASE (R187), 15 K below the latch: of a valve's own latch or of the bank latch; a valve in THERM with both released enters IDLE under
OFF, and TRIP with CAUSE 5 under FIRE; one that either latch still holds stays in THERM. -/
def Obligations.SolProtection : Prop :=
  (∀ (g v : Fin 4) (s : State), s.alive = true → (feed s.m.hw g.val).supply = .on → (valve s.m.hw g.val v.val).st ≠ .therm →
     let r := valve s.m.hw g.val v.val
     let off := fun (st : ValveSt) (cause : Nat) (t : State) =>
       (valve t.m.hw g.val v.val).st = st ∧ (valve t.m.hw g.val v.val).cause = cause ∧ (valve t.m.hw g.val v.val).ls = false ∧
       (valve t.m.hw g.val v.val).queued = false ∧ solKept s t g.val v.val ∧
       (pageOn s.m.hw 0x12 g.val = true →
         fld (rd t.m.hw 0x12 g.val 0x0B4) (8 * v.val) 8 = min 0xFF (fld (rd s.m.hw 0x12 g.val 0x0B4) (8 * v.val) 8 + 1))
     (∀ mA, 14400 ≤ mA → Answers (.valveOvercurrent g v mA) s (off .trip 1)) ∧
     (∀ mV, 1600 ≤ mV → lsOn s.m.hw g.val v.val = true → Answers (.valveLowSideDesat g v mV) s (off .trip 2)) ∧
     (∀ mA, r.st = .hold → holdTop s.m.hw g.val ≤ r.holdOn → mA * 2 < iHoldOf s.m.hw g.val v.val → Answers (.openCoilInHold g v mA) s (off .trip 3)) ∧
     (∀ degC, 165 ≤ degC → Answers (.lowSideThermalLatch g v degC) s (fun t => off .therm 5 t ∧ (valve t.m.hw g.val v.val).tl = true)) ∧
     (∀ mA, r.st = .hold → holdTop s.m.hw g.val ≤ r.holdOn → mA * 100 < iHoldOf s.m.hw g.val v.val * 97 → Answers (.holdTooLow g v mA) s (fun t =>
       valve t.m.hw g.val v.val = { r with holdLow := true } ∧ bankAfter t g.val (bank s.m.hw g.val) ∧ solKept s t g.val v.val))) ∧
  (∀ (g : Fin 4) (s : State), s.alive = true → (feed s.m.hw g.val).supply = .on →
     let trip := fun (cause : Nat) (t : State) =>
       (bank t.m.hw g.val).sw = false ∧ (bank t.m.hw g.val).cause = cause ∧ sameMem s t ∧
       (if cause = 4 then (bank t.m.hw g.val).therm = true else (bank t.m.hw g.val).trip = true) ∧
       (∀ v, v < 4 → busyValve (valve s.m.hw g.val v) = true →
         (valve t.m.hw g.val v).st = (if cause = 4 then .therm else .trip) ∧ (valve t.m.hw g.val v).ls = false ∧
         (valve t.m.hw g.val v).cause = (if cause = 4 then 5 else 4)) ∧
       (∀ v, v < 4 → busyValve (valve s.m.hw g.val v) = false → valve t.m.hw g.val v = valve s.m.hw g.val v) ∧
       (∀ j v, j < 4 → v < 4 → j ≠ g.val → valve t.m.hw j v = valve s.m.hw j v ∧ bank t.m.hw j = bank s.m.hw j)
     (∀ mA, 21600 ≤ mA → (bank s.m.hw g.val).sw = true → Answers (.bankOvercurrent g mA) s (trip 1)) ∧
     (∀ mV, 1600 ≤ mV → (bank s.m.hw g.val).sw = true → Answers (.bankRailShort g mV) s (trip 2)) ∧
     (∀ v : Fin 4, (bank s.m.hw g.val).sw = true →
       ((valve s.m.hw g.val v.val).st = .idle ∨ (valve s.m.hw g.val v.val).st = .wait ∨ (valve s.m.hw g.val v.val).st = .rel) →
       Answers (.valveContactToGround g v) s (fun t => trip 3 t ∧ (bank t.m.hw g.val).valve = v.val)) ∧
     (∀ degC, 165 ≤ degC → Answers (.bankThermalLatch g degC) s (trip 4))) ∧
  (∀ (g : Fin 4) (degC : Nat) (s : State), s.alive = true → degC ≤ 170 →
     let out := fun (t : State) (v : Nat) =>
       if (valve s.m.hw g.val v).cmd = 0 then (valve t.m.hw g.val v).st = .idle
       else (valve t.m.hw g.val v).st = .trip ∧ (valve t.m.hw g.val v).cause = 5
     (∀ v : Fin 4, Answers (.solThermalLatchRelease g (some v) degC) s (fun t =>
       (valve t.m.hw g.val v.val).tl = false ∧ solKept s t g.val v.val ∧
       ((valve s.m.hw g.val v.val).st = .therm → (bank s.m.hw g.val).therm = false → out t v.val) ∧
       ((valve s.m.hw g.val v.val).st ≠ .therm ∨ (bank s.m.hw g.val).therm = true →
         (valve t.m.hw g.val v.val).st = (valve s.m.hw g.val v.val).st))) ∧
     Answers (.solThermalLatchRelease g none degC) s (fun t =>
       (bank t.m.hw g.val).therm = false ∧ sameMem s t ∧
       ∀ v, v < 4 → (valve s.m.hw g.val v).st = .therm →
         ((valve s.m.hw g.val v).tl = false → out t v) ∧
         ((valve s.m.hw g.val v).tl = true → (valve t.m.hw g.val v).st = .therm)))

/-! ## Switch inputs (chapter 07) -/

/-- SWI_SAMPLE (R204, R208, R209, R213): at a sample instant of the page, a multiple of its period on the block's copy of the timebase while PD41 is ON, every input of
the page is compared with the two thresholds of its selection, between which the comparator keeps its level; the debounced level changes once DEB + 1 successive samples differ from it, and the first level after
PD41 came ON once as many agree.

Protection of the inputs (R206, R207): beyond V_OVH or V_OVL the input's wetting disconnects and its OVR flag is set, with the OVR source
where the flag was 0; it reconnects after 1 ms within range; at T_WT, 140 °C at the
least, the wetting of the page turns off and WTHERM is set, until it is T_WHYS cooler.

PARK_POLL (R214 … R216): with PARK_CFG.EN and PD41 not ON, every enabled slot that has not met the wake rule in this parking compares its input with its
reference; one whose state has differed in PCNT + 1 successive polls meets the rule and sets its SLOTS bit; a poll in which a slot meets it
raises wake source 10, once. Without that nothing happens. -/
def Obligations.SwitchInputs : Prop :=
  (∀ (g : Fin 4) (mvs : List Int) (s : State), s.alive = true → domOn s.m.hw 41 = true →
     s.m.hw.tbCopy % swiPeriod s.m.hw g.val = 0 → smGet 0 s.m.hw.swiAt g.val ≠ s.m.hw.now + 1 →
     Answers (.swiSample g mvs) s (fun t => sameMem s t ∧ smGet 0 t.m.hw.swiAt g.val = s.m.hw.now + 1 ∧ ∀ j, j < 32 →
       let n := 32 * g.val + j
       let r := swiIn s.m.hw n
       let mv := mvs.getD j 0
       let tsel := swiCfg s.m.hw n 4 2
       let lvl := if thrHigh s.m.hw tsel < mv then true else if mv < thrLow s.m.hw tsel then false else bit (rd s.m.hw 0x13 g.val 0x040) j
       let cnt := if r.first = true then (if r.cnt = 0 ∨ r.cl ≠ lvl then 1 else r.cnt + 1) else if lvl = r.deb then 0 else r.cnt + 1
       bit (rd t.m.hw 0x13 g.val 0x040) j = lvl ∧
       (if cnt ≠ 0 ∧ swiCfg s.m.hw n 0 4 + 1 ≤ cnt then (swiIn t.m.hw n).deb = lvl ∧ (swiIn t.m.hw n).first = false ∧ (swiIn t.m.hw n).cnt = 0
        else (swiIn t.m.hw n).deb = r.deb ∧ (swiIn t.m.hw n).first = r.first ∧ (swiIn t.m.hw n).cnt = cnt))) ∧
  (∀ (s : State), s.alive = true →
     (∀ (n : Fin 128) (mV : Int), domOn s.m.hw 41 = true → (38000 ≤ mV ∨ mV ≤ -1000) → Answers (.inputOvervoltage n mV) s (fun t =>
       swiIn t.m.hw n.val = { swiIn s.m.hw n.val with disc := true } ∧ bit (rd t.m.hw 0x13 (n.val / 32) 0x050) (n.val % 32) = true ∧
       (bit (rd s.m.hw 0x13 (n.val / 32) 0x050) (n.val % 32) = false → evSeen t.m.hw 0x13 (n.val / 32) 1) ∧
       t = s.withHw (fun h => { h with regs := t.m.hw.regs, swi := t.m.hw.swi }) ∧
       sameRegsBut s.m.hw t.m.hw [pg 0x13 (n.val / 32) + oSTAT, pg 0x13 (n.val / 32) + 0x050] ∧
       ∀ k, k ≠ n.val → swiIn t.m.hw k = swiIn s.m.hw k)) ∧
     (∀ n : Fin 128, Gives (.wettingReconnect n) s (fun h => { h with swi := smPut {} n.val { swiIn h n.val with disc := false } h.swi })) ∧
     (∀ (g : Fin 4) (degC : Nat), domOn s.m.hw 41 = true →
       (140 ≤ degC → Gives (.wettingOvertemp g degC) s (fun h => level (wr h 0x13 g.val 0x05C 1) 0x13 g.val 2 true)) ∧
       (degC ≤ 150 → Gives (.wettingOvertempClear g degC) s (fun h => level (wr h 0x13 g.val 0x05C 0) 0x13 g.val 2 false)))) ∧
  (∀ (mvs : List Int) (s : State), s.alive = true →
     let after := parkPoll mvs s.m.hw
     Wakes (.parkPoll mvs) s (fun h =>
       if (List.range 16).any (fun k => !(smGet {} h.park k).met && (smGet {} (parkPoll mvs h).park k).met) = true then
          wakeSource 10 (parkPoll mvs h)
       else parkPoll mvs h) ∧
     (cfgF s.m.hw 0x13 0 0x404 31 1 ≠ 1 ∨ domOn s.m.hw 41 = true → after = s.m.hw) ∧
     (cfgF s.m.hw 0x13 0 0x404 31 1 = 1 → domOn s.m.hw 41 = false → ∀ k, k < 16 →
       let p := smGet {} s.m.hw.park k
       let st := decide (thrHigh s.m.hw p.tsel < mvs.getD k 0) ^^ p.inv
       let cnt := if st = bit (rd s.m.hw 0x13 0 0x060) (16 + k) then 0 else p.cnt + 1
       let due := decide (cfgF s.m.hw 0x13 0 0x404 0 2 + 1 ≤ cnt)
       (slotOn s.m.hw k = true → p.met = false →
         smGet {} after.park k = { p with cnt := min cnt 4, met := due } ∧
         bit (rd after 0x13 0 0x060) k = (bit (rd s.m.hw 0x13 0 0x060) k || due)) ∧
       (slotOn s.m.hw k = false ∨ p.met = true →
         smGet {} after.park k = p ∧ bit (rd after 0x13 0 0x060) k = bit (rd s.m.hw 0x13 0 0x060) k)))

/-- CAP_SAMPLE (R218 … R220, R222, R223): unless an LF telegram postpones them, the enabled channels are sampled together. A sample gives the raw value; the first
one is the baseline, one below it by more than TTHR becomes it, and a small difference moves it by 1 every DRIFT + 1 samples while the channel
is not touched; a delta of TTHR on a channel that is neither touched nor at fault starts the confirming samples; a touch ends when the delta
falls below half of TTHR; two values out of range in a row set FAULT, two within clear it. A disabled channel is not sampled.

CAP_CONFIRM_SAMPLE and STUCK_TOUCH (R218, R220 … R223): a confirming sample of TTHR or more, on a channel not at fault, leads on, and the last one qualifies the
touch, which sets the TOUCH and TOUCH_LAT bits; a smaller one ends the qualification. The touches that qualify request their polls and raise
wake source 11 once where CAP_THR.WAKE of one of them is 1. A touch of TMAX becomes stuck, with the raw value as the new baseline. -/
def Obligations.CapacitiveTouch : Prop :=
  (∀ (raw0 : BitVec 16) (raws : List (BitVec 16)) (s : State), s.alive = true →
     (s.m.hw.now < s.m.hw.acc.lfClear → Gives (.capSample raw0 raws) s id) ∧
     (s.m.hw.acc.lfClear ≤ s.m.hw.now → Answers (.capSample raw0 raws) s (fun t =>
       t = s.withHw (fun h => { h with regs := t.m.hw.regs, caps := t.m.hw.caps }) ∧
       sameRegsBut s.m.hw t.m.hw [pg 0x13 0 + oRAW, pg 0x13 0 + oSTAT, pg 0x13 0 + 0x064] ∧
       ∀ c, c < 8 →
         let r := cap s.m.hw c
         let raw := ((raw0 :: raws).map BitVec.toNat).getD c 0
         let t0 := tthr s.m.hw c
         let was := fun k => bit (rd s.m.hw 0x13 0 0x064) k
         let is := fun k => bit (rd t.m.hw 0x13 0 0x064) k
         let base := if r.based = true then r.base else raw
         let delta : Int := (raw : Int) - (base : Int)
         let drift := if r.drift < cfgF s.m.hw 0x13 0 0x418 16 8 then r.drift + 1 else 0
         let bad := raw = 0 ∨ raw = 0xFFFF
         let fault := if bad then was (16 + c) || decide (1 ≤ r.bad) else was (16 + c) && decide (r.good = 0)
         (bit (cfg s.m.hw 0x13 0 0x418) c = false → cap t.m.hw c = r ∧ ∀ k ∈ [c, 8 + c, 16 + c, 24 + c], is k = was k) ∧
         (bit (cfg s.m.hw 0x13 0 0x418) c = true →
           cap t.m.hw c = { r with
             raw := raw, based := true, drift := drift
             bad := if bad then min 2 (r.bad + 1) else 0, good := if bad then 0 else min 2 (r.good + 1)
             base := if delta < -t0 then raw
               else if was c = false ∧ drift = 0 ∧ -t0 ≤ 2 * delta ∧ 2 * delta ≤ t0 then
                 (if base < raw then base + 1 else if raw < base then base - 1 else base)
               else base
             confirm := if was c = false ∧ fault = false ∧ t0 ≤ delta then cfgF s.m.hw 0x13 0 0x418 12 3 + 1 else 0 } ∧
           is c = (was c && !decide (2 * delta < t0)) ∧ is (8 + c) = was (8 + c) ∧ is (16 + c) = fault ∧
           is (24 + c) = (was (24 + c) && !decide (2 * delta < -t0)))))) ∧
  (∀ s : State, s.alive = true →
     (∀ (raw0 : BitVec 16) (raws : List (BitVec 16)),
       let l := (raw0 :: raws).map BitVec.toNat
       let after := capConfirm l s.m.hw
       Wakes (.capConfirmSample raw0 raws) s (fun h =>
         let q := (List.range 8).filter (fun c => !bit (rd h 0x13 0 0x064) c && bit (rd (capConfirm l h) 0x13 0 0x064) c)
         let h1 := forL q touchReq (capConfirm l h)
         if q.any (fun c => bit (cfg h1 0x13 0 (0x420 + 4 * c)) 8) = true then wakeSource 11 h1 else h1) ∧
       (s.m.hw.now < s.m.hw.acc.lfClear → after = s.m.hw) ∧
       (s.m.hw.acc.lfClear ≤ s.m.hw.now → ∀ c, c < 8 →
         let r := cap s.m.hw c
         let raw := l.getD c 0
         let was := fun k => bit (rd s.m.hw 0x13 0 0x064) k
         let is := fun k => bit (rd after 0x13 0 0x064) k
         let bad := raw = 0 ∨ raw = 0xFFFF
         let fault := if bad then was (16 + c) || decide (1 ≤ r.bad) else was (16 + c) && decide (r.good = 0)
         let goes := !fault && decide (tthr s.m.hw c ≤ (raw : Int) - (r.base : Int))
         (r.confirm = 0 → cap after c = r ∧ ∀ k ∈ [c, 8 + c, 16 + c, 24 + c], is k = was k) ∧
         (r.confirm ≠ 0 →
           cap after c = { r with
             raw := raw, bad := if bad then min 2 (r.bad + 1) else 0, good := if bad then 0 else min 2 (r.good + 1)
             confirm := if goes then r.confirm - 1 else 0 } ∧
           is c = (was c || (goes && decide (r.confirm = 1))) ∧ is (8 + c) = (was (8 + c) || (goes && decide (r.confirm = 1))) ∧
           is (16 + c) = fault))) ∧
     (∀ c : Fin 8, bit (rd s.m.hw 0x13 0 0x064) c.val = true → cfgF s.m.hw 0x13 0 0x418 24 8 ≠ 0 → Gives (.stuckTouch c) s (fun h =>
       capStat (capStat (setCap h c.val { cap h c.val with base := (cap h c.val).raw }) (24 + c.val) true) c.val false)))

/-! ## Olkor cores (chapters 08, 09) -/

/-- The opcodes that only compute, each with the command that is its instruction. -/
def computing : List (Op × (Fin 12 → Head → List Spec → Instr)) :=
  [(.nop, .nop), (.crd, .crd), (.frn, .frn), (.add, .add), (.addc, .addc), (.sub, .sub), (.subb, .subb), (.neg, .neg), (.cmp, .cmp),
   (.divu, .divu), (.divs, .divs), (.remu, .remu), (.rems, .rems), (.mov, .mov), (.movz, .movz), (.movs, .movs), (.and, .and), (.or, .or),
   (.xor, .xor), (.andn, .andn), (.not, .not), (.tst, .tst), (.shl, .shl), (.shr, .shr), (.sar, .sar), (.rol, .rol), (.mulu, .mulu),
   (.muls, .muls), (.macu, .macu), (.macs, .macs), (.movp, .movp), (.vmulu, .vmulu), (.vmuls, .vmuls), (.vmacu, .vmacu), (.vmacs, .vmacs),
   (.vadd, .vadd), (.vsub, .vsub), (.vadds, .vadds), (.vsubs, .vsubs), (.vaddus, .vaddus), (.vsubus, .vsubus), (.vmin, .vmin),
   (.vmax, .vmax), (.vminu, .vminu), (.vmaxu, .vmaxu), (.vceq, .vceq), (.vcgt, .vcgt), (.vcgtu, .vcgtu), (.vshl, .vshl), (.vshr, .vshr),
   (.vsar, .vsar)]

/-- The other opcodes, each with the command that is its instruction. -/
def controlling : List (Op × (Fin 12 → Head → List Spec → Instr)) :=
  [(.trap, .trap), (.eret, .eret), (.done, .done), (.cwr, .cwr), (.rep, .rep), (.repi, .repi), (.br, .br), (.jmp, .jmp), (.call, .call),
   (.tas, .tas), (.lr, .lr), (.sc, .sc), (.probe, .probe)]

/-- NOP, CRD, FRN, ADD, ADDC, SUB, SUBB, NEG, CMP, DIVU, DIVS, REMU, REMS, MOV, MOVZ, MOVS, AND, OR, XOR, ANDN, NOT, TST, SHL, SHR, SAR, ROL,
MULU, MULS, MACU, MACS, MOVP, VMULU, VMULS, VMACU, VMACS, VADD, VSUB, VADDS, VSUBS, VADDUS, VSUBUS, VMIN, VMAX, VMINU, VMAXU, VCEQ, VCGT, VCGTU,
VSHL, VSHR and VSAR, with operands in any mode that lie in near memory or are immediate, and no division by zero (R228, R244, R245, R271): the
instruction executes where the core issues, its encoding is legal, the mode may run it and its condition holds; it reads its sources, changes its
pointer words, writes its result of the operand's width to the destination and its flags, issues its product, and goes on behind itself; no other
byte of memory, no other core and no other block changes. -/
def Obligations.CoreComputes : Prop :=
  ∀ e ∈ computing, ∀ (core : Fin 12) (hd : Head) (specs : List Spec) (s : State),
    let i : CoreInstr := ⟨core, e.1, hd, specs⟩
    coreReady s i = true → nearOps s i = true → (coreEff s i).fault = false →
    Answers (e.2 core hd specs) s (fun t =>
      t.m.mem = memDst s i (coreEff s i).val ∧
      coreAfter s t core.val { olk s.m.hw core.val with
        pc := BitVec.ofNat 32 (pcNext s i), flags := (coreEff s i).flags.getD (olk s.m.hw core.val).flags
        lateP := match (coreEff s i).prod with | some p => [⟨3, p.1, BitVec.ofNat 256 p.2⟩] | none => [] })

/-- The same opcodes but FRN with a source outside the core's near memory (R245, R247, R269): the result and the flags of an instruction with a near
destination are late. They wait, with two more instructions to end; the end of an instruction that takes the last of these lands them. -/
def Obligations.FarSourcesAreLate : Prop :=
  (∀ e ∈ computing, e.1 ≠ .frn → ∀ (core : Fin 12) (hd : Head) (specs : List Spec) (s : State),
    let i : CoreInstr := ⟨core, e.1, hd, specs⟩
    coreReady s i = true → farOps s i = true →
    (coreAcs s i).any (fun x => !x.wr && !isNear core.val x.a) = true → (coreEff s i).fault = false → (coreEff s i).prod = none →
    ((dstOf e.1 (coreAcs s i)).isSome = true ∨ (coreEff s i).flags.isSome = true) →
    Answers (e.2 core hd specs) s (fun t =>
      t.m.mem = memPtrs s i ∧
      coreAfter s t core.val { olk s.m.hw core.val with
        pc := BitVec.ofNat 32 (pcNext s i)
        late := [match dstOf e.1 (coreAcs s i), (coreEff s i).val with
          | some x, some v => ⟨2, x.a, x.n, v % 2 ^ (8 * x.n), (coreEff s i).flags⟩
          | _, _ => ⟨2, 0, 0, 0, (coreEff s i).flags⟩] })) ∧
  (∀ (c a n d : Nat) (f : Flags) (m : Mach), n ≠ 0 → (olk m.hw c).late = [⟨1, a, n, d, some f⟩] →
    rdMem (endInstr c m).mem a n = d % 256 ^ n ∧ (olk (endInstr c m).hw c).flags = f ∧ (olk (endInstr c m).hw c).late = [])

/-- The branches BR, JMP and CALL (R273) with near or immediate operands and a target that may be fetched: BR goes to its own address plus the
displacement, JMP and CALL to the operand's value, CALL after writing the address behind itself to its destination; flags stay.

TRAP and ERET (R258, R262, R303): TRAP enters supervisor mode with CAUSE 0x06, EADDR the immediate and EPC the address behind itself; ERET
restores mode, IE and flags and goes to EPC; from the entry that found the core free, the core is free again.

CWR, REP and REPI (R258, R274 … R277): CWR writes the control register that its immediate names; REP takes its immediate as the number of
iterations, REPI the word of its operand, at most 65 535; with none to run the next instruction is skipped. -/
def Obligations.CoreControlFlow : Prop :=
  (∀ (core : Fin 12) (hd : Head) (specs : List Spec) (s : State) (x : Nat),
     let go := fun (o : Op) (c : Instr) (target : Nat) (link : Bool) =>
       let i : CoreInstr := ⟨core, o, hd, specs⟩
       coreReady s i = true → nearOps s i = true → sourceVals i s.m.mem (coreWin s i) 0 specs = [x] → target % 2 = 0 →
       fetchRegion core.val target = true →
       Answers c s (fun t => t.m.mem = memDst s i (if link then some (pcNext s i) else none) ∧
         coreAfter s t core.val { olk s.m.hw core.val with pc := BitVec.ofNat 32 target })
     go .br (.br core hd specs) (((olk s.m.hw core.val).pc.toNat + x) % 4294967296) false ∧
     go .jmp (.jmp core hd specs) x false ∧ go .call (.call core hd specs) x true) ∧
  (∀ (core : Fin 12) (hd : Head) (s : State),
     let r := olk s.m.hw core.val
     (∀ v : BitVec 12, let i : CoreInstr := ⟨core, .trap, hd, [.imm v]⟩
       coreReady s i = true → Answers (.trap core hd [.imm v]) s (fun t => sameMem s t ∧
         coreAfter s t core.val (entered r 6 (BitVec.ofNat 32 (pcNext s i)) (BitVec.ofNat 32 v.toNat) 6))) ∧
     (∀ specs : List Spec, coreReady s ⟨core, .eret, hd, specs⟩ = true →
       (r.nest ≠ 1 → Answers (.eret core hd specs) s (fun t => sameMem s t ∧
         coreAfter s t core.val { r with
           sup := r.pmode, ie := r.pie, flags := r.eflags, exl := false, pc := r.epc, nest := r.nest - 1 })) ∧
       (r.nest = 1 → Answers (.eret core hd specs) s (fun t => sameMem s t ∧
         coreAfter s t core.val { r with phase := .free, sup := true, ie := true, exl := false, ctx := none, nest := 0, hang := none })))) ∧
  (∀ (core : Fin 12) (hd : Head) (s : State),
     let r := olk s.m.hw core.val
     (∀ (specs : List Spec) (k x : Nat), let i : CoreInstr := ⟨core, .cwr, hd, specs⟩
       coreReady s i = true → nearOps s i = true → sourceVals i s.m.mem (coreWin s i) 0 specs = [k, x] →
       Answers (.cwr core hd specs) s (fun t => t.m.mem = memPtrs s i ∧
         coreAfter s t core.val { ctlWrite r k (BitVec.ofNat 32 x) with pc := BitVec.ofNat 32 (pcNext s i) })) ∧
     (∀ (specs : List Spec) (n : Nat), let i : CoreInstr := ⟨core, .rep, hd, specs⟩
       coreReady s i = true → nearOps s i = true → sourceVals i s.m.mem (coreWin s i) 0 specs = [n] →
       Answers (.rep core hd specs) s (fun t => sameMem s t ∧
         coreAfter s t core.val { r with pc := BitVec.ofNat 32 (pcNext s i), rep := some ⟨false, r.pc, n, 0, decide (n = 0)⟩ })) ∧
     (∀ (w : Fin 64) (o : Fin 16), let i : CoreInstr := ⟨core, .repi, hd, [.direct w o]⟩
       coreReady s i = true → nearOps s i = true → isNear core.val (coreWin s i + (16 * w.val + o.val)) = true →
       let n := rdMem s.m.mem (coreWin s i + (16 * w.val + o.val)) 4
       n ≤ 65535 → Answers (.repi core hd [.direct w o]) s (fun t => sameMem s t ∧
         coreAfter s t core.val { r with
           pc := BitVec.ofNat 32 (pcNext s i), rep := some ⟨true, r.pc, 0, 16 * w.val + o.val, decide (n = 0)⟩ })))

/-- TAS, LR and SC (R283, R284) on a word or quadword of a shared memory whose domain is open, with the other operand in the window: TAS writes 1
and its late result is the old word, with Z when that was 0; LR takes the reservation and its late result is the quadword; SC stores the
quadword exactly when the reservation holds, sets Z late accordingly, and clears the reservation.

PROBE with its operands and every bucket it reads in near memory (R285, R286): a key that is found gives its value, with Z clear; a key that is
not found gives the DEFAULT of the header, with Z set, and C when every bucket allowed was read. -/
def Obligations.CoreAtomicsAndProbe : Prop :=
  (∀ (core : Fin 12) (hd : Head) (s : State) (w : Fin 64) (o : Fin 16) (x : Spec) (a : Nat), isMem x = true →
     let r := olk s.m.hw core.val
     let win := winBase core.val r
     let d := win + 16 * w.val + o.val
     isNear core.val d = true →
     let ready := fun i : CoreInstr => coreReady s i = true ∧ acsFaults i s.m.hw core.val (coreAcs s i) = [] ∧
       (coreAcs s i).all (acsOpen s.m.hw (.core core)) = true
     let next := fun i : CoreInstr => BitVec.ofNat 32 (pcNext s i)
     (let i : CoreInstr := ⟨core, .tas, hd, [.direct w o, x]⟩
      ready i → opAddr s.m.mem win 4 x = some a →
       Answers (.tas core hd [.direct w o, x]) s (fun t =>
         let v := rdMem s.m.mem a 4
         rdMem t.m.mem a 4 = 1 ∧ sameMemBut s t a 4 ∧
         coreAfter s t core.val { r with pc := next i, late := [⟨2, d, 4, v % 2 ^ 32, some ⟨false, decide (v = 0), false, false⟩⟩] })) ∧
     (let i : CoreInstr := ⟨core, .lr, hd, [.direct w o, x]⟩
      ready i → opAddr s.m.mem win 16 x = some a →
       Answers (.lr core hd [.direct w o, x]) s (fun t =>
         sameMem s t ∧ (olk t.m.hw core.val).resv = some a ∧
         coreAfter s t core.val { r with pc := next i, late := [⟨2, d, 16, rdMem s.m.mem a 16 % 2 ^ 128, none⟩] })) ∧
     (let i : CoreInstr := ⟨core, .sc, hd, [x, .direct w o]⟩
      ready i → opAddr s.m.mem win 16 x = some a →
       Answers (.sc core hd [x, .direct w o]) s (fun t =>
         (olk t.m.hw core.val).resv = none ∧
         (if r.resv = some a then rdMem t.m.mem a 16 = rdMem s.m.mem d 16 ∧ sameMemBut s t a 16 else sameMem s t) ∧
         coreAfter s t core.val { r with pc := next i, late := [⟨2, 0, 0, 0, some ⟨false, decide (r.resv = some a), false, false⟩⟩] }))) ∧
  (∀ (core : Fin 12) (hd : Head) (specs : List Spec) (s : State) (q k : Nat),
     let i : CoreInstr := ⟨core, .probe, hd, specs⟩
     coreReady s i = true → nearOps s i = true → sourceVals i s.m.mem (coreWin s i) 0 specs = [q, k] →
     let ha := (((coreAcs s i).find? (fun x => decide (x.k = 2))).map (fun x => x.a)).getD 0
     let done := fun (v : Nat) (f : Flags) => Answers (.probe core hd specs) s (fun t => t.m.mem = memDst s i (some v) ∧
       coreAfter s t core.val { olk s.m.hw core.val with pc := BitVec.ofNat 32 (pcNext s i), flags := f })
     (∀ v, probe core.val ha q k s.m = .found v false s.m → done v ⟨false, false, false, false⟩) ∧
     (∀ full, probe core.val ha q k s.m = .missing full false s.m → done (q / 2 ^ 96) ⟨false, true, false, full⟩))

/-- Where an instruction traps (R236, R259, R261, R272): an illegal encoding enters with CAUSE 0x01, a supervisor opcode in task mode with CAUSE 0x02,
a division by zero with CAUSE 0x05; EPC is the instruction, nothing of it takes effect, and EADDR is an open value (log entry 8). While EXL is 1 the
core halts instead (R263).

ILLEGAL_INSTRUCTION and CORE_INTERRUPT (R236, R264): an encoding of no instruction enters supervisor mode with CAUSE 0x01; an interrupt input that is
asserted while IE is 1 and EXL is 0 enters with CAUSE 0x10 at an instruction boundary. -/
def Obligations.CoreExceptionEntries : Prop :=
  (∀ e ∈ computing ++ controlling, ∀ (core : Fin 12) (hd : Head) (specs : List Spec) (s : State), s.alive = true →
     iniLive s.m.hw (.core core) = true →
     let i : CoreInstr := ⟨core, e.1, hd, specs⟩
     let r := olk s.m.hw core.val
     r.rep = none → r.late = [] → r.lateP = [] →
     (List.range (instrLen i / 2)).all (fun k => let a := (r.pc.toNat + 2 * k) % 4294967296
       (fetchFault s.m.hw core.val a).isNone && fetchOpen s.m.hw i a) = true →
     let trap := fun (cause : Nat) => Answers (e.2 core hd specs) s (fun t => sameMem s t ∧ (∀ k, k ≠ core.val → olk t.m.hw k = olk s.m.hw k) ∧
       (r.exl = false → olk t.m.hw core.val =
         { entered r cause r.pc (Config.openWord s.m.hw.freeCnt) (BitVec.ofNat 32 cause) with resv := none }) ∧
       (r.exl = true → olk t.m.hw core.val = { r with phase := .halted }))
     (isIllegal i r.sup = true → trap 1) ∧
     (isIllegal i r.sup = false → i.hd.rpt = false → isPriv e.1 = true → r.sup = false → trap 2) ∧
     (e ∈ computing → coreReady s i = true → nearOps s i = true → (coreEff s i).fault = true → trap 5)) ∧
  (∀ (c : Fin 12) (s : State), s.alive = true →
     let r := olk s.m.hw c.val
     r.late = [] → r.lateP = [] → r.rep = none → r.exl = false → iniLive s.m.hw (.core c) = true →
     (fetchFault s.m.hw c.val r.pc.toNat = none →
       Answers (.illegalInstruction c) s (fun t => sameMem s t ∧
         olk t.m.hw c.val = { entered r 1 r.pc (Config.openWord s.m.hw.freeCnt) 1 with resv := none })) ∧
     (r.ie = true → coreIrq s.m.hw c.val = true →
       Answers (.coreInterrupt c) s (fun t => sameMem s t ∧
         olk t.m.hw c.val = { entered r 0x10 r.pc (Config.openWord s.m.hw.freeCnt) 0x10 with resv := none })))

/-- The scalar arithmetic (R268, R271) at every operand width `w`: the sums and differences modulo 2^w with N and Z of the result, C the carry or
the borrow, V the signed overflow; CMP sets the flags of the difference and writes nothing.

Division (R271, R272): quotient and remainder of DIVU and REMU; DIVS truncates toward 0 and REMS has the sign of the dividend, so that the dividend is
the quotient times the divisor plus the remainder, but for the most negative value by −1, which gives itself with V set.

The lane opcodes (R234, R282): lane `k` of the result is computed from lanes `k` of the sources and from nothing else: sums and differences modulo the
lane, saturated to the signed or the unsigned range, minima and maxima, and compares that answer all ones or 0, with Z when no lane holds. -/
def Obligations.ArithmeticResults : Prop :=
  (∀ (i : CoreInstr) (r : Olk) (c len rel frame a b : Nat), i.hd.size.val ≤ 4 →
     let w := 8 * 2 ^ i.hd.size.val
     a < 2 ^ w → b < 2 ^ w →
     let out := fun (v : Nat) (x : Int) (carry : Bool) (e : Eff) =>
       e.val = some v ∧ e.flags = some ⟨decide (2 ^ (w - 1) ≤ v), decide (v = 0), decide (sgn w v ≠ x), carry⟩ ∧ e.fault = false
     let cin := r.flags.c.toNat
     (i.op = .add → out ((a + b) % 2 ^ w) (sgn w a + sgn w b) (decide (2 ^ w ≤ a + b)) (opEff i r c len rel frame [a, b])) ∧
     (i.op = .addc → out ((a + b + cin) % 2 ^ w) (sgn w a + sgn w b + cin) (decide (2 ^ w ≤ a + b + cin)) (opEff i r c len rel frame [a, b])) ∧
     (i.op = .sub → out ((a + 2 ^ w - b) % 2 ^ w) (sgn w a - sgn w b) (decide (a < b)) (opEff i r c len rel frame [a, b])) ∧
     (i.op = .subb → out ((a + 2 ^ w + 2 ^ w - b - cin) % 2 ^ w) (sgn w a - sgn w b - cin) (decide (a < b + cin)) (opEff i r c len rel frame [a, b])) ∧
     (i.op = .neg → out ((2 ^ w - a) % 2 ^ w) (0 - sgn w a) (decide (0 < a)) (opEff i r c len rel frame [a])) ∧
     (i.op = .cmp → (opEff i r c len rel frame [a, b]).val = none ∧ (opEff i r c len rel frame [a, b]).flags =
       some ⟨decide (2 ^ (w - 1) ≤ (a + 2 ^ w - b) % 2 ^ w), decide (a = b), decide (sgn w ((a + 2 ^ w - b) % 2 ^ w) ≠ sgn w a - sgn w b), decide (a < b)⟩)) ∧
  (∀ (size a b : Nat), size ≤ 4 →
     let w := 8 * 2 ^ size
     a < 2 ^ w → b < 2 ^ w → b ≠ 0 →
     (scalar2 .divu w a b 0).val = some (a / b) ∧ (scalar2 .remu w a b 0).val = some (a % b) ∧
     (scalar2 .divu w a b 0).fault = false ∧
     (∀ q m, (scalar2 .divs w a b 0).val = some q → (scalar2 .rems w a b 0).val = some m →
       (¬ (sgn w a = -(2 ^ (w - 1) : Nat) ∧ sgn w b = -1) →
         sgn w a = sgn w q * sgn w b + sgn w m ∧ (sgn w m).natAbs < (sgn w b).natAbs ∧ (sgn w m ≠ 0 → (0 < sgn w m ↔ 0 < sgn w a)) ∧
         ((scalar2 .divs w a b 0).flags.map (fun f => f.v)) = some false) ∧
       (sgn w a = -(2 ^ (w - 1) : Nat) → sgn w b = -1 →
         q = a ∧ ((scalar2 .divs w a b 0).flags.map (fun f => f.v)) = some true))) ∧
  (∀ (size k a b : Nat), size ≤ 3 →
     let w := 8 * 2 ^ size
     k < 128 / w →
     let x := lane w k a
     let y := lane w k b
     let is := fun (o : Op) (v : Nat) => ((laneOp o w a b).val.map (lane w k)) = some v
     let top : Int := (2 ^ (w - 1) : Nat)
     is .vadd ((x + y) % 2 ^ w) ∧ is .vsub ((x + 2 ^ w - y) % 2 ^ w) ∧
     is .vadds (pat w (max (-top) (min (top - 1) (sgn w x + sgn w y)))) ∧ is .vsubs (pat w (max (-top) (min (top - 1) (sgn w x - sgn w y)))) ∧
     is .vaddus (min (2 ^ w - 1) (x + y)) ∧ is .vsubus (x - y) ∧
     is .vmin (if sgn w x ≤ sgn w y then x else y) ∧ is .vmax (if sgn w x ≤ sgn w y then y else x) ∧
     is .vminu (min x y) ∧ is .vmaxu (max x y) ∧
     is .vceq (if x = y then 2 ^ w - 1 else 0) ∧ is .vcgt (if sgn w y < sgn w x then 2 ^ w - 1 else 0) ∧
     is .vcgtu (if y < x then 2 ^ w - 1 else 0))

/-! ## Keystone and message pages (chapter 10) -/

/-- FRAME_BOUNDARY (R13, R15, R17, R49, R54): while PD18 is ON the timebase reaches the end of the frame, which is the start of the next one, the
frame number counts by 1 modulo 2^64, and every page with PEND whose domain is ON has its staging area applied, PEND clearing, but for a set that
waits for its channel's bus idle or round end; no other page's applied configuration changes. While PD18 is not ON no boundary occurs. Without the
Bond link's domain the frame that begins has the applied length. -/
def Obligations.FrameBoundary : Prop :=
  ∀ s : State, s.alive = true →
    (domOn s.m.hw 18 = true → Answers .frameBoundary s (fun t =>
      let h := s.m.hw
      t.m.hw.frame = (h.frame + 1) % 2 ^ 64 ∧
      t.m.hw.timebase = (h.timebase + (h.frameStart + h.frameLen - h.timebase)) % 2 ^ 64 ∧ t.m.hw.frameStart = t.m.hw.timebase ∧
      t.m.hw.tbCopy = t.m.hw.timebase ∧
      (domOn h 30 = false → t.m.hw.frameLen = min 10000 (max 250 (cfgF t.m.hw 1 0 0x400 0 14))) ∧
      ∀ e ∈ pageTypes, ∀ i, i < e.2 →
        (bit (rd h e.1 i oCOMMIT) 8 = true → pageOn h e.1 i = true →
          bit (rd t.m.hw e.1 i oCOMMIT) 8 = false ∧
          (commitWaits e.1 i h = false → ∀ off, 0x400 ≤ off → off < 0x800 → cfg t.m.hw e.1 i off = rd h e.1 i off)) ∧
        (e.1 ≠ 0x21 → (bit (rd h e.1 i oCOMMIT) 8 = false ∨ pageOn h e.1 i = false) →
          ∀ off, 0x400 ≤ off → off < 0x800 → cfg t.m.hw e.1 i off = cfg h e.1 i off))) ∧
    (domOn s.m.hw 18 = false → Gives .frameBoundary s id)

/-- CTX_CMD ENABLE (R291, R293): of a disabled context whose record lies in shared SRAM and is sound, and whose window slot is free on its cores,
the record is loaded and the context is IDLE with its pc at ENTRY, where a line or queue that is a cause for it acts at once (R296, R309); otherwise ERR_STAT names the reason and nothing else changes.

CTX_CMD ACTIVATE, ABORT and DISABLE (R292, R296, R298, R299, R305, R322) of a context that is on no core: ACTIVATE of an IDLE context begins an
activation and is kept by one that is active; ABORT ends an activation with the pc at ENTRY and no kept cause, and a line or queue that is a cause
acts at once; DISABLE also stores STATE and RELFRAME in the record and returns the pages the context owns to the free pool. From task mode only
ACTIVATE is taken (R326); an operation code that is reserved is refused.

An activation (R296, R297, R306): the context is READY with its pc at ENTRY and the activation counter counts; the release frame is the
present one; the deadline is the budget from now, none without a budget.

DEADLINE (R306, R307): an activation that runs past its deadline is an overrun: OVR_CNT counts up to 0xFFFF, source 0 pulses, the frame of a
deterministic context is marked while DETMODE is 1 (R312), and the context goes on, is aborted, or stops, as its DESC says; an aborted one stays
IDLE where no line or queue can be a cause for it.

Event lines (R308 … R310): EVL_WR sets the target of a line and refuses a reserved target; EVSW sets the software level of a line; a line that
is 1 and targets an IDLE context activates it with KIND 0b01 and the number of the lowest such line. -/
def Obligations.KeystoneCommands : Prop :=
  (∀ (ini : Initiator) (n : Byte) (s : State), s.writes ini 0x30 0 0x040 = true → taskCtx s.m.hw ini = none →
     let k := n.toNat
     let b := (cfg s.m.hw 0x30 0 0x404).toNat / 0x1000 * 0x1000 + k * 0x500
     let d := rdMem s.m.mem (b + 0x4A0) 16
     let f := fun lo w => d / 2 ^ lo % 2 ^ w
     let g := fun j => rdMem s.m.mem (b + 0x4C0 + 8 * j) 8
     let inSram := 0x20000000 ≤ b ∧ b + 0x500 ≤ 0x20200000
     let sound := f 64 6 ≤ 59 ∧ f 40 12 ≠ 0 ∧ d % 2 = 0 ∧ f 60 4 = 0 ∧ f 70 2 = 0 ∧ f 122 6 = 0 ∧
       ∀ j, j < 8 → ¬ (1 ≤ g j / 2 ^ 32 % 64 ∧ g j / 2 ^ 32 % 64 ≤ 3) ∧ g j / 2 ^ 38 % 4 = 0 ∧ g j / 2 ^ 43 = 0
     let dis := (ctx s.m.hw k).st = .disabled
     (dis → inSram → sound → slotClash s.m.hw k (f 52 8) (f 40 12) = false →
       Gives (.ctxEnable ini n) s (fun h => idleCauses k (setCtx h k {
         desc := d, pc := BitVec.ofNat 32 d, st := .idle, act := (ctx h k).act, ovrAt := (ctx h k).ovrAt
         deadline := (ctx h k).deadline, dlFrame := (ctx h k).dlFrame, rel := rdMem s.m.mem (b + 0x490) 8
         grants := (List.range 8).map (fun j => ⟨g j % 2 ^ 32, g j / 2 ^ 32 % 64, (g j).testBit 40, (g j).testBit 41, (g j).testBit 42⟩) }))) ∧
     (dis → inSram → sound → slotClash s.m.hw k (f 52 8) (f 40 12) = true → Gives (.ctxEnable ini n) s (fun h => err h 0x30 0 17)) ∧
     (dis → inSram → ¬ sound → Gives (.ctxEnable ini n) s (fun h => err h 0x30 0 19)) ∧
     (dis → ¬ inSram → Gives (.ctxEnable ini n) s (fun h => err h 0x30 0 18)) ∧
     (¬ dis → Gives (.ctxEnable ini n) s (fun h => err h 0x30 0 16))) ∧
  (∀ (ini : Initiator) (n : Byte) (s : State), s.writes ini 0x30 0 0x040 = true →
     let k := n.toNat
     let r := ctx s.m.hw k
     let b := recBase s.m.hw k
     (domOn s.m.hw 18 = true → detOn s.m.hw r = false → r.st = .idle → Gives (.ctxActivate ini n) s (activate k 2 0 [])) ∧
     (domOn s.m.hw 18 = true → detOn s.m.hw r = false → active r = true →
       Gives (.ctxActivate ini n) s (fun h => setCtx h k { r with kept := some (keepCause r.kept (2, 0)) })) ∧
     (detOn s.m.hw r = true → Gives (.ctxActivate ini n) s (fun h => err h 0x30 0 16)) ∧
     (taskCtx s.m.hw ini = none → active r = true → r.st ≠ .running →
       Gives (.ctxAbort ini n) s (fun h => idleCauses k (endAct k .idle h)) ∧
       (linesOfCtx s.m.hw k = [] → queuesOf s.m.hw k = [] → Answers (.ctxAbort ini n) s (fun t =>
         ctx t.m.hw k = { r with st := .idle, pc := BitVec.ofNat 32 r.desc, waits := [], kept := none } ∧ sameMem s t ∧
         ∀ j, j < 256 → j ≠ k → (ctx t.m.hw j).waits = (ctx s.m.hw j).waits.filter (fun p => decide (p ≠ k))))) ∧
     (taskCtx s.m.hw ini = none → active r = false → Gives (.ctxAbort ini n) s id) ∧
     (taskCtx s.m.hw ini = none → r.st = .disabled → Gives (.ctxDisable ini n) s id) ∧
     (taskCtx s.m.hw ini = none → r.st ≠ .disabled → r.st ≠ .running → Answers (.ctxDisable ini n) s (fun t =>
       ctx t.m.hw k = { act := r.act, ovrAt := r.ovrAt, deadline := r.deadline, dlFrame := r.dlFrame } ∧
       rdMem t.m.mem (b + 0x480) 4 = r.pc.toNat ∧ rdMem t.m.mem (b + 0x484) 1 = rdMem s.m.mem (b + 0x484) 1 % 16 ∧
       rdMem t.m.mem (b + 0x490) 8 = r.rel % 2 ^ 64 ∧ sameMemBut s t (b + 0x480) 32 ∧
       (∀ j, j < 256 → j ≠ k → (ctx t.m.hw j).waits = (ctx s.m.hw j).waits.filter (fun p => decide (p ≠ k))) ∧
       t.m.hw.pages = s.m.hw.pages.filter (fun e => decide (e.2.own ≠ .ctx k)))) ∧
     (∀ op : BitVec 4, (op = 0 ∨ 5 ≤ op.toNat ∨ ((taskCtx s.m.hw ini).isSome = true ∧ op ≠ 3)) →
       Gives (.ctxCmdRefused ini op n) s (fun h => err h 0x30 0 16))) ∧
  (∀ (k kind line : Nat) (h : Hw),
     let r := ctx h k
     let r' := ctx (activate k kind line [] h) k
     r'.st = .ready ∧ r'.pc = BitVec.ofNat 32 r.desc ∧ r'.act = (r.act + 1) % 256 ∧ r'.rel = h.frame ∧ r'.kind = kind ∧ r'.line = line ∧
       r'.begun = false ∧ r'.late = false ∧
       (kind ≠ 0 → r.dlFrame ≠ h.frame + 1 →
         r'.deadline = if r.desc / 2 ^ 88 % 2 ^ 16 = 0 then none else some (h.timebase + r.desc / 2 ^ 88 % 2 ^ 16)) ∧
       (∀ j, j ≠ k → ctx (activate k kind line [] h) j = ctx h j)) ∧
  (∀ (n : Byte) (d : Nat) (s : State), s.alive = true →
     let r := ctx s.m.hw n.toNat
     r.deadline = some d → d ≤ s.m.hw.timebase → active r = true → r.late = false →
     let a := r.desc / 2 ^ 38 % 4
     (a = 1 → linesOfCtx s.m.hw n.toNat = [] ∧ queuesOf s.m.hw n.toNat = []) →
     Answers (.deadline n) s (fun t =>
       (ctx t.m.hw n.toNat).st = (if a = 0 then r.st else if a = 1 then .idle else .stopped) ∧
       (ctx t.m.hw n.toNat).late = true ∧
       fld (rd t.m.hw 0x30 0 0x060) 0 16 = min 0xFFFF (fld (rd s.m.hw 0x30 0 0x060) 0 16 + 1) ∧ evSeen t.m.hw 0x30 0 0 ∧
       t.m.hw.key.ovr = (s.m.hw.key.ovr || detOn s.m.hw r))) ∧
  (∀ (s : State),
     (∀ (ini : Initiator) (w : Word), s.writes ini 0x30 0 0x048 = true → taskCtx s.m.hw ini = none →
       let tk := w.toNat / 2 ^ 30
       let bad := tk = 3 ∨ (tk = 2 ∧ 12 ≤ w.toNat % 256)
       (bad → Gives (.evlWr ini w) s (fun h => err h 0x30 0 16)) ∧
       (¬ bad → Gives (.evlWr ini w) s (fun h =>
         let l := w.toNat / 2 ^ 16 % 1024
         { h with lines := smPut {} l { evLine h l with tk := tk, tgt := w.toNat % 256 } h.lines }))) ∧
     (∀ (ini : Initiator) (w : Word), s.writes ini 0x30 0 0x054 = true →
       Gives (.evsw ini w) s (fun h =>
         let l := w.toNat % 1024
         { h with lines := smPut {} l { evLine h l with sw := decide (2 ^ 31 ≤ w.toNat) } h.lines })) ∧
     (∀ l : Fin 1024, s.alive = true → domOn s.m.hw 18 = true → (evLine s.m.hw l.val).tk = 1 → lineLevel s.m.hw l.val = true →
       let n := (evLine s.m.hw l.val).tgt
       detOn s.m.hw (ctx s.m.hw n) = false → (ctx s.m.hw n).st = .idle →
       Gives (.eventLineCause l) s (activate n 1 ((lineCause s.m.hw n).getD l.val) [])))

/-- DISPATCH (R294, R297, R301): a free core takes the READY context of highest PRIO, the lowest number on a tie, among those whose mask names it:
the context is RUNNING there in task mode at its saved pc; one that continues finds the 1024 bytes of its window as its record holds them. Free cores are served in ascending order: no lower core that is
free may run a READY context.

PREEMPT (R302): a READY context for which no core of its mask is free takes the core of the lowest-priority task below its own priority, the
higher core number on a tie; that task becomes READY again, its state stored in its record. While that core is inside a REP body or on a hung
access the removal waits.

YIELD from supervisor code and DONE of a task with nothing pending (R294, R303, R304): the window, the products, the pc and the flags of the
context are stored in its record, no other byte changes, and the core is free. After YIELD the context is READY; after DONE it is IDLE with its pc
at ENTRY, where it has no cause for another activation. YIELD from task mode is refused (R326). -/
def Obligations.Dispatch : Prop :=
  (∀ (c : Fin 12) (n : Nat) (s : State), s.alive = true → (olk s.m.hw c.val).phase = .free → domOpen s.m.hw 18 = true →
     domOpen s.m.hw (1 + c.val) = true → n < 256 →
     let may := fun k => (ctx s.m.hw k).st = .ready ∧ (ctx s.m.hw k).desc.testBit (40 + c.val) = true
     (∀ e k, e < c.val → (olk s.m.hw e).phase = .free → domOpen s.m.hw (1 + e) = true → k < 256 → (ctx s.m.hw k).st = .ready →
       (ctx s.m.hw k).desc.testBit (40 + e) = false) →
     may n → (∀ k, k < 256 → k ≠ n → may k → prio (ctx s.m.hw k) < prio (ctx s.m.hw n) ∨ (prio (ctx s.m.hw k) = prio (ctx s.m.hw n) ∧ n < k)) →
     Answers (.dispatch c) s (fun t =>
       let r := olk t.m.hw c.val
       r.phase = .run ∧ r.sup = false ∧ r.ctx = some n ∧ r.pc = (ctx s.m.hw n).pc ∧ r.late = [] ∧ r.rep = none ∧ r.resv = none ∧
       (ctx t.m.hw n).st = .running ∧ (ctx t.m.hw n).core = c.val ∧ (ctx t.m.hw n).begun = true ∧
       (∀ k, k ≠ n → ctx t.m.hw k = ctx s.m.hw k) ∧
       ((ctx s.m.hw n).begun = true →
         let win := nearBase c.val + (ctx s.m.hw n).desc / 2 ^ 52 % 256 * 1024
         (∀ a, a < 1024 → rdByte t.m.mem (win + a) = rdByte s.m.mem (recBase s.m.hw n + a)) ∧ sameMemBut s t win 1024))) ∧
  (∀ (n : Byte) (c k : Nat) (s : State), s.alive = true → domOn s.m.hw 18 = true → c < 12 →
     let h := s.m.hw
     let r := ctx h n.toNat
     let mask := fun d => r.desc.testBit (40 + d)
     r.st = .ready → mask c = true → (olk h c).ctx = some k → k ≠ n.toNat → runsBelow h (prio r) c = true →
     (∀ d, d < 12 → mask d = true → coreOpen h d = false) →
     (∀ d j, d < 12 → d ≠ c → mask d = true → runsBelow h (prio r) d = true → (olk h d).ctx = some j →
       prio (ctx h k) < prio (ctx h j) ∨ (prio (ctx h k) = prio (ctx h j) ∧ d < c)) →
     (removable h c = true → Answers (.preempt n) s (fun t =>
       (ctx t.m.hw n.toNat).st = .running ∧ (ctx t.m.hw n.toNat).core = c ∧ (olk t.m.hw c).ctx = some n.toNat ∧
       (olk t.m.hw c).pc = r.pc ∧ (ctx t.m.hw k).st = .ready)) ∧
     (removable h c = false → Gives (.preempt n) s id)) ∧
  (∀ (c : Fin 12) (n : Nat) (s : State),
     let r := olk s.m.hw c.val
     let freed := fun (t : State) => (olk t.m.hw c.val).phase = .free ∧ (olk t.m.hw c.val).ctx = none ∧ (olk t.m.hw c.val).sup = true ∧
       (olk t.m.hw c.val).ie = true ∧ (olk t.m.hw c.val).exl = false
     (s.writes (.core c) 0x30 0 0x044 = true → r.sup = true → r.ctx = some n → r.late = [] → r.lateP = [] →
       Answers (.yield (.core c)) s (fun t => freed t ∧ (ctx t.m.hw n).st = .ready ∧ (ctx t.m.hw n).pc = r.epc ∧
         recStored s t n c.val r.epc r.eflags)) ∧
     (s.writes (.core c) 0x30 0 0x044 = true → r.sup = false → r.ctx = some n →
       Gives (.yield (.core c)) s (fun h => err h 0x30 0 16)) ∧
     (∀ (hd : Head) (specs : List Spec), coreReady s ⟨c, .done, hd, specs⟩ = true → r.sup = false → r.ctx = some n →
       (ctx s.m.hw n).desc / 2 ^ 37 % 2 = 0 → (ctx s.m.hw n).kept = none → (ctx s.m.hw n).more = false →
       linesOfCtx s.m.hw n = [] → queuesOf s.m.hw n = [] →
       Answers (.done c hd specs) s (fun t => freed t ∧ (ctx t.m.hw n).st = .idle ∧ (ctx t.m.hw n).pc = BitVec.ofNat 32 (ctx s.m.hw n).desc ∧
         recStored s t n c.val r.pc r.flags)))

/-- TAKE (R313, R315, R316): while a page is free and, for task code, more than RSV are, the read answers the reference of one page of the free pool,
which now belongs to the taker; otherwise it answers 0. Which page is open (log entry 9).

GIVE, PUT and PQ_LINK (R315, R317, R318, R323): the owner of a page frees its chain, puts it at the tail of an enabled queue with room, stamped
with the frame and the putting context, or sets its link; a bad reference, a page of another owner, a queue that is disabled or full leave the
pages alone and record the first error. -/
def Obligations.MessagePages : Prop :=
  (∀ (c : Fin 12) (s : State), s.reads (.core c) 0x32 0 0x044 = true → smWf (fun _ => ({} : Page)) s.m.hw.pages = true →
     (∀ e ∈ s.m.hw.pages, e.1 < 4096) →
     let free := 4096 - s.m.hw.pages.length
     let task := taskCtx s.m.hw (.core c)
     let short := free = 0 ∨ (free ≤ rsvOf s.m.hw ∧ task.isSome = true)
     (¬ short → Answers (.take (.core c)) s (fun t => sameMem s t ∧ ∃ p, p < 4096 ∧ apage s.m.hw p = {} ∧
       t.m.hw.reply = 0x21000000 + 256 * p ∧ apage t.m.hw p = { own := match task with | some n => .ctx n | none => .sup c.val, next := none } ∧
       (∀ k, k ≠ p → apage t.m.hw k = apage s.m.hw k) ∧ freeCount t.m.hw = free - 1)) ∧
     (short → Answers (.take (.core c)) s (fun t => sameMem s t ∧ t.m.hw.reply = 0 ∧ t.m.hw.pages = s.m.hw.pages ∧ evSeen t.m.hw 0x32 0 0))) ∧
  (∀ (ini : Initiator) (p : Fin 4096) (s : State),
     let ref := 0x21000000 + 256 * p.val
     let task := taskCtx s.m.hw ini
     let mine := owns s.m.hw ini task p.val = true
     (∀ low : Byte, s.writes ini 0x32 0 0x048 = true →
       let w := BitVec.ofNat 32 (ref + low.toNat)
       (mine → Gives (.give ini w) s (freeChain p.val)) ∧
       (¬ mine → Gives (.give ini w) s (msgErr ini task (ref + low.toNat) 1))) ∧
     (∀ w : Word, s.writes ini 0x32 0 0x048 = true → w.toNat / 0x100000 ≠ 0x210 → Gives (.give ini w) s (msgErr ini task w.toNat 3)) ∧
     (∀ q : Fin 64, s.writes ini 0x32 0 0x04C = true →
       let w := BitVec.ofNat 32 (ref + 4 * q.val)
       (mine → (apage s.m.hw p.val).next = none → qEn s.m.hw q.val = true → qFull s.m.hw q.val 0 = false → Answers (.put ini w) s (fun t =>
         queue t.m.hw q.val = queue s.m.hw q.val ++
           [⟨p.val, s.m.hw.frame, task.getD 256, (task.map (fun n => (ctx s.m.hw n).rel)).getD 0⟩] ∧
         apage t.m.hw p.val = { own := .queue q.val, next := none } ∧ (∀ k, k ≠ p.val → apage t.m.hw k = apage s.m.hw k) ∧
         (∀ k, k ≠ q.val → queue t.m.hw k = queue s.m.hw k) ∧ sameMem s t)) ∧
       (¬ mine → Gives (.put ini w) s (fun h => pageFail task (msgErr ini task ref 2 h))) ∧
       (mine → (qEn s.m.hw q.val = false ∨ qFull s.m.hw q.val 0 = true) →
         Gives (.put ini w) s (fun h => pageFail task (msgErr ini task ref 4 h)))) ∧
     (∀ w : Word, s.writes ini 0x32 0 0x060 = true → fld (rd s.m.hw 0x32 0 0x058) 0 12 = p.val →
       (mine → Gives (.pqLink ini w) s (fun h =>
         setPage h p.val { apage h p.val with next := if bit w 12 then some (fld w 0 12) else none })) ∧
       (¬ mine → Gives (.pqLink ini w) s (msgErr ini task ref 5))))

/-! ## DMA (chapter 11) -/

/-- The commands of a DMA channel (R338, R339, R343): START of a channel in IDLE or HALT copies HEAD to CUR and enters RUN, or ARMED with CFG.FB;
STOP ends an armed channel and is noted by a running one; RESUME continues after a bus error; ABORT of a channel that does not hang ends in IDLE,
with claimed pages back in the free pool and a drained chain back at the head of its queue. What the state does not allow sets CMDREF.

DESCRIPTOR_START (R331, R335, R336) with the descriptor at CUR in open memory: a sound COPY loads SRC, DST and LEFT; a descriptor that breaks a
rule of R336 halts the channel with the cause and the descriptor's address; so does a CUR that is not a multiple of 16, and, where no other row of
the table applies, a descriptor in a peripheral page.

A unit that may not start, DMA_RETRY and PACING_GATE_EVAL (R332, R337, R339): with the gate closed, SQ empty or DQ full the channel goes to
WAIT; the access that failed is done again; the last repetition that fails halts the channel with the
failing address. The gate opens at or above the one fill threshold and closes at or below the other, the two changing places with SENSE, in every state of the
channel whose PACE_EN is 1. -/
def Obligations.DmaCommands : Prop :=
  (∀ (ini : Initiator) (n : Fin 64) (s : State), s.writes ini 0x31 n.val 0x040 = true →
     let k := n.val
     let r := dma s.m.hw k
     let refused := fun h => err h 0x31 k 16
     ((r.st = .idle ∨ r.st = .halt) → Answers (.dmaStart ini n) s (fun t => sameMem s t ∧
       rd t.m.hw 0x31 k 0x4C = rd s.m.hw 0x31 k 0x48 ∧
       (∃ g, dma t.m.hw k = { st := if cfgF s.m.hw 0x31 k 0x400 31 1 = 1 then .armed else .run, cause := r.cause, gate := g } ∧
         (r.pages = [] → g = gateEval s.m.hw k false)) ∧ ∀ j, j ≠ k → dma t.m.hw j = dma s.m.hw j)) ∧
     ((r.st = .armed ∨ r.st = .run ∨ r.st = .wait) → (r.hung && r.abort) = false → Gives (.dmaStart ini n) s refused) ∧
     ((r.st = .run ∨ r.st = .wait) → Gives (.dmaStop ini n) s (fun h => setDma h k { r with stop := true })) ∧
     (r.st = .armed → Answers (.dmaStop ini n) s (fun t => (dma t.m.hw k).st = .idle)) ∧
     ((r.st = .idle ∨ r.st = .halt) → Gives (.dmaStop ini n) s refused) ∧
     (r.st = .idle → Gives (.dmaAbort ini n) s id) ∧
     (r.st ≠ .idle → r.hung = true → Gives (.dmaAbort ini n) s (fun h => setDma h k { r with abort := true, restart := false })) ∧
     (r.st ≠ .idle → r.hung = false → Answers (.dmaAbort ini n) s (fun t => sameMem s t ∧
       dma t.m.hw k = { st := .idle, cause := r.cause, gate := r.gate } ∧
       (r.item = none → ∀ p, apage t.m.hw p = if p ∈ r.pages then {} else apage s.m.hw p) ∧
       (∀ i p l, r.item = some i → r.pages = p :: l →
         queue t.m.hw (dmaSq r) = { i with page := p } :: queue s.m.hw (dmaSq r) ∧
         ∀ q ∈ r.pages, (apage t.m.hw q).own = .queue (dmaSq r)))) ∧
     (r.st = .halt → r.cause = 3 → Gives (.dmaResume ini n) s (fun h => setDma h k { r with st := .run, retry := none })) ∧
     ((r.st ≠ .halt ∨ r.cause ≠ 3) → Gives (.dmaResume ini n) s refused) ∧
     (∀ op : BitVec 3, (5 ≤ op.toNat ∨ op = 1 ∧ (r.st = .armed ∨ r.st = .run ∨ r.st = .wait) ∧ (r.hung && r.abort) = false ∨
         op = 2 ∧ (r.st = .idle ∨ r.st = .halt) ∨ op = 4 ∧ (r.st ≠ .halt ∨ r.cause ≠ 3)) → Gives (.dmaCmdRefused ini n op) s refused)) ∧
  (∀ (n : Fin 64) (s : State), s.alive = true → dmaLive s.m.hw n.val = true → (dma s.m.hw n.val).desc = none →
     (dma s.m.hw n.val).hold = none → domOpen s.m.hw 18 = true →
     let k := n.val
     let cur := (rd s.m.hw 0x31 k 0x4C).toNat
     let d := (rdMem s.m.mem cur 16, rdMem s.m.mem (cur + 16) 16)
     let readable := cur + 32 ≤ 0x40000000 ∧ (addrDomain cur).isSome = true ∧ (addrDomain (cur + 16)).isSome = true ∧
       ∀ j, j < 8 → targetOpen s.m.hw (cur + 4 * j) = true
     let halted := fun (cause : Nat) => Answers (.descriptorStart n) s (fun t => sameMem s t ∧
       (dma t.m.hw k).st = .halt ∧ (dma t.m.hw k).cause = cause ∧ (rd t.m.hw 0x31 k 0x5C).toNat = cur)
     (cur % 16 ≠ 0 → halted 1) ∧
     (∀ (q0 q1 : Nat) (m1 m2 : Mach), cur % 16 = 0 → 0x40000000 ≤ cur → cur < 0x50000000 → s.m.hw.pwr.cur = none →
       busRead (.dma n) cur 16 s.m = .ok q0 m1 →
       busRead (.dma n) (cur + 16) 16 (m1.onHw (fun h => setDma h k { dma h k with hold := some q0, retry := none })) = .ok q1 m2 →
       Answers (.descriptorStart n) s (fun t => (dma t.m.hw k).st = .halt ∧ (rd t.m.hw 0x31 k 0x5C).toNat = cur ∧
         (dma t.m.hw k).cause = if dmaCheck m2.hw k (q0, q1) = 0 then 4 else dmaCheck m2.hw k (q0, q1))) ∧
     (cur % 16 = 0 → readable → dmaCheck s.m.hw k d ≠ 0 → halted (dmaCheck s.m.hw k d)) ∧
     (cur % 16 = 0 → readable → dmaCheck s.m.hw k d = 0 → d.2 % 8 = 0 → d.1 / 2 ^ 64 % 2 ^ 24 ≠ 0 →
       Answers (.descriptorStart n) s (fun t => sameMem s t ∧ (dma t.m.hw k).desc = some d ∧
         (rd t.m.hw 0x31 k 0x50).toNat = d.1 % 2 ^ 32 ∧ (rd t.m.hw 0x31 k 0x54).toNat = d.1 / 2 ^ 32 % 2 ^ 32 ∧
         (rd t.m.hw 0x31 k 0x58).toNat = d.1 / 2 ^ 64 % 2 ^ 24))) ∧
  (∀ (n : Fin 64) (s : State), s.alive = true → domOn s.m.hw 18 = true →
     let k := n.val
     let r := dma s.m.hw k
     let a := (rd s.m.hw 0x31 k 0x50).toNat
     (r.st = .run → r.hung = false → r.retry.isSome = true → r.desc.isSome = true → r.unit ≠ 0 → r.hold = none → domOpen s.m.hw 18 = true →
       (a < 0x40000000 → a % 16 = 0 → (addrDomain a).isSome = true → (∀ j, j < 4 → targetOpen s.m.hw (a + 4 * j) = true) →
         Gives (.dmaRetry n) s (fun h => setDma h k { r with hold := some (rdMem s.m.mem a 16), retry := none })) ∧
       (addrDomain a = none → r.retry = some 1 → Answers (.dmaRetry n) s (fun t => sameMem s t ∧
         (dma t.m.hw k).st = .halt ∧ (dma t.m.hw k).cause = 3 ∧ (rd t.m.hw 0x31 k 0x5C).toNat = a))) ∧
     (dmaLive s.m.hw k = true → r.desc.isSome = true → r.unit = 0 → (dmaType r ≠ 0 → domOpen s.m.hw 17 = true) → dmaWaits s.m.hw k r = true →
       Gives (.dmaUnit n) s (fun h => setDma h k { r with st := .wait })) ∧
     (bit (cfg s.m.hw 0x31 k 0x400) 11 = false → Gives (.pacingGateEval n) s id) ∧
     (bit (cfg s.m.hw 0x31 k 0x400) 11 = true → Answers (.pacingGateEval n) s (fun t => sameMem s t ∧
       let p := cfg s.m.hw 0x31 k 0x404
       let f := fill s.m.hw (fld p 24 6)
       let above := fld p 12 12 ≤ f
       let below := f ≤ fld p 0 12
       (dma t.m.hw k).gate = (if bit p 30 = true then (if r.gate = true then decide (¬ above) else decide below)
         else (if r.gate = true then decide (¬ below) else decide above)))))

/-- DMA_UNIT of a COPY (R331, R332, R340) between places of the shared SRAM that do not overlap: up to 256 bytes are copied, every other byte of
memory stays, the addresses advance and LEFT shrinks by as much, and the descriptor completes when nothing is left. The fabric grants the unit to
the highest PRIO, in rotation among equals (R342); a channel that is not granted does nothing.

DMA_UNIT of a MOVE (R332): the head chain of SQ, here of one page, joins the tail of DQ, and LEFT counts down. -/
def Obligations.DmaCopies : Prop :=
  (∀ (n : Fin 64) (d : Nat × Nat) (s : State), s.alive = true → dmaLive s.m.hw n.val = true →
     domOpen s.m.hw 18 = true → (∀ x, 13 ≤ x → x ≤ 16 → domOpen s.m.hw x = true) →
     let k := n.val
     let r := dma s.m.hw k
     r.desc = some d → d.2 % 8 = 0 → d.2.testBit 3 = false → d.2.testBit 4 = false → r.unit = 0 → r.hold = none → dmaWaits s.m.hw k r = false →
     let src := (rd s.m.hw 0x31 k 0x50).toNat
     let dst := (rd s.m.hw 0x31 k 0x54).toNat
     let left := (rd s.m.hw 0x31 k 0x58).toNat
     let len := min 256 left
     (dmaGranted s.m.hw k = false → Gives (.dmaUnit n) s id) ∧
     (dmaGranted s.m.hw k = true → left ≠ 0 → src % 16 = 0 → dst % 16 = 0 → left % 16 = 0 → 0x20000000 ≤ src → src + len ≤ 0x20200000 → 0x20000000 ≤ dst →
     dst + len ≤ 0x20200000 → (src + len ≤ dst ∨ dst + len ≤ src) →
     Answers (.dmaUnit n) s (fun t =>
       (∀ a, a < len → rdByte t.m.mem (dst + a) = rdByte s.m.mem (src + a)) ∧ sameMemBut s t dst len ∧
       (rd t.m.hw 0x31 k 0x50).toNat = src + len ∧ (rd t.m.hw 0x31 k 0x54).toNat = dst + len ∧
       (rd t.m.hw 0x31 k 0x58).toNat = left - len ∧ (dma t.m.hw k).desc = (if left = len then none else some d) ∧
       (dma t.m.hw k).unit = 0 ∧ (∀ j, j ≠ k → dma t.m.hw j = dma s.m.hw j) ∧
       sameRegsBut s.m.hw t.m.hw ([0x44, 0x4C, 0x50, 0x54, 0x58, oRAW, oSTAT].map (fun o => pg 0x31 k + o))))) ∧
  (∀ (n : Fin 64) (d : Nat × Nat) (i : QItem) (rest : List QItem) (s : State), s.alive = true → dmaLive s.m.hw n.val = true →
     domOpen s.m.hw 17 = true → dmaGranted s.m.hw n.val = true →
     let k := n.val
     let r := dma s.m.hw k
     r.desc = some d → d.2 % 8 = 3 → r.unit = 0 → dmaWaits s.m.hw k r = false → dmaSq r ≠ dmaDq r →
     queue s.m.hw (dmaSq r) = i :: rest → (apage s.m.hw i.page).own = .queue (dmaSq r) → (apage s.m.hw i.page).next = none →
     Answers (.dmaUnit n) s (fun t => sameMem s t ∧ queue t.m.hw (dmaSq r) = rest ∧
       queue t.m.hw (dmaDq r) = queue s.m.hw (dmaDq r) ++ [⟨i.page, s.m.hw.frame, 256, 0⟩] ∧
       (apage t.m.hw i.page).own = .queue (dmaDq r) ∧
       (rd t.m.hw 0x31 k 0x58).toNat = (rd s.m.hw 0x31 k 0x58).toNat - 1))

/-! ## CAN channels (chapter 12) -/

/-- The MODE commands and BOREQ (R357, R358, R373): CTL takes the mode; out of INIT it is in force at once and the channel integrates, otherwise it
waits for bus idle; BOREQ starts the recovery of a channel in bus-off. A reserved MODE is refused as a whole.

What waits ends (R357, R358, R373, R377): bus idle puts the mode of CTL in force, applies a set that a commit holds and starts a requested
switch to SLEEP; integration ends in a
channel that takes part; the switch window's end brings the transceiver mode; recovery clears bus-off and both counters.

The transceiver requests (R377): SLEEP waits for bus idle unless the transceiver is or goes there; NORMAL and SILENT open their switch window at
once, and withdraw a SLEEP that waits.

The wake detector (R378, R379, R380, R426, R450) of CAN0 … CAN3 in SLEEP: a dominant phase beyond the filter time, a wake frame that matches, and a
frame-error count above 31 set their flag of WAKE_STAT and raise the channel's wake source; a frame that does not match lowers the count, an
error, or an FD or XL frame without FDTOL, raises it. -/
def Obligations.CanStates : Prop :=
  (∀ (ini : Initiator) (n : Fin 8) (s : State), s.writes ini 0x20 n.val 0x040 = true →
     let r := can s.m.hw n.val
     let after := fun (m : Nat) => if r.mode = 0 ∧ m ≠ 0 then { r with mode := m, integ := true, idle := false } else r
     let done := fun (c : Instr) (m : Nat) (x : CanCh) => Answers c s (fun t =>
       rd t.m.hw 0x20 n.val 0x040 = BitVec.ofNat 32 m ∧ can t.m.hw n.val = x ∧ canKept s t n.val [0x040, oRAW, oSTAT])
     done (.canModeInit ini n) 0 (after 0) ∧ done (.canModeNormal ini n) 1 (after 1) ∧ done (.canModeMonitor ini n) 2 (after 2) ∧
     done (.canModeRestricted ini n) 3 (after 3) ∧ done (.canModeLoopback ini n) 4 (after 4) ∧
     (∀ m : Fin 5, done (.boreq ini n m) m.val { after m.val with recov := r.recov || r.boff }) ∧
     (∀ code : Fin 3, Gives (.canModeRefused ini n code) s (fun h => err h 0x20 n.val 16))) ∧
  (∀ (n : Fin 8) (s : State), s.alive = true →
     let r := can s.m.hw n.val
     let done := fun (c : Instr) (x : CanCh) => Answers c s (fun t => can t.m.hw n.val = x ∧ canKept s t n.val [oRAW, oSTAT])
     let mode := fld (rd s.m.hw 0x20 n.val 0x040) 0 3
     let atIdle := { r with
       mode := mode, idle := true, rxAct := false, defer := none, integ := r.integ || (decide (r.mode = 0) && decide (mode ≠ 0))
       mswin := if r.slpReq = true then some 2 else r.mswin, slpReq := false }
     (domOn s.m.hw (19 + n.val) = true →
       (r.defer = none → done (.canBusIdleApply n) atIdle) ∧
       (∀ l, r.defer = some l → Answers (.canBusIdleApply n) s (fun t => can t.m.hw n.val = atIdle ∧
         (∀ off, 0x400 ≤ off → off < 0x800 →
           cfg t.m.hw 0x20 n.val off = smGet (regReset s.m.hw.straps (pg 0x20 n.val + off)) l (pg 0x20 n.val + off)) ∧
         (∀ a, (a < pg 0x20 n.val + 0x400 ∨ pg 0x20 n.val + 0x800 ≤ a) → cfgA t.m.hw a = cfgA s.m.hw a) ∧
         fld (rd t.m.hw 0x20 n.val oCOMMIT) 16 8 = (fld (rd s.m.hw 0x20 n.val oCOMMIT) 16 8 + 1) % 256))) ∧
     (domOn s.m.hw (19 + n.val) = true → r.integ = true → done (.canIntegrationDone n) { r with integ := false, idle := true }) ∧
     (∀ m, r.mswin = some m → done (.canModeSwitchEnd n) { r with trx := m, mswin := none }) ∧
     (domOn s.m.hw (19 + n.val) = true → r.boff = true → r.recov = true →
       done (.busOffRecoveryDone n) { r with boff := false, recov := false, tec := 0, rxc := 0, idle := true })) ∧
  (∀ (ini : Initiator) (n : Fin 8) (s : State), s.writes ini 0x20 n.val 0x094 = true →
     let r := can s.m.hw n.val
     let done := fun (c : Instr) (v : Nat) (x : CanCh) => Answers c s (fun t =>
       rd t.m.hw 0x20 n.val 0x094 = BitVec.ofNat 32 v ∧ can t.m.hw n.val = x ∧ canKept s t n.val [0x094, oRAW, oSTAT])
     let go := fun (m : Nat) => if r.trx = m ∧ r.mswin = none then { r with slpReq := false } else { r with mswin := some m, slpReq := false }
     done (.canTrxNormal ini n) 0 (go 0) ∧ done (.canTrxSilent ini n) 1 (go 1) ∧
     done (.canTrxSleep ini n) 2 (if (r.trx = 2 ∧ r.mswin = none) ∨ r.mswin = some 2 then r else { r with slpReq := true })) ∧
  (∀ (n : Fin 4) (s : State), s.alive = true →
     let k := n.val
     let asleep := ((can s.m.hw k).trx = 2 ∧ (can s.m.hw k).mswin = none) ∨ (can s.m.hw k).mswin = some 2
     let mode := fld (cfg s.m.hw 0x20 k 0x418) 0 2
     let fec := fld (rd s.m.hw 0x20 k 0x098) 24 8
     asleep →
     (∀ ns, mode = 1 → (min 99 (fld (cfg s.m.hw 0x23 0 0x414) 0 7) + 1) * 500 * 80 ≤ ns * 100 →
       Wakes (.wup n ns) s (fun h => fsUpdate (wakeSource k (canWakeFlag k 0 h)))) ∧
     (∀ ide id dlc data, wufHits s.m.hw k ide id dlc data = true →
       Wakes (.wuf n ide id dlc data) s (fun h => fsUpdate (wakeSource k (canWakeFlag k 1 (setFec k (fec - 1) h))))) ∧
     (2 ≤ mode → 31 ≤ fec → Wakes (.fecw n) s (fun h => fsUpdate (wakeSource k (canWakeFlag k 2 (setFec k (min 255 (fec + 1)) h))))) ∧
     (2 ≤ mode → fec < 31 → Gives (.fecw n) s (fun h => fsUpdate (setFec k (fec + 1) h))) ∧
     (2 ≤ mode → Gives (.wakeDecoderFrame n false false) s (fun h => fsUpdate (setFec k (fec - 1) h))) ∧
     (∀ e fd : Bool, 2 ≤ mode →
       let tol := bit (cfg s.m.hw 0x20 k 0x418) 13
       (fd = true → tol = true → Gives (.wakeDecoderFrame n e fd) s fsUpdate) ∧
       (((fd = true ∧ tol = false) ∨ (fd = false ∧ e = true)) →
         (fec < 31 → Gives (.wakeDecoderFrame n e fd) s (fun h => fsUpdate (setFec k (fec + 1) h))) ∧
         (31 ≤ fec → fec < 255 →
           Wakes (.wakeDecoderFrame n e fd) s (fun h => fsUpdate (wakeSource k (canWakeFlag k 2 (setFec k (fec + 1) h))))))))

/-- CAN_ERROR_DETECTED (R372, R373, R374) in NORMAL or LOOPBACK mode, where the duplicate monitor takes no part: PERR counts, the transmit counter
goes up by 8 for a transmitter and the receive counter by 1 or 8 for a receiver; above 255 the channel is in bus-off, which BOCNT counts, and with CFG.ABOR recovers by itself.

CAN_FRAME_RECEIVED (R353, R358 … R363, R372): of a frame whose entry takes one page, with the ring able to take it, the entry, with the header
of R359 and the payload, joins the ring; the entry count advances and, in NORMAL mode, the receive counter counts down. With CFG.RXEN 0 nothing is
stored. A format that is switched off makes a form error with PXHD, and otherwise a protocol exception (log entry 12). -/
def Obligations.CanErrorsAndReception : Prop :=
  (∀ (n : Fin 8) (lec : Fin 8) (cls : Fin 4) (after : Bool) (s : State), s.alive = true → canOnBus s.m.hw n.val = true →
     let r := can s.m.hw n.val
     (r.mode = 1 ∨ r.mode = 4) → (r.mode = 4 ∨ after = false ∨ 2 ≤ cls.val ∨ (lec ≠ 4 ∧ lec ≠ 5)) →
     let tec := if cls = 0 then r.tec + 8 else r.tec
     let rxc := if cls = 2 then min 255 (r.rxc + 1) else if cls = 3 then min 255 (r.rxc + 8) else r.rxc
     Answers (.canErrorDetected n lec cls after) s (fun t =>
       can t.m.hw n.val = (if 255 < tec then { r with
           tec := tec, rxc := rxc, lec := lec.val, idle := false, rxAct := false, boff := true, recov := bit (cfg s.m.hw 0x20 n.val 0x400) 10 }
         else { r with tec := tec, rxc := rxc, lec := lec.val, idle := false, rxAct := false }) ∧
       fld (rd t.m.hw 0x20 n.val 0x04C) 0 16 = min 0xFFFF (fld (rd s.m.hw 0x20 n.val 0x04C) 0 16 + 1) ∧
       fld (rd t.m.hw 0x20 n.val 0x04C) 16 16 = (let b := fld (rd s.m.hw 0x20 n.val 0x04C) 16 16
         if 255 < tec then min 0xFFFF (b + 1) else b) ∧
       canKept s t n.val [0x04C, oRAW, oSTAT])) ∧
  (∀ (n : Fin 8) (f : CanFrame) (q : Nat) (s : State), s.alive = true → canOnBus s.m.hw n.val = true →
     let r := can s.m.hw n.val
     let on := ((f.fmt = 4 ∨ f.fmt = 5) → bit (cfg s.m.hw 0x20 n.val 0x400) 4 = true) ∧
       (f.fmt = 6 → bit (cfg s.m.hw 0x20 n.val 0x400) 5 = true ∧ n.val < 2)
     r.mode ≠ 4 → f.fmt ≤ 6 →
     (on → bit (cfg s.m.hw 0x20 n.val 0x400) 0 = true → (canPayload f).length ≤ 224 → ringTakesOne s.m.hw 0x20 n.val q →
       Answers (.canFrameReceived n f) s (fun t =>
         let seq := (r.seq + 1) % 65536
         entryStored s t q (canEntry f false seq s.m.hw.frame s.m.hw.tbCopy 1) ∧ (can t.m.hw n.val).seq = seq ∧
         (can t.m.hw n.val).tec = r.tec ∧ (r.mode = 1 → r.rxc ≤ 127 → (can t.m.hw n.val).rxc = r.rxc - 1) ∧
         ((r.mode = 2 ∨ r.mode = 3) → (can t.m.hw n.val).rxc = r.rxc) ∧ evSeen t.m.hw 0x20 n.val 0)) ∧
     (on → bit (cfg s.m.hw 0x20 n.val 0x400) 0 = false → Answers (.canFrameReceived n f) s (fun t =>
       can t.m.hw n.val = { recDown r with idle := false, rxAct := false } ∧ canKept s t n.val [oRAW, oSTAT])) ∧
     (¬ on → bit (cfg s.m.hw 0x20 n.val 0x400) 6 = false → Answers (.canFrameReceived n f) s (fun t =>
       can t.m.hw n.val = { r with integ := true, idle := false, rxAct := false } ∧ canKept s t n.val [oRAW, oSTAT])) ∧
     (¬ on → bit (cfg s.m.hw 0x20 n.val 0x400) 6 = true → Answers (.canFrameReceived n f) s (fun t =>
       can t.m.hw n.val = { canCount r 2 with lec := 2, idle := false, rxAct := false } ∧
       fld (rd t.m.hw 0x20 n.val 0x04C) 0 16 = min 0xFFFF (fld (rd s.m.hw 0x20 n.val 0x04C) 0 16 + 1) ∧
       canKept s t n.val [0x04C, oRAW, oSTAT])))

/-- TXB_LOAD and CAN_TXQ_PUT (R365, R366): an owned page with a sound header passes with its chain to the channel and is a candidate, in its buffer or
at the queue's tail; an occupied buffer, a full queue, a page that is not owned and a bad header are refused by name.

TX_SELECTION (R367) of a channel on the bus that transmits nothing: with ORD the pending buffer of lowest number, otherwise the candidate whose
header wins arbitration, the queue's head among them; a buffer's attempt counts up to 255.

CAN_TX_END and TX_ABORT (R368, R369, R370, R372) of buffer `b`: success ends the entry with RES 1 and lowers the transmit counter; a transmission
that fails is a candidate again, unless an abort waits (RES 2) or one-shot mode ends it (RES 3 or 4); an abort of an entry that waits ends it
with RES 2, one of the entry in transmission waits. An entry that ends returns its page to the free pool. A data phase measures the transmitter
delay (R356).

TX_ABORT of the queue (R369): every entry not in transmission leaves it with LASTRES 2; one in transmission stays, marked for abort. -/
def Obligations.CanTransmission : Prop :=
  (∀ (ini : Initiator) (n : Fin 8) (b : Fin 3) (p : Fin 4096) (s : State),
     let r := can s.m.hw n.val
     let w := BitVec.ofNat 32 (0x21000000 + 256 * p.val)
     let hdr := headerOf s.m.mem p.val
     let mine := owns s.m.hw ini (taskCtx s.m.hw ini) p.val = true
     let bad := headerBad s.m.hw n.val hdr (chainOf s.m.hw p.val).length = true
     let full := (smGet {} r.txb b.val).ent.isSome = true
     (s.writes ini 0x20 n.val (0x060 + 4 * b.val) = true →
       (¬ full → mine → ¬ bad → Gives (.txbLoad ini n b w) s (fun h =>
         let h1 := moveChain p.val (.front 0x20 n.val) h
         setCan h1 n.val { r with
           txb := smPut {} b.val { smGet {} r.txb b.val with ent := some ⟨p.val, hdr⟩, att := 0, abort := false } r.txb })) ∧
       (full → Gives (.txbLoad ini n b w) s (fun h => err h 0x20 n.val 17)) ∧
       (¬ full → ¬ mine → Gives (.txbLoad ini n b w) s (fun h => err h 0x20 n.val 19)) ∧
       (¬ full → mine → bad → Gives (.txbLoad ini n b w) s (fun h => err h 0x20 n.val 18))) ∧
     (s.writes ini 0x20 n.val 0x080 = true →
       (r.queue.length < 64 → mine → ¬ bad → Gives (.canTxqPut ini n w) s (fun h =>
         setCan (moveChain p.val (.front 0x20 n.val) h) n.val { r with queue := r.queue ++ [⟨p.val, hdr⟩] })) ∧
       (64 ≤ r.queue.length → Gives (.canTxqPut ini n w) s (fun h => err h 0x20 n.val 20)) ∧
       (r.queue.length < 64 → ¬ mine → Gives (.canTxqPut ini n w) s (fun h => err h 0x20 n.val 19)) ∧
       (r.queue.length < 64 → mine → bad → Gives (.canTxqPut ini n w) s (fun h => err h 0x20 n.val 18)))) ∧
  (∀ (n : Fin 8) (s : State), s.alive = true → canOnBus s.m.hw n.val = true →
     let r := can s.m.hw n.val
     (r.mode = 1 ∨ r.mode = 4) → txActive r = false →
     let ord := bit (cfg s.m.hw 0x20 n.val 0x400) 8
     let wins := fun (c : Nat × List Nat) => c ∈ txCands r ∧
       ∀ d ∈ txCands r, d.1 ≠ c.1 → (ord = true → c.1 < d.1) ∧ (ord = false → arbKey c.2 < arbKey d.2)
     let done := fun (x : CanCh) => Answers (.txSelection n) s (fun t => can t.m.hw n.val = x ∧ canKept s t n.val [oRAW, oSTAT])
     (∀ b hdr, wins (b, hdr) → b < 3 → let y := smGet {} r.txb b
       done { r with txb := smPut {} b { y with act := true, att := min 255 (y.att + 1) } r.txb, idle := false, dupHit := false }) ∧
     (∀ hdr, wins (3, hdr) → done { r with qAct := true, idle := false, dupHit := false }) ∧
     (txCands r = [] → done r)) ∧
  (∀ (n : Fin 8) (b : Fin 3) (e : TxEntry) (s : State), s.alive = true →
     let r := can s.m.hw n.val
     let y := smGet {} r.txb b.val
     y.ent = some e → (apage s.m.hw e.page).next = none → (apage s.m.hw e.page).own = .front 0x20 n.val →
     let ended := fun (res : Nat) (t : State) => smGet {} (can t.m.hw n.val).txb b.val = { y with ent := none, act := false, res := res, abort := false } ∧
       apage t.m.hw e.page = {} ∧ evSeen t.m.hw 0x20 n.val (if res = 1 then 1 else 2)
     (txNow r = some (b.val, e) → r.dupHit = false →
       (∀ v : Byte, bit (cfg s.m.hw 0x20 n.val 0x400) 1 = false → r.mode = 1 → Answers (.canTxEnd n .ok v) s (fun t =>
         ended 1 t ∧ (can t.m.hw n.val).tec = r.tec - 1 ∧ sameMem s t)) ∧
       (∀ (v : Byte) (k : TxResult), (k = .ok ∨ k = .dataError) → bit (cfg s.m.hw 0x20 n.val 0x410) 7 = true →
         (nfld (e.hdr.getD 0 0) 27 4 = 4 ∨ nfld (e.hdr.getD 0 0) 27 4 = 5 ∨ nfld (e.hdr.getD 0 0) 27 4 = 6) →
         Answers (.canTxEnd n k v) s (fun t => (rd t.m.hw 0x20 n.val 0x090).toNat = v.toNat)) ∧
       (∀ (v : Byte) (k : TxResult), k ≠ .ok →
         (y.abort = true → Answers (.canTxEnd n k v) s (ended 2)) ∧
         (y.abort = false → bit (cfg s.m.hw 0x20 n.val 0x400) 9 = true →
           Answers (.canTxEnd n k v) s (ended (if k = .lost then 3 else 4))) ∧
         (y.abort = false → bit (cfg s.m.hw 0x20 n.val 0x400) 9 = false → Answers (.canTxEnd n k v) s (fun t =>
           smGet {} (can t.m.hw n.val).txb b.val = { y with act := false } ∧ apage t.m.hw e.page = apage s.m.hw e.page)))) ∧
     (∀ ini, s.writes ini 0x20 n.val 0x07C = true →
       (y.act = false → Answers (.txAbortBuffer ini n b) s (ended 2)) ∧
       (y.act = true → Answers (.txAbortBuffer ini n b) s (fun t =>
         smGet {} (can t.m.hw n.val).txb b.val = { y with abort := true } ∧ apage t.m.hw e.page = apage s.m.hw e.page)))) ∧
  (∀ (ini : Initiator) (n : Fin 8) (s : State), s.writes ini 0x20 n.val 0x07C = true →
     let r := can s.m.hw n.val
     Answers (.txAbortQueue ini n) s (fun t =>
       (can t.m.hw n.val).queue = (if r.qAct = true then r.queue.take 1 else []) ∧ (can t.m.hw n.val).qAbort = r.qAct ∧
       (can t.m.hw n.val).txb = r.txb ∧
       (can t.m.hw n.val).lastRes = (if (if r.qAct = true then r.queue.drop 1 else r.queue) = [] then r.lastRes else 2) ∧ sameMem s t))

/-! ## LIN channels and Ethernet ports (chapter 13) -/

/-- The LIN page commands (R392, R399, R400, R401): a MODE is stored for bus idle and a reserved one refused; a WAKE sends a pulse of WUPL within
3 … 50 out of SLEEP on an idle bus, and elsewhere the whole write is refused; SLEEP waits for bus idle; its release opens the switch window at
once.

Bus idle, the switch window's end and the wake detector (R392, R395, R399, R400): with no frame in progress the mode of CTL is in force, any other
than a COMMANDER that stays one ends its schedule, a set that a commit holds for bus idle is applied, and a SLEEP that waits begins; the window
ends in the state it leads to; LIN0 … LIN3 in SLEEP, or on the way into it, detect a wake.

LIN_SLOT_START (R393, R394, R395, R399) of a running schedule whose slot instant has come: a frame still in progress lets the slot wait and pulses
SLIP; otherwise the next entry's slot starts, and the one after it is due SLOT × 100 µs after this slot's instant, a SLOT below 10 acting as 10: an
empty slot, and any slot in SLEEP, sends nothing, a bad entry stops the schedule with SCHBAD, any other is the header in progress. After the last
entry the round ends with its pulse and the first entry comes next. Before its instant no slot starts.

LIN_HEADER (R393, R396): the identifier field gives the frame in progress its protected identifier and parity, a bit error where it is not the one
that the entry sends; where none is in progress the channel takes the entry of the response table that the identifier names, with which it
publishes outside MONITOR. -/
def Obligations.LinStates : Prop :=
  (∀ (ini : Initiator) (n : Fin 16) (s : State),
     let r := lin s.m.hw n.val
     (s.writes ini 0x21 n.val 0x040 = true →
       Gives (.linModeInit ini n) s (fun h => wr h 0x21 n.val 0x040 0) ∧ Gives (.linModeCommander ini n) s (fun h => wr h 0x21 n.val 0x040 1) ∧
       Gives (.linModeResponder ini n) s (fun h => wr h 0x21 n.val 0x040 2) ∧ Gives (.linModeMonitor ini n) s (fun h => wr h 0x21 n.val 0x040 3) ∧
       (∀ code : Fin 4, Gives (.linModeRefused ini n code) s (fun h => err h 0x21 n.val 16)) ∧
       (∀ m : Fin 4, (r.sleep = false → r.cur = none → Answers (.linWakePulse ini n m) s (fun t =>
           rd t.m.hw 0x21 n.val 0x040 = BitVec.ofNat 32 m.val ∧
           lin t.m.hw n.val = { r with pulse := min 50 (max 3 (fld (cfg s.m.hw 0x21 n.val 0x410) 0 8)) } ∧ linKept s t n.val [0x040, oRAW, oSTAT])) ∧
         ((r.sleep = true ∨ r.cur ≠ none) → Gives (.linWakePulse ini n m) s (fun h => err h 0x21 n.val 16)))) ∧
     (s.writes ini 0x21 n.val 0x04C = true →
       Answers (.linSleepRequest ini n) s (fun t => rd t.m.hw 0x21 n.val 0x04C = 1 ∧
         lin t.m.hw n.val = (if r.sleep = true ∨ r.mswin = some true then r else { r with slpReq := true }) ∧
         linKept s t n.val [0x04C, oRAW, oSTAT]) ∧
       Answers (.linSleepRelease ini n) s (fun t => rd t.m.hw 0x21 n.val 0x04C = 0 ∧
         lin t.m.hw n.val = (if r.sleep = true ∨ r.mswin = some true then { r with sleep := false, mswin := some false, slpReq := false }
           else { r with slpReq := false }) ∧ linKept s t n.val [0x04C, oRAW, oSTAT]))) ∧
  (∀ (n : Fin 16) (s : State), s.alive = true →
     let r := lin s.m.hw n.val
     let mode := fld (rd s.m.hw 0x21 n.val 0x040) 0 3
     let done := fun (c : Instr) (x : LinCh) => Answers c s (fun t => lin t.m.hw n.val = x ∧ linKept s t n.val [oRAW, oSTAT])
     let keep := decide (mode = 1) && decide (r.mode = 1)
     let atIdle := { r with
       mode := mode, run := r.run && keep, bad := r.bad && keep, slip := r.slip && keep, idx := if keep = true then r.idx else 0
       mswin := if r.slpReq = true then some true else r.mswin, slpReq := false }
     let round := r.deferRound && r.run && keep
     (r.cur ≠ none → Gives (.linBusIdleApply n) s fsUpdate) ∧
     (domOn s.m.hw (linDom n.val) = true → r.cur = none →
       ((r.defer = none ∨ round = true) → done (.linBusIdleApply n) atIdle) ∧
       (∀ l, r.defer = some l → round = false → Answers (.linBusIdleApply n) s (fun t =>
         lin t.m.hw n.val = { atIdle with defer := none, deferRound := false } ∧
         (∀ off, 0x400 ≤ off → off < 0x800 →
           cfg t.m.hw 0x21 n.val off = smGet (regReset s.m.hw.straps (pg 0x21 n.val + off)) l (pg 0x21 n.val + off)) ∧
         (∀ a, (a < pg 0x21 n.val + 0x400 ∨ pg 0x21 n.val + 0x800 ≤ a) → cfgA t.m.hw a = cfgA s.m.hw a) ∧
         fld (rd t.m.hw 0x21 n.val oCOMMIT) 16 8 = (fld (rd s.m.hw 0x21 n.val oCOMMIT) 16 8 + 1) % 256))) ∧
     (∀ b, r.mswin = some b → done (.linModeSwitchEnd n) { r with mswin := none, sleep := b }) ∧
     (∀ k : Fin 4, k.val = n.val → linOff r = true →
       Wakes (.linWakeDetect k) s (fun h => fsUpdate (wakeSource (4 + k.val) (linWakeFlag k.val h))))) ∧
  (∀ (n : Fin 16) (s : State), s.alive = true → domOn s.m.hw (linDom n.val) = true →
     let r := lin s.m.hw n.val
     let len := fld (cfg s.m.hw 0x21 n.val 0x404) 0 8
     r.mode = 1 → r.run = true →
     ((s.m.hw.now < r.slotAt ∨ r.slip = true) → Gives (.linSlotStart n) s fsUpdate) ∧
     (r.slotAt ≤ s.m.hw.now → r.slip = false →
       (∀ c, r.cur = some c → Answers (.linSlotStart n) s (fun t =>
         lin t.m.hw n.val = { r with slip := true } ∧ evSeen t.m.hw 0x21 n.val 3)) ∧
       (r.cur = none → (r.first = true ∨ len ≤ r.idx) → Answers (.linSlotStart n) s (fun t =>
         (lin t.m.hw n.val).idx = 0 ∧ (lin t.m.hw n.val).first = false ∧ (r.first = false → evSeen t.m.hw 0x21 n.val 2) ∧ sameMem s t)) ∧
       (r.cur = none → r.first = false → r.idx < len → r.defer = none →
         let a := (cfg s.m.hw 0x21 n.val 0x408).toNat / 16 * 16 + 16 * (r.idx + 1)
         let e := rdMem s.m.mem a 16
         let x := { r with idx := r.idx + 1 }
         let next := r.slotAt + max 10 (e / 2 ^ 16 % 2 ^ 16) * 100
         let kind := e / 2 ^ 12 % 4
         let bad := a < 0x20000000 ∨ 0x20200000 < a + 16 ∨ e / 2 ^ 7 % 2 = 1 ∨ e / 2 ^ 14 % 4 ≠ 0 ∨ e / 2 ^ 32 % 2 ^ 32 ≠ 0
         (bad → Answers (.linSlotStart n) s (fun t => lin t.m.hw n.val = { x with run := false, bad := true } ∧ sameMem s t ∧
           (pageOn s.m.hw 0x21 n.val = true → bit (rd t.m.hw 0x21 n.val oERR) 17 = true))) ∧
         (¬ bad → (kind = 3 ∨ linOff r = true) → Answers (.linSlotStart n) s (fun t =>
           lin t.m.hw n.val = { x with slotAt := next } ∧ sameMem s t)) ∧
         (¬ bad → kind ≠ 3 → linOff r = false → Answers (.linSlotStart n) s (fun t =>
           lin t.m.hw n.val = { x with
             slotAt := next, slip := decide (next ≤ s.m.hw.now), cur := some ⟨true, e, none, true, decide (kind = 1 ∨ kind = 2), false⟩ } ∧
           (next ≤ s.m.hw.now → evSeen t.m.hw 0x21 n.val 3) ∧ sameMem s t))))) ∧
  (∀ (n : Fin 16) (pid : Byte) (s : State), s.alive = true → domOn s.m.hw (linDom n.val) = true →
     let r := lin s.m.hw n.val
     let ok := decide (linPid (pid.toNat % 64) = pid.toNat)
     r.mode ≠ 0 → r.sleep = false →
     (∀ c, r.cur = some c → c.pid = none → Answers (.linHeader n pid) s (fun t =>
       lin t.m.hw n.val = { r with cur := some { c with
         pid := some pid.toNat, parity := ok
         bit := decide (pid.toNat ≠ linPid (if c.entry / 2 ^ 12 % 4 = 2 then 0x3C else c.entry % 64)) } } ∧
       linKept s t n.val [oRAW, oSTAT])) ∧
     (r.cur = none →
       let e := rdMem s.m.mem ((cfg s.m.hw 0x21 n.val 0x40C).toNat / 1024 * 1024 + 16 * (pid.toNat % 64)) 16
       let kind := e / 2 ^ 12 % 4
       Answers (.linHeader n pid) s (fun t =>
         lin t.m.hw n.val = { r with
           cur := some ⟨false, if kind = 2 then e - 2 * 2 ^ 12 else e, some pid.toNat, ok, ok && decide (kind = 1) && decide (r.mode ≠ 3), false⟩ } ∧
         linKept s t n.val [oRAW, oSTAT])))

/-- The entries of a LIN channel (R391, R397, R398, R399) while its ring takes one: a frame that completes gives its response with STAT 0, or 3 for a
wrong checksum, 4 for a bit error in its own transmission, 5 for a framing error; a parity error gives 6; a response that is missing or short
gives 1 or 2; TXDTO gives 4; a sync field off by more than 15 % gives 5, and so does a response that the next header cuts (log entry 81). RX_STAT
counts the entries with an error. A response shorter than its entry's length does not complete. -/
def Obligations.LinEntries : Prop :=
  ∀ (n : Fin 16) (q : Nat) (s : State), s.alive = true → domOn s.m.hw (linDom n.val) = true → bit (cfg s.m.hw 0x21 n.val 0x400) 0 = true →
    ringTakesOne s.m.hw 0x21 n.val q →
    let r := lin s.m.hw n.val
    let put := fun (own enh : Bool) (pid stat : Nat) (l : List Byte) (t : State) =>
      entryStored s t q (linEntry own enh ((r.seq + 1) % 65536) pid stat s.m.hw.frame s.m.hw.tbCopy l) ∧
      (lin t.m.hw n.val).seq = (r.seq + 1) % 65536 ∧ evSeen t.m.hw 0x21 n.val 0 ∧
      fld (rd t.m.hw 0x21 n.val 0x048) 16 16 = (let b := fld (rd s.m.hw 0x21 n.val 0x048) 16 16
        if stat = 0 then b else min 0xFFFF (b + 1))
    let stored := fun (own enh : Bool) (pid stat : Nat) (l : List Byte) (t : State) =>
      put own enh pid stat l t ∧ (r.slip = false → (lin t.m.hw n.val).cur = none)
    (∀ c, r.cur = some c →
      (∀ (pid : Nat) (l : List Byte) (sum : Byte) (bitErr framing : Bool), c.pid = some pid → c.parity = true → c.pub = false →
        let good := linSum (linEnh c.entry) pid (l.take (linLen c.entry)) = sum.toNat
        ((c.bit = true ∨ framing = true ∨ linLen c.entry ≤ l.length) → Answers (.linEntryComplete n l sum bitErr framing) s
          (stored false (linEnh c.entry) pid (if c.bit = true then 4 else if framing = true then 5 else if good then 0 else 3)
            (l.take (linLen c.entry)))) ∧
        (c.bit = false → framing = false → l.length < linLen c.entry → Gives (.linEntryComplete n l sum bitErr framing) s fsUpdate)) ∧
      (∀ (pid : Nat) (l : List Byte) (sum : Byte) (bitErr framing : Bool), c.pid = some pid → c.parity = true → c.pub = true →
        Answers (.linEntryComplete n l sum bitErr framing) s
          (stored true (linEnh c.entry) pid (if c.bit = true ∨ bitErr = true then 4 else if framing = true then 5 else 0)
            (if bitErr = true ∨ framing = true then l.take (linLen c.entry) else linData c.entry))) ∧
      (∀ (pid : Nat) (l : List Byte) (sum : Byte) (bitErr framing : Bool), c.pid = some pid → c.parity = false →
        Answers (.linEntryComplete n l sum bitErr framing) s (stored false false pid 6 [])) ∧
      (∀ l, c.parity = true → Answers (.linResponseTimeout n l) s
        (stored c.pub (linEnh c.entry) (c.pid.getD (linOwnPid c.entry)) (if c.bit = true then 4 else if l = [] then 1 else 2)
          (l.take (linLen c.entry)))) ∧
      (∀ l, c.parity = false → Answers (.linResponseTimeout n l) s (stored false false (c.pid.getD 0) 6 [])) ∧
      (r.sleep = false → Answers (.txdto n) s (fun t => evSeen t.m.hw 0x21 n.val 4 ∧
        stored c.pub (linEnh c.entry) (c.pid.getD (linOwnPid c.entry)) 4 [] t)) ∧
      (∀ (p : Nat) (pid : Byte), c.pid = some p → r.mode ≠ 0 → r.sleep = false → Answers (.linHeader n pid) s (fun t =>
        put c.pub (linEnh c.entry) p 5 [] t ∧ ∃ c', (lin t.m.hw n.val).cur = some c' ∧ c'.own = false ∧ c'.pid = some pid.toNat))) ∧
    (r.cur = none → r.sleep = false → Gives (.txdto n) s (fun h => fsUpdate (pulse h 0x21 n.val 4))) ∧
    (∀ t0 : Nat, (r.mode = 2 ∨ r.mode = 3) → r.sleep = false → (∀ c, r.cur = some c → c.pid = none) →
      (linOffRate s.m.hw n.val t0 = true →
        Answers (.linSyncFramingError ⟨n, t0⟩) s (fun t => ∃ pid, pid < 256 ∧ stored false false pid 5 [] t)) ∧
      (linOffRate s.m.hw n.val t0 = false → Gives (.linSyncFramingError ⟨n, t0⟩) s fsUpdate))

/-- The modes of a port (R412, R415): OFF takes the link down and TC10 to SLEEP; a mode other than OFF out of OFF enters WAKING with a WUP in the
configured role; a reserved mode is refused.

TC10 (R412): the requests of TC_CTL in the states that take them, refused with TCREF in the others; a sleep request without idle transmit sets
SLPFAIL, a partner's one is rejected.

TC10 events (R412, R413, R415, R426): the partner's request is kept or, with auto-accept, answered; a handshake ends in SLEEP with its switch
window, or fails back to NORMAL with SLPFAIL; WUP in SLEEP and WUR in NORMAL are wakes; a link that comes up ends WAKING; one that is lost goes
down; the switch window ends. -/
def Obligations.EthStates : Prop :=
  (∀ (ini : Initiator) (n : Fin 2) (s : State), s.writes ini 0x22 n.val 0x040 = true →
     let r := eth s.m.hw n.val
     let woken := fun (m : Word) (t : State) => rd t.m.hw 0x22 n.val 0x040 = m ∧ (eth t.m.hw n.val).tc = 3 ∧ (eth t.m.hw n.val).sent = 4 ∧
       (eth t.m.hw n.val).mswin = false ∧ (eth t.m.hw n.val).role = fld (cfg s.m.hw 0x22 n.val 0x404) 0 1 ∧ sameMem s t
     let stays := fun (m : Word) (t : State) => rd t.m.hw 0x22 n.val 0x040 = m ∧ (eth t.m.hw n.val).tc = r.tc ∧
       (eth t.m.hw n.val).link = r.link ∧ sameMem s t
     Answers (.ethModeOff ini n) s (fun t => rd t.m.hw 0x22 n.val 0x040 = 0 ∧ (eth t.m.hw n.val).tc = 2 ∧ (eth t.m.hw n.val).link = false ∧
       (eth t.m.hw n.val).preq = false ∧ (eth t.m.hw n.val).act = none ∧ sameMem s t) ∧
     ((ethMode s.m.hw n.val = 0 ∧ r.tc = 2) → Answers (.ethModeRun ini n) s (woken 1) ∧ Answers (.ethModeLoopback ini n) s (woken 2)) ∧
     (¬ (ethMode s.m.hw n.val = 0 ∧ r.tc = 2) → Answers (.ethModeRun ini n) s (stays 1) ∧ Answers (.ethModeLoopback ini n) s (stays 2)) ∧
     Gives (.ethModeRefused ini n) s (fun h => fsUpdate (err h 0x22 n.val 16))) ∧
  (∀ (ini : Initiator) (n : Fin 2) (s : State), s.writes ini 0x22 n.val 0x06C = true →
     let r := eth s.m.hw n.val
     let done := fun (c : Instr) (x : EthP) => Answers c s (fun t => eth t.m.hw n.val = x ∧ ethKept s t n.val [oRAW, oSTAT])
     let refused := fun (c : Instr) => Gives c s (fun h => fsUpdate (err h 0x22 n.val 16))
     (r.tc = 0 → r.link = true → idleTx r = true → done (.tc10ReqSleep ini n) { r with tc := 1, sent := 1 }) ∧
     (r.tc = 0 → (r.link = false ∨ idleTx r = false) → Gives (.tc10ReqSleep ini n) s (fun h => fsUpdate
       (pulse (wr h 0x22 n.val 0x070 (setBit (rd h 0x22 n.val 0x070) 2 true)) 0x22 n.val 6))) ∧
     (r.tc ≠ 0 → refused (.tc10ReqSleep ini n)) ∧
     (r.tc = 2 → done (.tc10ReqWake ini n) { r with
       tc := 3, mswin := false, sent := 4, role := fld (cfg s.m.hw 0x22 n.val 0x404) 0 1 }) ∧
     (r.tc = 0 → r.link = true → done (.tc10ReqWake ini n) { r with sent := 5 }) ∧
     (r.tc ≠ 2 → ¬ (r.tc = 0 ∧ r.link = true) → refused (.tc10ReqWake ini n)) ∧
     (r.tc = 0 → r.preq = true → idleTx r = true → done (.tc10ReqAccept ini n) { r with tc := 1, preq := false, sent := 2 }) ∧
     (r.tc = 0 → r.preq = true → idleTx r = false → done (.tc10ReqAccept ini n) { r with preq := false, sent := 3 }) ∧
     (r.tc = 0 → r.preq = true → done (.tc10ReqReject ini n) { r with preq := false, sent := 3 }) ∧
     ((r.tc ≠ 0 ∨ r.preq = false) → refused (.tc10ReqAccept ini n) ∧ refused (.tc10ReqReject ini n)) ∧
     (∀ code : BitVec 3, (code = 0 ∨ 5 ≤ code.toNat ∨ code = 1 ∧ r.tc ≠ 0 ∨ code = 2 ∧ r.tc ≠ 2 ∧ ¬ (r.tc = 0 ∧ r.link = true) ∨
         (code = 3 ∨ code = 4) ∧ (r.tc ≠ 0 ∨ r.preq = false)) → refused (.tc10ReqRefused ini n code))) ∧
  (∀ (n : Fin 2) (s : State), s.alive = true →
     let r := eth s.m.hw n.val
     let on := domOn s.m.hw (29 + n.val) = true
     let done := fun (c : Instr) (x : EthP) => Answers c s (fun t => eth t.m.hw n.val = x ∧ ethKept s t n.val [oRAW, oSTAT])
     (on → r.tc = 0 → r.link = true → bit (cfg s.m.hw 0x22 n.val 0x408) 0 = false → done (.tc10PartnerSleepRequest n) { r with preq := true }) ∧
     (on → r.tc = 0 → r.link = true → bit (cfg s.m.hw 0x22 n.val 0x408) 0 = true → idleTx r = true →
       done (.tc10PartnerSleepRequest n) { r with tc := 1, preq := false, sent := 2 }) ∧
     (on → r.tc = 0 → r.link = true → bit (cfg s.m.hw 0x22 n.val 0x408) 0 = true → idleTx r = false →
       done (.tc10PartnerSleepRequest n) { r with preq := false, sent := 3 }) ∧
     (r.tc = 1 → r.act = none → done (.tc10HandshakeDone n) { r with tc := 2, link := false, mswin := true }) ∧
     (r.tc = 1 → s.m.hw.nsc.st ≠ 3 → Answers (.tc10HandshakeFail n) s (fun t => eth t.m.hw n.val = { r with tc := 0 } ∧
       bit (rd t.m.hw 0x22 n.val 0x070) 2 = true ∧ evSeen t.m.hw 0x22 n.val 6 ∧ ethKept s t n.val [0x070, oRAW, oSTAT])) ∧
     (r.tc = 1 → s.m.hw.nsc.st ≠ 3 → Answers (.tc10SleepTimeout n) s (fun t => eth t.m.hw n.val = { r with tc := 0 } ∧
       bit (rd t.m.hw 0x22 n.val 0x070) 2 = true ∧ evSeen t.m.hw 0x22 n.val 6 ∧ ethKept s t n.val [0x070, oRAW, oSTAT])) ∧
     (r.tc = 0 → r.preq = true → done (.tc10SleepTimeout n) { r with preq := false, sent := 3 }) ∧
     (r.tc = 2 → bit (cfg s.m.hw 0x22 n.val 0x408) 1 = true → (n = 0 ∨ domOn s.m.hw 30 = true) →
       Wakes (.tc10WupReceived n) s (fun h => fsUpdate
         (if n = 0 then wakeSource 8 (ethWakeFlag 0 h) else nscWake 9 (ethWakeFlag 1 h)))) ∧
     (r.tc = 0 → on → Wakes (.tc10WurReceived n) s (fun h => fsUpdate (nscWake (8 + n.val) (tcWur n.val h)))) ∧
     (∀ sqi : BitVec 3, on → (r.tc = 3 ∨ r.tc = 0) → ethMode s.m.hw n.val ≠ 0 → r.q0 = [] → r.q1 = [] → r.bond = [] →
       done (.ethLinkUp n sqi) { r with tc := 0, link := true, sqi := sqi.toNat }) ∧
     (r.link = true → r.tc ≠ 1 → r.act = none → done (.ethLinkLoss n) { r with link := false }) ∧
     (r.link = true → r.tc = 1 → r.act = none → s.m.hw.nsc.st ≠ 3 → Answers (.ethLinkLoss n) s (fun t =>
       eth t.m.hw n.val = { r with link := false, tc := 0 } ∧ bit (rd t.m.hw 0x22 n.val 0x070) 2 = true ∧ evSeen t.m.hw 0x22 n.val 6 ∧
       ethKept s t n.val [0x070, oRAW, oSTAT])) ∧
     (r.link = false → Gives (.ethLinkLoss n) s fsUpdate) ∧
     (r.mswin = true → done (.ethModeSwitchEnd n) { r with mswin := false }))

/-- ETH_FRAME_RECEIVED (R406, R407, R408, R411): a frame with a good FCS and a length within 60 … MAXLEN, here of one page, joins the ring as the entry
of R407; one with a bad FCS or length counts in RX_ERR and an overrun in RX_STAT, and nothing is stored. The time stamp is the port time at the frame's
SFD (R410, R568).

The transmit queues of a port (R409, R410): an owned page with a length that fits joins its queue and goes into transmission when the port is
free to send; the refusals are by name; a frame that ends returns its page with LASTRES 1 and, with TXTS set in its header, its time stamp and tag; an abort ends the entries not in transmission. -/
def Obligations.EthFrames : Prop :=
  (∀ (n : Fin 2) (l : List Byte) (ns : Int) (q : Nat) (s : State), s.alive = true → domOn s.m.hw (29 + n.val) = true → ethMode s.m.hw n.val = 1 →
     let r := eth s.m.hw n.val
     r.link = true →
     (60 ≤ l.length → l.length ≤ maxLen s.m.hw n.val → l.length ≤ 224 → bondTakes s.m.hw n.val l = false →
       bit (cfg s.m.hw 0x22 n.val 0x400) 0 = true → ringTakesOne s.m.hw 0x22 n.val q →
       Answers (.ethFrameReceived n l true false ns) s (fun t =>
         entryStored s t q (ethEntry ((r.seq + 1) % 65536) s.m.hw.frame s.m.hw.tbCopy (ethStamp s.m.hw l.length ns) l) ∧
         (eth t.m.hw n.val).seq = (r.seq + 1) % 65536 ∧ evSeen t.m.hw 0x22 n.val 0)) ∧
     Gives (.ethFrameReceived n l false false ns) s (fun h => fsUpdate (incSat h 0x22 n.val 0x04C 0 16 1)) ∧
     ((l.length < 60 ∨ maxLen s.m.hw n.val < l.length) → bondTakes s.m.hw n.val l = false →
       Gives (.ethFrameReceived n l true false ns) s (fun h => fsUpdate (incSat h 0x22 n.val 0x04C 16 16 1))) ∧
     (∀ ok, Gives (.ethFrameReceived n l ok true ns) s (fun h => fsUpdate (pulse (incSat h 0x22 n.val 0x048 16 16 1) 0x22 n.val 9)))) ∧
  (∀ (ini : Initiator) (n : Fin 2) (p : Fin 4096) (s : State),
     let r := eth s.m.hw n.val
     let w := BitVec.ofNat 32 (0x21000000 + 256 * p.val)
     let hdr := headerOf s.m.mem p.val
     let len := hdr.getD 2 0 % 4096
     let mine := owns s.m.hw ini (taskCtx s.m.hw ini) p.val = true
     let fits := 14 ≤ len ∧ len ≤ maxLen s.m.hw n.val ∧ ethPages len ≤ (chainOf s.m.hw p.val).length
     (∀ q : Fin 2, s.writes ini 0x22 n.val (0x050 + 4 * q.val) = true →
       let l := if q = 0 then r.q0 else r.q1
       (l.length < 32 → mine → fits → Answers (.ethTxqPut ini n q w) s (fun t =>
         (if q = 0 then (eth t.m.hw n.val).q0 else (eth t.m.hw n.val).q1) = l ++ [⟨p.val, hdr⟩] ∧
         (ethSends s.m.hw n.val = false → (eth t.m.hw n.val).act = r.act) ∧
         (ethSends s.m.hw n.val = true → r.act = none → r.bond = [] → r.q0 = [] → r.q1 = [] → (eth t.m.hw n.val).act = some q.val) ∧
         sameMem s t)) ∧
       (32 ≤ l.length → Gives (.ethTxqPut ini n q w) s (fun h => err h 0x22 n.val 19)) ∧
       (l.length < 32 → ¬ mine → Gives (.ethTxqPut ini n q w) s (fun h => err h 0x22 n.val 17)) ∧
       (l.length < 32 → mine → ¬ fits → Gives (.ethTxqPut ini n q w) s (fun h => err h 0x22 n.val 18))) ∧
     (∀ v : BitVec 2, s.writes ini 0x22 n.val 0x05C = true → Answers (.ethTxAbort ini n v) s (fun t =>
       (eth t.m.hw n.val).q0 = (if v.getLsbD 0 = true then (if r.act = some 0 then r.q0.take 1 else []) else r.q0) ∧
       (eth t.m.hw n.val).q1 = (if v.getLsbD 1 = true then (if r.act = some 1 then r.q1.take 1 else []) else r.q1) ∧ sameMem s t)) ∧
     (∀ (q : Fin 2) (e : TxEntry) (rest : List TxEntry) (ns : Int), s.alive = true → r.act = some q.val → ethQ r q.val = e :: rest →
       ethMode s.m.hw n.val ≠ 2 → (apage s.m.hw e.page).next = none → Answers (.ethTxEnd n ns) s (fun t =>
         ethQ (eth t.m.hw n.val) q.val = rest ∧ (eth t.m.hw n.val).lastRes = 1 ∧ apage t.m.hw e.page = {} ∧ evSeen t.m.hw 0x22 n.val 1 ∧
         sameMem s t ∧
         (e.hdr.getD 0 0 / 2 ^ 25 % 2 = 1 →
           let ts := ethStamp s.m.hw (ethSent s.m e).length ns
           (rd t.m.hw 0x22 n.val 0x060).toNat = ts % 2 ^ 32 ∧ (rd t.m.hw 0x22 n.val 0x064).toNat = ts / 2 ^ 32 % 2 ^ 32 ∧
           (rd t.m.hw 0x22 n.val 0x068).toNat = e.hdr.getD 5 0 % 2 ^ 16 ∧ evSeen t.m.hw 0x22 n.val 4))))

/-! ## Network sleep (chapter 14) -/

/-- NEED and KEEP (R419, R420, R422, R430): set and clear act on the bits of NEED; the first need clears AWAKE_T and LIMIT and wakes the coordinator; the last
bit that clears begins the hold time and AWAKE_T; a keep is honoured for a member in AWAKE and PREP while LIMIT is 0, and for no member sets KEEPREF.

The commit point (R423, R424, R425), PREP_T × 10 ms after the entry into PREP and not before: with every member ready the coordinator is in
SWITCHING and each CAN and LIN member that is not asleep or on its way has a sleep request; with a member that is not ready the sequence is
aborted, ABORT pulses and the coordinator is AWAKE, a new hold time beginning.

The sequence of the coordinator (R422, R426, R427, R428, R430): HOLD_T ms after the hold instant, and not before, AWAKE leads to PREP; a wake whose
flag is set and that is enabled aborts PREP, latches in SWITCHING and, in ASLEEP with the rule of CFG, leads to AWAKE; it waits while PD18 is not
ON; the end of the switch leads to ASLEEP or, latched, to AWAKE; AWAKE_T counts a second where one has passed, and LIMIT is set when it reaches
its bound.

The transceiver fail-safe (R431, R432): a kick with its key reloads a running count, another key sets KICKBAD; at the expiry, and not
before the count's full time less 10 %, every transceiver whose domain is ON is in SLEEP, the flag of FS_STAT is set and an enabled coordinator is ASLEEP. -/
def Obligations.NetworkSleep : Prop :=
  (∀ (ini : Initiator) (s : State),
     (∀ w : BitVec 16, s.writes ini 0x23 0 0x044 = true →
       ((need s.m.hw ≠ 0 ∨ w = 0) → Gives (.needSet ini w) s (fun h => wr h 0x23 0 0x044 (BitVec.ofNat 32 (need h ||| w.toNat)))) ∧
       (need s.m.hw = 0 → w ≠ 0 → s.m.hw.waits = [] → Answers (.needSet ini w) s (fun t =>
         t.m.hw.nsc.limit = false ∧ sameMem s t ∧
         t.m.hw.nsc.st = (if s.m.hw.nsc.st = 2 ∨ s.m.hw.nsc.st = 4 then 1 else s.m.hw.nsc.st) ∧
         (s.m.hw.nsc.st = 3 → t.m.hw.nsc.latch = true) ∧
         ((s.m.hw.nsc.st = 0 ∨ s.m.hw.nsc.st = 1) → need t.m.hw = w.toNat ∧ fld (rd t.m.hw 0x23 0 0x054) 0 16 = 0)))) ∧
     (∀ w : BitVec 16, s.writes ini 0x23 0 0x048 = true → Answers (.needClr ini w) s (fun t =>
       (∀ j, j < 16 → (need t.m.hw).testBit j = ((need s.m.hw).testBit j && !w.getLsbD j)) ∧
       t.m.hw.nsc = (if need s.m.hw ≠ 0 ∧ need t.m.hw = 0 then { s.m.hw.nsc with holdAt := s.m.hw.timebase, awFrom := s.m.hw.timebase }
         else s.m.hw.nsc) ∧
       t = s.withHw (fun h => { h with regs := t.m.hw.regs, nsc := t.m.hw.nsc }) ∧ sameRegsBut s.m.hw t.m.hw [pg 0x23 0 + 0x044])) ∧
     (∀ w : Word, s.writes ini 0x23 0 0x04C = true →
       let i := fld w 24 5
       (i ∈ members s.m.hw → s.m.hw.nsc.limit = false → s.m.hw.nsc.st = 1 →
         Gives (.keep ini w) s (fun h => setNsc h { h.nsc with keep := (i, fld w 0 16), holdAt := h.timebase })) ∧
       (i ∈ members s.m.hw → s.m.hw.nsc.limit = false → s.m.hw.nsc.st = 2 →
         Answers (.keep ini w) s (fun t => t.m.hw.nsc = { s.m.hw.nsc with keep := (i, fld w 0 16), st := 1, holdAt := s.m.hw.timebase } ∧ evSeen t.m.hw 0x23 0 2)) ∧
       (i ∈ members s.m.hw → (s.m.hw.nsc.limit = true ∨ (s.m.hw.nsc.st ≠ 1 ∧ s.m.hw.nsc.st ≠ 2)) → Gives (.keep ini w) s id) ∧
       (i ∉ members s.m.hw → Gives (.keep ini w) s (fun h => err h 0x23 0 17)))) ∧
  (∀ s : State, s.alive = true → domOn s.m.hw 18 = true → s.m.hw.nsc.st = 2 →
     let due := s.m.hw.nsc.prepAt + max 1 (fld (cfg s.m.hw 0x23 0 0x408) 24 8) * 10000
     (s.m.hw.timebase < due → Gives .commitPoint s fsUpdate) ∧
     (due ≤ s.m.hw.timebase → (members s.m.hw).all (memberReady s.m.hw) = true → Answers .commitPoint s (fun t =>
       t.m.hw.nsc.st = 3 ∧ t.m.hw.nsc.latch = false ∧ sameMem s t ∧
       (∀ i, i < 8 → i ∈ members s.m.hw → domOn s.m.hw (19 + i) = true → memberAsleep s.m.hw i = false → (can s.m.hw i).mswin ≠ some 2 →
         (can t.m.hw i).slpReq = true) ∧
       ∀ i, i < 16 → 8 + i ∈ members s.m.hw → domOn s.m.hw (linDom i) = true → (lin s.m.hw i).sleep = false → (lin s.m.hw i).mswin ≠ some true →
         (lin t.m.hw i).slpReq = true)) ∧
     (due ≤ s.m.hw.timebase → (members s.m.hw).all (memberReady s.m.hw) = false → Answers .commitPoint s (fun t =>
       t.m.hw.nsc = { s.m.hw.nsc with
         st := 1, holdAt := s.m.hw.timebase, fsFrom := t.m.hw.nsc.fsFrom, fsLoaded := t.m.hw.nsc.fsLoaded } ∧
       sameMem s t ∧ evSeen t.m.hw 0x23 0 2 ∧
       fld (rd t.m.hw 0x23 0 0x05C) 0 16 = min 0xFFFF (fld (rd s.m.hw 0x23 0 0x05C) 0 16 + 1)))) ∧
  (∀ s : State, s.alive = true →
     let n := s.m.hw.nsc
     let at18 := domOn s.m.hw 18 = true
     let tb := s.m.hw.timebase
     let led := fun (c : Instr) (st : Nat) => s.m.hw.waits = [] → Answers c s (fun t => t.m.hw.nsc.st = st ∧ sameMem s t)
     let hold := n.holdAt + fld (cfg s.m.hw 0x23 0 0x408) 0 16 * 1000
     (at18 → n.st = 1 → need s.m.hw = 0 → hold ≤ tb →
       Gives .nscHoldExpiry s (fun h => fsUpdate (setNsc h { h.nsc with st := 2, prepAt := h.timebase }))) ∧
     ((n.st ≠ 1 ∨ need s.m.hw ≠ 0 ∨ tb < hold) → Gives .nscHoldExpiry s fsUpdate) ∧
     (∀ src : Fin 16,
       let acts := bit (cfg s.m.hw 0x23 0 0x410) src.val = true ∨ 14 ≤ src.val
       let wakes := src = 14 ∨ bit (cfg s.m.hw 0x23 0 0x400) 1 = true
       (nscFlag s.m.hw src.val = false → Gives (.nscWake src) s fsUpdate) ∧
       (nscFlag s.m.hw src.val = true →
         (domOn s.m.hw 18 = false →
           Gives (.nscWake src) s (fun h => fsUpdate { h with nsc := { h.nsc with wakes := h.nsc.wakes ++ [src.val] } })) ∧
         (at18 → ¬ acts → Gives (.nscWake src) s fsUpdate) ∧
         (at18 → acts →
           (n.st = 2 → led (.nscWake src) 1) ∧
           (n.st = 3 → Answers (.nscWake src) s (fun t => t.m.hw.nsc.st = 3 ∧ t.m.hw.nsc.latch = true ∧ sameMem s t)) ∧
           (n.st = 4 → wakes → led (.nscWake src) 1) ∧ (n.st = 4 → ¬ wakes → led (.nscWake src) 4) ∧
           ((n.st = 0 ∨ n.st = 1) → Gives (.nscWake src) s fsUpdate)))) ∧
     (at18 → n.st = 3 → (members s.m.hw).all (memberAsleep s.m.hw) = true →
       led .nscSwitchEnd (if n.latch = true then 1 else 4)) ∧
     ((n.st ≠ 3 ∨ (members s.m.hw).all (memberAsleep s.m.hw) = false) → Gives .nscSwitchEnd s fsUpdate) ∧
     (at18 → (n.st = 1 ∨ n.st = 2) → need s.m.hw = 0 →
       (n.awFrom + 1000000 ≤ tb → Answers .awakeTTick s (fun t =>
         let bound := min 64800 (max 1 (fld (cfg s.m.hw 0x23 0 0x40C) 0 16))
         let v := min 0xFFFF (fld (rd s.m.hw 0x23 0 0x054) 0 16 + 1)
         fld (rd t.m.hw 0x23 0 0x054) 0 16 = v ∧ t.m.hw.nsc.limit = (n.limit || decide (bound ≤ v)) ∧ t.m.hw.nsc.st = n.st ∧
         t.m.hw.nsc.awFrom = n.awFrom + 1000000 ∧ sameMem s t)) ∧
       (tb < n.awFrom + 1000000 → Gives .awakeTTick s fsUpdate))) ∧
  (∀ s : State,
     (∀ (ini : Initiator) (key : Byte), s.writes ini 0x23 0 0x060 = true →
       (key = 0xA5 → s.m.hw.nsc.fsFrom.isSome = true →
         Gives (.fsKick ini key) s (fun h => { h with nsc := { h.nsc with fsFrom := some h.now } })) ∧
       (key = 0xA5 → s.m.hw.nsc.fsFrom = none → Gives (.fsKick ini key) s id) ∧
       (key ≠ 0xA5 → Gives (.fsKick ini key) s (fun h => err h 0x23 0 16))) ∧
     (s.alive = true → s.m.hw.nsc.fsFrom = none → Gives .failSafeExpiry s fsUpdate) ∧
     (∀ f, s.alive = true → s.m.hw.nsc.fsFrom = some f → s.m.hw.now < f + fsTime s.m.hw * 900 / 1000 → Gives .failSafeExpiry s fsUpdate) ∧
     (∀ f, s.alive = true → s.m.hw.nsc.fsFrom = some f → f + fsTime s.m.hw * 900 / 1000 ≤ s.m.hw.now → Answers .failSafeExpiry s (fun t =>
       (∀ i, i < 8 → domOn s.m.hw (19 + i) = true → (can t.m.hw i).trx = 2 ∧ (can t.m.hw i).mswin = none) ∧
       (∀ i, i < 16 → domOn s.m.hw (linDom i) = true → (lin t.m.hw i).sleep = true ∧ (lin t.m.hw i).cur = none) ∧
       (∀ i, i < 2 → domOn s.m.hw (29 + i) = true → (eth t.m.hw i).tc = 2 ∧ ethMode t.m.hw i = 0) ∧
       bit (rd t.m.hw 0x23 0 0x064) 0 = true ∧
       (bit (cfg s.m.hw 0x23 0 0x400) 0 = true → domOn s.m.hw 18 = true → t.m.hw.nsc.st = 4) ∧ sameMem s t)))

/-! ## Power domains and the Plinth (chapter 15) -/

/-- DOMAIN_ENTRY_START of a request that a condition of its row refuses (R443), with nothing else waiting: REQ returns to the present state, REFUSED becomes 1,
REFUSE_CNT counts up to 0xFFFF, REFUSE_WHO names the condition's type and instance with ABORT 0, and the source REFUSE of the PWR page pulses; the domain keeps
its state, and every other domain and register stays. -/
def Obligations.RefusedEntry : Prop :=
  ∀ (s : State) (d : Nat) (t0 : PwrState) (ty inst : Nat), s.alive = true → s.m.hw.pwr.cur = none → s.m.hw.pwr.singles = [⟨d, t0, false⟩] →
    t0 ≠ .on → 1 ≤ d → d ≤ 44 → refuser s.m d = some (ty, inst) → s.m.hw.pwr.sets = [] →
    Answers .domainEntryStart s (fun t =>
      dom t.m.hw d = { dom s.m.hw d with req := (dom s.m.hw d).state, refused := true } ∧ (∀ k, k ≠ d → dom t.m.hw k = dom s.m.hw k) ∧
      fld (rd t.m.hw 2 0 (0x900 + 4 * d)) 0 16 = min 0xFFFF (fld (rd s.m.hw 2 0 (0x900 + 4 * d)) 0 16 + 1) ∧
      rd t.m.hw 2 0 (0xA00 + 4 * d) = BitVec.ofNat 32 (ty * 0x100 + inst) ∧ bit (rd t.m.hw 2 0 oSTAT) 1 = true ∧
      t = s.withHw (fun h => { h with regs := t.m.hw.regs, doms := t.m.hw.doms, pwr := { h.pwr with singles := [], gdom := d } }) ∧
      sameRegsBut s.m.hw t.m.hw [pg 2 0 + (0x900 + 4 * d), pg 2 0 + (0xA00 + 4 * d), pg 2 0 + oSTAT])

/-- A write of REQ for a domain other than PD00 while no other request waits (R440, R441): an entry joins the queue and REQ keeps reading the present
state until step 1 has passed; a request that makes no change leaves REQ reading the present state; an exit begins at once with BUSY, after
PD44 where the domain returns from OFF (R511); ON before the clamp instant ends the entry of its domain, with nothing counted (R444).

DOMAIN_ENTRY_START (R442 steps 1 and 2, R445) with a single request at the front of the sequencer's queue: an entry that no condition of its row
refuses, whose core is free, sets BUSY, makes REQ read the target and becomes the change in progress; on a MEAS page it abandons the calibration (R93). Where the core
is not free yet, step 1 waits.

DOMAIN_ENTRY_COMPLETE into RET (R442 steps 3 to 7): the domain takes STATE and REQ RET, BUSY clears, its contents stay and the sequencer is free; a
core's domain completes once its core is free. PD18 keeps the timebase and the RTC of the clamp instant (R474), and the gate of the Bond page
does not stay closed (R590); the banks drop their new FIREs (R196), and the parking copy is taken and the position counts clear (R214, R152), as
`clampOut` says.

DOMAIN_ENTRY_ABORT (R444) while no other request and no access waits: BUSY clears, REQ returns to the present state, REFUSE_CNT counts, REFUSE_WHO
names the condition with ABORT, REFUSED is set and the REFUSE source of the PWR page pulses. -/
def Obligations.DomainEntry : Prop :=
  (∀ (ini : Initiator) (d : Fin 45) (s : State), d ≠ 0 → s.writes ini 2 0 (0x800 + 4 * d.val) = true →
     s.m.hw.pwr.singles = [] → s.m.hw.pwr.sets = [] →
     let st := (dom s.m.hw d).state
     let begins := fun (k : Nat) (l : List SeqChange) (h : Hw) =>
       { setDom h k { dom h k with busy := true, req := .on } with
         pwr := { h.pwr with singles := l, cur := some ⟨k, .on, false⟩, gdom := k, lp := false } }
     let same := fun h : Hw => setDom h d { dom h d with req := (dom h d).state }
     (s.m.hw.pwr.cur = none →
       (st = .on →
         Gives (.domainRequestRet ini d) s (fun h => { h with pwr := { h.pwr with singles := [⟨d, .ret, false⟩] } }) ∧
         Gives (.domainRequestOn ini d) s same) ∧
       (st ≠ .off → Gives (.domainRequestOff ini d) s (fun h => { h with pwr := { h.pwr with singles := [⟨d, .off, false⟩] } })) ∧
       (st ≠ .on → Gives (.domainRequestRet ini d) s same) ∧ (st = .off → Gives (.domainRequestOff ini d) s same) ∧
       (st = .ret ∨ st = .off ∧ (d.val = 44 ∨ domOn s.m.hw 44 = true) → Gives (.domainRequestOn ini d) s (begins d [])) ∧
       (st = .off → d.val ≠ 44 → domOn s.m.hw 44 = false → Gives (.domainRequestOn ini d) s (begins 44 [⟨d, .on, false⟩]))) ∧
     (∀ t fromSet, s.m.hw.pwr.cur = some ⟨d, t, fromSet⟩ → t ≠ .on → st = .on →
       Wakes (.domainRequestOn ini d) s (fun h =>
         { setDom h d { dom h d with busy := false, req := .on } with pwr := { h.pwr with cur := none } }))) ∧
  (∀ (s : State) (d : Nat) (t : PwrState) (b : Bool) (r : List SeqChange), s.alive = true → s.m.hw.pwr.cur = none →
     s.m.hw.pwr.singles = ⟨d, t, b⟩ :: r → t ≠ .on → refuser s.m d = none →
     (coreWaits s.m.hw d = false →
       Gives .domainEntryStart s (fun h =>
         let h1 := { h with pwr := { h.pwr with singles := r } }
         let h2 := setDom h1 d { dom h1 d with busy := true, req := t }
         let h3 := if 31 ≤ d ∧ d ≤ 34 then calAbandon (d - 31) h2 else h2
         { h3 with pwr := { h3.pwr with cur := some ⟨d, t, b⟩, gdom := d } })) ∧
     (coreWaits s.m.hw d = true → Gives .domainEntryStart s id)) ∧
  (∀ (s : State) (d : Nat) (b : Bool), s.alive = true → s.m.hw.pwr.cur = some ⟨d, .ret, b⟩ → refuser s.m d = none →
     coreWaits s.m.hw d = false → s.m.hw.pwr.singles = [] → s.m.hw.pwr.sets = [] → 1 ≤ d → d ≤ 44 →
     Gives .domainEntryComplete s (fun h =>
       let h1 := { h with pwr := { h.pwr with cur := none } }
       let h2 :=
         if d = 18 then { h1 with pwr := { h1.pwr with t0 := h.timebase, c0 := h.pwr.rtc } }
         else if d = 30 then { h1 with bond := { h1.bond with closed := false } }
         else if d = 40 ∨ d = 41 then clampOut d h1 else h1
       fsUpdate (setDom h2 d { dom h2 d with state := .ret, req := .ret, busy := false }))) ∧
  (∀ (s : State) (d : Nat) (t : PwrState) (b : Bool) (ty inst : Nat), s.alive = true → s.m.hw.pwr.cur = some ⟨d, t, b⟩ → t ≠ .on →
     refuser s.m d = some (ty, inst) → s.m.hw.pwr.singles = [] → s.m.hw.pwr.sets = [] → s.m.hw.waits = [] →
     Gives .domainEntryAbort s (fun h =>
       let h1 := setDom h d { dom h d with busy := false, req := (dom h d).state }
       let h2 := incSat { h1 with pwr := { h1.pwr with cur := none } } 2 0 (0x900 + 4 * d) 0 16 1
       let h3 := wr h2 2 0 (0xA00 + 4 * d) (BitVec.ofNat 32 (0x10000 + ty * 0x100 + inst))
       let h4 := pulse (setDom h3 d { dom h3 d with refused := true }) 2 0 1
       { h4 with pwr := { h4.pwr with gdom := d } }))

/-- DOMAIN_ENTRY_COMPLETE into OFF of a memory domain (R442, R438): the domain takes STATE OFF, what its memory held is open, and every byte
of the other memories stays.

DOMAIN_EXIT_COMPLETE of a memory domain or the NV domain (R446) while no access waits: the domain is ON, BUSY clears, REQ reads ON and
the sequencer is free; its memory is as it was. -/
def Obligations.DomainExitAndMemory : Prop :=
  (∀ (s : State) (d : Nat) (b : Bool), s.alive = true → s.m.hw.pwr.cur = some ⟨d, .off, b⟩ → refuser s.m d = none →
     13 ≤ d → d ≤ 16 → s.m.hw.pwr.singles = [] → s.m.hw.pwr.sets = [] →
     Answers .domainEntryComplete s (fun t =>
       (dom t.m.hw d).state = .off ∧ (dom t.m.hw d).busy = false ∧ t.m.hw.pwr.cur = none ∧
       (∀ k, k ≠ d → dom t.m.hw k = dom s.m.hw k) ∧
       (∀ a, memDomain a = d → rdByte t.m.mem a = Config.lostByte (smGet 0 s.m.mem.lost d + 1) a) ∧
       (∀ a, memDomain a ≠ d → rdByte t.m.mem a = rdByte s.m.mem a))) ∧
  (∀ (s : State) (d : Nat) (b : Bool), s.alive = true → s.m.hw.pwr.cur = some ⟨d, .on, b⟩ → (13 ≤ d ∧ d ≤ 16 ∨ d = 44) →
     s.m.hw.pwr.singles = [] → s.m.hw.pwr.sets = [] → s.m.hw.waits = [] → s.m.hw.nsc.todo = [] →
     Gives .domainExitComplete s (fun h =>
       fsUpdate { setDom h d { dom h d with state := .on, busy := false, req := .on } with pwr := { h.pwr with cur := none } }))

/-- GROUP_COMMAND (R447): unless a group runs (STATUS.GRUN) or TGT is 0b11, the domains of GRP_LO and GRP_HI other than PD00 join the queue as one group,
in the exit order for ON and the entry order otherwise, and the sequencer goes on; otherwise ERR_STAT[16] CMDREF is set and nothing is
queued.

PLINTH_WAKE (R450): the source's bit of WSTAT is set with the WAKE source of the PWR page; where WS_EN enables the source (source 17 always), the
domains of its applied wake set and PD18 are requested ON in the exit order, after an entry of one of them is aborted (R444). A number that is no
Plinth source does nothing.

LOW_POWER_ENTRY (R458): the regulator enters low-power mode where the applied LPCFG.EN is 1 and every domain but PD00 is in RET or OFF with BUSY = 0,
else nothing changes. RTC_ALARM (R457): the armed alarm whose time has come clears EN of ALARM_HI and raises wake source 13, else nothing
changes.

PLINTH_BROWN_OUT (R459, R460). In low-power mode a load above I_LPLIM switches the retention rails off: every domain in RET reads OFF afterwards and
every other domain keeps its state. Below V_PBO the Plinth resets (R491): every domain is ON, RST_CAUSE gains the brown-out flag. PBO records the
cause in either case, unless an earlier record is valid, and keeps it over the reset. Outside low-power mode a load alone does
nothing. -/
def Obligations.PlinthEvents : Prop :=
  (∀ (ini : Initiator) (tgt : BitVec 2) (stop : Bool) (s : State), s.writes ini 2 0 0x04C = true →
     ((s.m.hw.pwr.sets.any (fun g => g.group) = false ∧ tgt ≠ 3) →
       Gives (.groupCommand ini tgt stop) s (fun h =>
         let l := (if tgt = 0 then exitOrder else entryOrder).filter
           (fun d => ((maskDomains (rd h 2 0 0x044) (rd h 2 0 0x048)).filter (fun d => decide (d ≠ 0))).contains d)
         seqRun { h with pwr := { h.pwr with
           sets := h.pwr.sets ++ [⟨l, if tgt = 0 then .on else if tgt = 1 then .ret else .off, true, stop⟩] } })) ∧
     ((s.m.hw.pwr.sets.any (fun g => g.group) = true ∨ tgt = 3) → Gives (.groupCommand ini tgt stop) s (fun h => err h 2 0 16))) ∧
  (∀ (src : Fin 18) (s : State), s.alive = true →
     (src.val ∈ plinthSources →
       Wakes (.plinthWake src) s (fun h =>
         let h1 := level (wr h 2 0 0x050 (setBit (rd h 2 0 0x050) src.val true)) 2 0 0 true
         if bit (cfg h1 2 0 0x404) src.val = true ∨ src.val = 17 then
           let ds := 18 :: maskDomains (cfg h1 2 0 (0x480 + 8 * src.val)) (cfg h1 2 0 (0x484 + 8 * src.val))
           wakeDomains ds (abortEntry h1 ds (wakeWho src.val).1 (wakeWho src.val).2)
         else h1)) ∧
     (src.val ∉ plinthSources → Gives (.plinthWake src) s id)) ∧
  (∀ s : State, s.alive = true →
     let ready := bit (cfg s.m.hw 2 0 0x400) 0 = true ∧ ∀ d, 1 ≤ d → d ≤ 44 → (dom s.m.hw d).state ≠ .on ∧ (dom s.m.hw d).busy = false
     let due := bit (rd s.m.hw 2 0 0x06C) 31 = true ∧ fld (rd s.m.hw 2 0 0x06C) 0 16 * 2 ^ 32 + (rd s.m.hw 2 0 0x068).toNat ≤ s.m.hw.pwr.rtc
     (ready → Gives .lowPowerEntry s (fun h => { h with pwr := { h.pwr with lp := true } })) ∧ (¬ ready → Gives .lowPowerEntry s id) ∧
     (due → Wakes .rtcAlarm s (fun h => wakeSource 13 (wr h 2 0 0x06C (setBit (rd h 2 0 0x06C) 31 false)))) ∧ (¬ due → Gives .rtcAlarm s id)) ∧
  (∀ s : State, s.alive = true →
     let kept := rd s.m.hw 2 0 0x054
     (s.m.hw.pwr.lp = true → s.m.hw.waits = [] →
       Answers (.plinthBrownOut true none) s (fun t =>
         (∀ d, 1 ≤ d → d ≤ 44 → (dom t.m.hw d).state = if (dom s.m.hw d).state = .ret then .off else (dom s.m.hw d).state) ∧
         rd t.m.hw 2 0 0x054 = if bit kept 31 then kept else 0x80000001)) ∧
     (∀ (load : Bool) (straps : Byte) (trimOk : Bool),
       Answers (.plinthBrownOut load (some (straps, trimOk))) s (fun t =>
         t.alive = true ∧ (∀ d, 1 ≤ d → d ≤ 44 → (dom t.m.hw d).state = .on) ∧ rd t.m.hw 1 0 0x080 = rd s.m.hw 1 0 0x080 ||| 2 ∧
         rd t.m.hw 2 0 0x054 = if bit kept 31 then kept else if load = true ∧ s.m.hw.pwr.lp = true then 0x80000003 else 0x80000002)) ∧
     (s.m.hw.pwr.lp = false → Gives (.plinthBrownOut true none) s id) ∧ Gives (.plinthBrownOut false none) s id)

/-- The wake target port (R451 … R454). An address byte that matches selects the port and raises source 12; another deselects it. A pointer
byte sets the pointer. A data byte clears bits of WSTAT, collects bits of WREQ or, at another pointer, goes unused, and the pointer goes on by 1; a read returns the byte
register and the pointer goes on by 1. A STOP ends the transfer; the WREQ bits written are requested ON with PD18. -/
def Obligations.WakeTargetPort : Prop :=
  ∀ s : State, s.alive = true →
    (∀ (addr : BitVec 7) (read : Bool),
      (bit (cfg s.m.hw 2 0 0x408) 31 = true → addr.toNat = fld (cfg s.m.hw 2 0 0x408) 0 7 →
        Wakes (.wtpAddressMatch addr read) s (fun h => wakeSource 12 { h with pwr := { h.pwr with wtpSel := true, wtpRead := read } })) ∧
      ((bit (cfg s.m.hw 2 0 0x408) 31 = false ∨ addr.toNat ≠ fld (cfg s.m.hw 2 0 0x408) 0 7) →
        Gives (.wtpAddressMatch addr read) s (fun h => { h with pwr := { h.pwr with wtpSel := false } }))) ∧
    (s.m.hw.pwr.wtpSel = true → s.m.hw.pwr.wtpRead = false →
      (∀ v : Byte, Gives (.wtpPointerWrite v) s (fun h => { h with pwr := { h.pwr with wtpPtr := v.toNat } })) ∧
      (∀ v : Byte, 8 ≤ s.m.hw.pwr.wtpPtr → s.m.hw.pwr.wtpPtr ≤ 11 →
        Gives (.wtpDataWrite v) s (fun h => { h with pwr := { h.pwr with
          wreqLo := h.pwr.wreqLo ||| BitVec.ofNat 32 (v.toNat * 2 ^ (8 * (h.pwr.wtpPtr - 8))), wtpPtr := h.pwr.wtpPtr + 1 } })) ∧
      (∀ v : Byte, 12 ≤ s.m.hw.pwr.wtpPtr → s.m.hw.pwr.wtpPtr ≤ 13 →
        Gives (.wtpDataWrite v) s (fun h => { h with pwr := { h.pwr with
          wreqHi := h.pwr.wreqHi ||| BitVec.ofNat 32 (v.toNat * 2 ^ (8 * (h.pwr.wtpPtr - 12))), wtpPtr := h.pwr.wtpPtr + 1 } })) ∧
      (∀ v : Byte, 4 ≤ s.m.hw.pwr.wtpPtr → s.m.hw.pwr.wtpPtr ≤ 6 →
        Gives (.wtpDataWrite v) s (fun h =>
          let h1 := relevel 2 0 (wr h 2 0 0x050 (rd h 2 0 0x050 &&&
            ~~~(BitVec.ofNat 32 (v.toNat * 2 ^ (8 * (h.pwr.wtpPtr - 4))) &&& 0x3FFFF)))
          { h1 with pwr := { h1.pwr with wtpPtr := (h1.pwr.wtpPtr + 1) % 256 } })) ∧
      (∀ v : Byte, s.m.hw.pwr.wtpPtr ∉ [4, 5, 6, 8, 9, 10, 11, 12, 13] →
        Gives (.wtpDataWrite v) s (fun h => { h with pwr := { h.pwr with wtpPtr := (h.pwr.wtpPtr + 1) % 256 } }))) ∧
    (s.m.hw.pwr.wtpSel = true → s.m.hw.pwr.wtpRead = true →
      Gives .wtpDataRead s (fun h =>
        { h with reply := wtpByte h h.pwr.wtpPtr, pwr := { h.pwr with wtpPtr := (h.pwr.wtpPtr + 1) % 256 } })) ∧
    (let ds := (maskDomains s.m.hw.pwr.wreqLo s.m.hw.pwr.wreqHi).filter (fun d => decide (d ≠ 0))
     (ds = [] → Gives .wtpStop s (fun h => { h with pwr := { h.pwr with wtpSel := false, wreqLo := 0, wreqHi := 0 } })) ∧
     (ds ≠ [] → Wakes .wtpStop s (fun h =>
       wakeDomains (18 :: ds) { h with pwr := { h.pwr with wtpSel := false, wreqLo := 0, wreqHi := 0 } })))

/-! ## Clocks and resets (chapters 16, 17) -/

/-- Clock events (R471, R473, R484): a PLL that loses lock while a domain is ON clears REFOK of a page that lives and requests a controller reset; the
oscillator measurement reports its length with VALID; a debug-port reset withdraws the accesses of the debug port.

The Plinth watchdogs (R485, R486, R495): a kick by a core with the key restarts its count, anything else sets KICKBAD; an expiry of a core with a
verified entry sets its WDG_STAT bit and resets it: it runs from BOOT_ENTRY with its reset values, and CRST counts with the watchdog's cause. With
the bit still set and SYS's escalation on, an expiry requests a controller reset; before the time, less the 3 % of CK_LPO, nothing happens. -/
def Obligations.ClocksAndWatchdogs : Prop :=
  (∀ s : State, s.alive = true →
     (domOn s.m.hw 18 = true → Answers .pllLossOfLock s (fun t =>
       t.m.hw.rst.ctrl = true ∧ t.m.hw.rst.causes.testBit 6 = true ∧ bit (rd t.m.hw 3 0 0x040) 16 = false)) ∧
     (∀ v : BitVec 24, clkRuns s.m.hw 3 = true →
       Gives (.lpoCalibration v) s (fun h => wr h 3 0 0x044 (BitVec.ofNat 32 (0x80000000 + v.toNat)))) ∧
     Gives .debugPortReset s (fun h => { h with hung := h.hung.filter (fun e => decide (e.ini ≠ .debug)) })) ∧
  (∀ (c : Fin 12) (s : State),
     let h := s.m.hw
     (∀ key : Byte, s.writes (.core c) 3 0 0x050 = true →
       (key = 0x5A → Gives (.wdgKick (.core c) key) s (fun h => setOlk h c.val { olk h c.val with wdgAt := h.now })) ∧
       (key ≠ 0x5A → Gives (.wdgKick (.core c) key) s (fun h => err h 3 0 16))) ∧
     (∀ (ini : Initiator) (key : Byte), s.writes ini 3 0 0x050 = true → (∀ k, ini ≠ .core k) → Gives (.wdgKick ini key) s (fun h => err h 3 0 16)) ∧
     let due := max 1 (fld (cfg h 3 0 (0x440 + 4 * c.val)) 0 16) * 970 ≤ h.now - (olk h c.val).wdgAt
     (¬ due → Gives (.watchdogExpiry c) s id) ∧
     (s.alive = true → bit (cfg h 3 0 (0x440 + 4 * c.val)) 31 = true → domOn h (1 + c.val) = true → watched (olk h c.val) = true → due →
       bit (rd h 3 0 0x054) c.val = true → bit (cfg h 1 0 0x404) 0 = true → Answers (.watchdogExpiry c) s (fun t =>
         t.m.hw.rst.ctrl = true ∧ t.m.hw.rst.causes.testBit 7 = true ∧ (∀ k, olk t.m.hw k = olk h k) ∧ sameMem s t)) ∧
     (s.alive = true → bit (cfg h 3 0 (0x440 + 4 * c.val)) 31 = true → domOn h (1 + c.val) = true → watched (olk h c.val) = true → due →
       bit (rd h 1 0 0x090) 0 = true →
       bit (rd h 3 0 0x054) c.val = false → Answers (.watchdogExpiry c) s (fun t =>
         olk t.m.hw c.val = { phase := .run, pc := rd h 1 0 0x090 &&& 0xFFFFFFFE, wdgAt := h.now } ∧
         bit (rd t.m.hw 3 0 0x054) c.val = true ∧ fld (rd t.m.hw 1 0 (0x0A0 + 4 * c.val)) 0 2 = 1 ∧
         fld (rd t.m.hw 1 0 (0x0A0 + 4 * c.val)) 8 8 = min 0xFF (fld (rd h 1 0 (0x0A0 + 4 * c.val)) 8 8 + 1) ∧
         (∀ k, k ≠ c.val → olk t.m.hw k = olk h k) ∧ sameMem s t)))

/-- Reset requests (R492): RST_CTL with its key requests a controller reset or resets of the cores of its mask, which are a controller reset while no
entry is verified; the debug port requests a controller reset.

CORE_RESET (R494, R495, R496): a requested reset of a core with a verified entry starts it at BOOT_ENTRY in supervisor mode, stops the context it held,
counts in CRST with its cause, and leaves every other core and all memory as they are.

CONTROLLER_RESET (R491, R493, R500) while no access of the debug port hangs: RST_CAUSE collects the causes, every domain but PD00 is ON with its REFUSED
flag kept, every core is in reset, no command of the sequencer waits, the NV store keeps its bytes, and a die that ran normally holds; the fallback pattern to come is that of the record read before this reset
(R503).

POWER_ON_RESET and MODULE_SUPPLY_LOSS (R491, R493, R497, R633): the loss of the supply stops the module; only the NV store keeps its bytes. A power-on
reset latches the straps and RST_CAUSE.POR, and leaves every domain ON, every core in reset, every applied configuration but HI6 at its reset
value, and the image verification to come. With the supply standing and the operand rail it is the brown-out of the Plinth rail. -/
def Obligations.Resets : Prop :=
  (∀ s : State,
     (∀ ini, s.writes ini 1 0 0x09C = true →
       Gives (.rstCtlController ini) s (fun h => { h with rst := { h.rst with ctrl := true, causes := Nat.lor h.rst.causes 16 } }) ∧
       (∀ mask : BitVec 12, bit (rd s.m.hw 1 0 0x090) 0 = true → Answers (.rstCtlCore ini mask) s (fun t =>
         (∀ c, c < 12 → (if mask.getLsbD c = true then (c, 2) ∈ t.m.hw.rst.cores else ∀ k, (c, k) ∈ t.m.hw.rst.cores ↔ (c, k) ∈ s.m.hw.rst.cores)) ∧
         t.m.hw.rst.ctrl = s.m.hw.rst.ctrl ∧ sameMem s t)) ∧
       (∀ mask : BitVec 12, bit (rd s.m.hw 1 0 0x090) 0 = false → mask ≠ 0 → Answers (.rstCtlCore ini mask) s (fun t =>
         t.m.hw.rst.ctrl = true ∧ t.m.hw.rst.causes.testBit 8 = true ∧ t.m.hw.rst.cores = s.m.hw.rst.cores ∧ sameMem s t))) ∧
     (s.alive = true →
       Gives .debugResetRequest s (fun h => { h with rst := { h.rst with ctrl := true, causes := Nat.lor h.rst.causes 32 } }))) ∧
  (∀ (c : Fin 12) (cause : Nat) (s : State), s.alive = true → s.m.hw.rst.ctrl = false → bit (rd s.m.hw 1 0 0x090) 0 = true → cause < 4 →
     s.m.hw.rst.cores.find? (fun e => decide (e.1 = c.val)) = some (c.val, cause) →
     Answers (.coreReset c) s (fun t =>
       olk t.m.hw c.val = { phase := .run, pc := rd s.m.hw 1 0 0x090 &&& 0xFFFFFFFE, wdgAt := s.m.hw.now } ∧
       (∀ n, (olk s.m.hw c.val).ctx = some n → (ctx t.m.hw n).st = .stopped) ∧
       fld (rd t.m.hw 1 0 (0x0A0 + 4 * c.val)) 0 2 = cause ∧ (∀ e ∈ t.m.hw.rst.cores, e.1 ≠ c.val) ∧
       (∀ k, k ≠ c.val → olk t.m.hw k = olk s.m.hw k) ∧ sameMem s t)) ∧
  (∀ (trimOk : Bool) (s : State), s.alive = true → s.m.hw.rst.ctrl = true → s.m.hw.hung.all (fun e => decide (e.ini ≠ .debug)) = true →
     holdTime s.m.hw ≠ 0 → s.m.hw.cry.run = none → s.m.hw.acc.learn = none →
     Answers (.controllerReset trimOk) s (fun t =>
       t.m.hw.rst.ctrl = false ∧ t.m.hw.rst.cores = [] ∧ t.m.hw.rst.verify = true ∧
       rd t.m.hw 1 0 0x080 = rd s.m.hw 1 0 0x080 ||| BitVec.ofNat 32 s.m.hw.rst.causes ∧
       (∀ d, 1 ≤ d → d ≤ 44 → dom t.m.hw d = { refused := (dom s.m.hw d).refused }) ∧ (∀ c, c < 12 → olk t.m.hw c = {}) ∧
       t.m.hw.rst.fbUse = (if outState s.m.hw = 0 then s.m.hw.rst.fb else s.m.hw.rst.fbUse) ∧
       t.m.hw.pwr.cur = none ∧ t.m.hw.pwr.singles = [] ∧ t.m.hw.pwr.sets = [] ∧ t.m.hw.hung = [] ∧
       (∀ a, a < 0x01000000 → rdByte t.m.mem a = rdByte s.m.mem a) ∧
       (∀ g, g < 4 → (feed t.m.hw g).mode = if (feed s.m.hw g).mode = .normal then .hold else (feed s.m.hw g).mode))) ∧
  (∀ s : State,
     (s.alive = true → s.m.hw.cry.run = none → s.m.hw.acc.learn = none → Answers .moduleSupplyLoss s (fun t => t.alive = false ∧ t.pending = s.pending ∧
       ∀ a, a < 0x01000000 → rdByte t.m.mem a = rdByte s.m.mem a)) ∧
     (∀ (straps : Byte) (rail trimOk : Bool), s.alive = true → rail = true → Answers (.powerOnReset straps rail trimOk) s (fun t =>
       t.alive = true ∧ (∀ d, dom t.m.hw d = {}) ∧ rd t.m.hw 1 0 0x080 = rd s.m.hw 1 0 0x080 ||| 2 ∧
       rd t.m.hw 2 0 0x054 = if bit (rd s.m.hw 2 0 0x054) 31 then rd s.m.hw 2 0 0x054 else 0x80000002)) ∧
     (∀ (straps : Byte) (rail trimOk : Bool), (s.alive = false ∨ rail = false) → (s.alive = true → s.m.hw.cry.run = none ∧ s.m.hw.acc.learn = none) →
       Answers (.powerOnReset straps rail trimOk) s (fun t =>
       t.alive = true ∧ t.m.hw.straps.toNat = straps.toNat ∧ rd t.m.hw 1 0 0x080 = 1 ∧ t.m.hw.rst.verify = true ∧ t.m.hw.frame = 0 ∧
       (∀ d, dom t.m.hw d = {}) ∧ (∀ c, olk t.m.hw c = {}) ∧ (s.alive = false → t.m.mem = s.m.mem) ∧
       (∀ a, a < 0x01000000 → rdByte t.m.mem a = rdByte s.m.mem a) ∧
       ∀ a, a ≠ pg 0x50 0 + 0x400 → cfgA t.m.hw a = regReset t.m.hw.straps a)))

/-- IMAGE_VERIFICATION_DONE (R506, R507, R509): with an image that passes, every core starts at the entry of BOOT_ENTRY and RESULT reads 1; with none,
RESULT reads 2 and the cores stay in reset.

Output hold, fallback and release (R500, R502, R504): when the hold time has passed every die in HOLD is in FALLBACK; the flash phase alternates while a
die is in FALLBACK, where a phase is over, and a FLASH channel takes its next phase after its PHOFF; before its time either does nothing; OUT_REL is kept for the next boundary while outputs are held. -/
def Obligations.ImageAndOutputHold : Prop :=
  (∀ s : State, s.alive = true → s.m.hw.rst.verify = true →
     (∀ k, (bootPick s.m.mem).1 = some k → Answers .imageVerificationDone s (fun t =>
       rd t.m.hw 1 0 0x090 = entryWord s.m.mem k ∧ fld (rd t.m.hw 1 0 0x08C) 0 2 = 1 ∧ t.m.hw.rst.verify = false ∧ sameMem s t ∧
       ∀ c, c < 12 → olk t.m.hw c = { phase := .run, pc := entryWord s.m.mem k &&& 0xFFFFFFFE, wdgAt := s.m.hw.now })) ∧
     ((bootPick s.m.mem).1 = none → Gives .imageVerificationDone s (fun h =>
       wrF { h with rst := { h.rst with verify := false } } 1 0 0x08C 0 2 2))) ∧
  (∀ s : State,
     (s.alive = true → outState s.m.hw = 1 → s.m.hw.rst.holdAt + holdTime s.m.hw * 95 / 100 ≤ s.m.hw.now → Answers .outputHoldEnd s (fun t =>
       (∀ g, g < 4 → (feed t.m.hw g).mode = if (feed s.m.hw g).mode = .hold then .fallback else (feed s.m.hw g).mode) ∧ sameMem s t)) ∧
     ((outState s.m.hw ≠ 1 ∨ s.m.hw.now < s.m.hw.rst.holdAt + holdTime s.m.hw * 95 / 100) → Gives .outputHoldEnd s id) ∧
     ((anyFallback s.m.hw = false ∨ s.m.hw.now < s.m.hw.rst.flashAt + flashLen s.m.hw * 95 / 100) → Gives .fallbackFlashToggle s id) ∧
     (s.alive = true → anyFallback s.m.hw = true → s.m.hw.rst.flashAt + flashLen s.m.hw * 95 / 100 ≤ s.m.hw.now →
       Answers .fallbackFlashToggle s (fun t =>
       t.m.hw.rst.flashOn = !s.m.hw.rst.flashOn ∧ t.m.hw.rst.flashAt = s.m.hw.now ∧ sameMem s t ∧ ∀ n, n < 96 →
         (if (feed s.m.hw (hswGroup n)).mode = .fallback ∧ fbMode s.m.hw n = 2 then
           (hsw t.m.hw n).flashOff = s.m.hw.rst.flashOn ∧
           ((hsw s.m.hw n).st = .on ∨ (hsw s.m.hw n).st = .off ∨ (hsw s.m.hw n).st = .limit → (hsw t.m.hw n).pend = true ∧
             (hsw t.m.hw n).edgeAt = s.m.hw.now + dieF s.m.hw 0x10 n 0x404 0 16)
         else hsw t.m.hw n = hsw s.m.hw n))) ∧
     (∀ ini, s.writes ini 1 0 0x098 = true →
       (outState s.m.hw ≠ 0 → Gives (.outRel ini) s (fun h => { h with rst := { h.rst with rel := true } })) ∧
       (outState s.m.hw = 0 → Gives (.outRel ini) s id)))

/-! ## Access and immobiliser (chapter 18) -/

/-- The start of a poll (R522, R528): POLL_CMD with slots and antennas begins a poll of the enrolled slots of its mask, which ends at once where there are
none, is refused with CMDREF without slots or antennas and with BUSY while a poll or a learn runs; the lowest pending touch starts its poll in the
same way. A poll's attempt draws a new challenge of eight bytes, and its telegram lasts SYNC × 0.5 ms and 15.36 ms.

RESPONSE_WINDOW_END (R523, R524, R525), 14 ms after the telegram and not before, for slot `k`, with a further slot to visit: one valid answer accepts the slot and two are a double answer, an invalid
one is reported, carrier sense repeats the attempt up to the retries and then fails, silence is no answer, or an antenna fault where every
antenna of the poll failed. The last slot, or an acceptance under FIRST, ends the poll. -/
def Obligations.AccessPolls : Prop :=
  (∀ (s : State),
     (∀ (ini : Initiator) (slots ant : Byte) (pas : Bool), s.writes ini 0x40 0 0x044 = true →
       let cause := if pas = true then 3 else 1
       let l := (List.range 8).filter (fun k => slots.getLsbD k && (slot s.m.hw k).en)
       (accBusy s.m.hw = true → Gives (.pollCmd ini slots ant pas) s (fun h => err h 0x40 0 17)) ∧
       (accBusy s.m.hw = false → (slots = 0 ∨ ant = 0) → Gives (.pollCmd ini slots ant pas) s (fun h => err h 0x40 0 16)) ∧
       (accBusy s.m.hw = false → slots ≠ 0 → ant ≠ 0 → l ≠ [] → Gives (.pollCmd ini slots ant pas) s (fun h =>
         { h with acc := { h.acc with poll := some { cause := cause, cap := 0, ant := ant.toNat, slots := l } } })) ∧
       (accBusy s.m.hw = false → slots ≠ 0 → ant ≠ 0 → l = [] → Answers (.pollCmd ini slots ant pas) s (fun t =>
         t.m.hw.acc.poll = none ∧ rd t.m.hw 0x40 0 0x048 = 0 ∧ evSeen t.m.hw 0x40 0 0 ∧
         fld (rd t.m.hw 0x40 0 0x04C) 24 8 = (fld (rd s.m.hw 0x40 0 0x04C) 24 8 + 1) % 256))) ∧
     (∀ c : Fin 8, s.alive = true → domOn s.m.hw 42 = true → accBusy s.m.hw = false → bit (rd s.m.hw 0x40 0 0x07C) c.val = true →
       (∀ k, k < c.val → bit (rd s.m.hw 0x40 0 0x07C) k = false) →
       let l := (List.range 8).filter (fun k => bit (cfg s.m.hw 0x40 0 0x40C) (16 + k) && (slot s.m.hw k).en)
       let ant := if c.val < 4 then fld (cfg s.m.hw 0x40 0 0x410) (8 * c.val) 8 else fld (cfg s.m.hw 0x40 0 0x414) (8 * (c.val - 4)) 8
       l ≠ [] → Gives .touchPollStart s (fun h => let h1 := wrF h 0x40 0 0x07C c.val 1 0
         { h1 with acc := { h1.acc with poll := some { cause := 2, cap := c.val, ant := ant, slots := l } } })) ∧
     (∀ p, s.alive = true → s.m.hw.acc.poll = some p → domOn s.m.hw 42 = true → p.chal = none → Gives .pollAttemptStart s (fun h =>
       { h with
         freeCnt := h.freeCnt + 1
         acc := { h.acc with poll := some { p with
           chal := some ((List.range 8).map (Config.randByte h.freeCnt)), txEnd := h.now + lfLen h, faults := 0 }, lfClear := h.now + lfLen h + 2000 } }))) ∧
  (∀ (p : Poll) (chal : List Byte) (k : Nat) (rest : List Nat) (s : State), s.alive = true → s.m.hw.acc.poll = some p → p.chal = some chal →
     p.slots = k :: rest →
     (s.m.hw.now < p.txEnd + 14000 → ∀ l cs, Gives (.responseWindowEnd l cs) s id) ∧
     (p.txEnd + 14000 ≤ s.m.hw.now →
     let ended := fun (code aux : Nat) (logs : List (List Byte)) => { p with
       slots := rest, tries := 0, chal := none, faults := 0, out := p.out + code * 2 ^ (4 * k), logs := logs
       rssi := if code = 1 ∨ code = 2 then p.rssi + aux * 2 ^ (8 * k) else p.rssi
       imm := if (code = 1 ∨ code = 2) ∧ (slot s.m.hw k).immo = true then p.imm ++ [k] else p.imm }
     let goesOn := fun (l : List Telegram) (cs : Bool) (q : Poll) (src : Nat) => rest ≠ [] → Answers (.responseWindowEnd l cs) s (fun t =>
       t.m.hw.acc.poll = some q ∧ (src ≠ 0 → evSeen t.m.hw 0x40 0 src) ∧ sameMem s t)
     let dry := p.ant ≠ 0 ∧ Nat.land p.ant p.faults = p.ant
     (∀ g cs, answerReason s.m.hw k chal p.ant g = 0 → bit (cfg s.m.hw 0x40 0 0x408) 4 = false → goesOn [g] cs (ended 1 g.aux.toNat p.logs) 1) ∧
     (∀ g g2 cs, answerReason s.m.hw k chal p.ant g = 0 → answerReason s.m.hw k chal p.ant g2 = 0 → bit (cfg s.m.hw 0x40 0 0x408) 4 = false →
       goesOn [g, g2] cs (ended 2 g.aux.toNat p.logs) 1) ∧
     (∀ b cs, b.type ≠ 0x52 → answerReason s.m.hw k chal p.ant b ≠ 0 →
       goesOn [b] cs (ended 5 0 (if p.logs.length < 4 then
         p.logs ++ [payload b ++ [BitVec.ofNat 8 k, BitVec.ofNat 8 (answerReason s.m.hw k chal p.ant b)]] else p.logs)) 3) ∧
     (p.tries < min 3 (fld (cfg s.m.hw 0x40 0 0x408) 0 2) → goesOn [] true { p with tries := p.tries + 1, chal := none } 0) ∧
     (min 3 (fld (cfg s.m.hw 0x40 0 0x408) 0 2) ≤ p.tries → goesOn [] true (ended 4 0 p.logs) 2) ∧
     (dry → goesOn [] false (ended 6 0 p.logs) 0) ∧ (¬ dry → goesOn [] false (ended 3 0 p.logs) 0) ∧
     (∀ g cs, answerReason s.m.hw k chal p.ant g = 0 → (rest = [] ∨ bit (cfg s.m.hw 0x40 0 0x408) 4 = true) →
       Answers (.responseWindowEnd [g] cs) s (fun t => t.m.hw.acc.poll = none ∧
         rd t.m.hw 0x40 0 0x048 = BitVec.ofNat 32 (p.out + 2 ^ (4 * k)) ∧ evSeen t.m.hw 0x40 0 0 ∧ evSeen t.m.hw 0x40 0 1))))

/-- Antenna faults, button telegrams and the listening receiver (R515, R516, R521, R524, R526, R535): a fault of an antenna of the telegram that runs
sets its flag; a telegram of an enrolled button slot with a right MAC and a counter within the window is accepted and its counter stored, another is
logged with its reason, and one that comes while the receiver does not listen, or within a response window, is not decoded by itself; the wake word
raises source 16; the listening time of 200 ms ends. -/
def Obligations.AccessReceiver : Prop :=
  ∀ s : State, s.alive = true →
    (∀ (p : Poll) (a : Fin 8) (short : Bool), s.m.hw.acc.poll = some p → lfTx s.m.hw = true → p.ant.testBit a.val = true →
      Answers (.antennaFault a short) s (fun t =>
        bit (rd t.m.hw 0x40 0 0x074) (if short = true then 8 + a.val else a.val) = true ∧
        t.m.hw.acc = { s.m.hw.acc with poll := some { p with faults := p.faults ||| 2 ^ a.val } })) ∧
    (∀ (a : Fin 8) (short : Bool), lfTx s.m.hw = false → Gives (.antennaFault a short) s id) ∧
    (∀ t0 : Telegram, (t0.type ≠ 0x52 ∨ listens s.m.hw = false ∨ inWindow s.m.hw = true) → Gives (.buttonTelegram t0) s id) ∧
    (∀ t0 : Telegram, t0.type = 0x52 → listens s.m.hw = true → inWindow s.m.hw = false →
      (buttonSlot s.m.hw t0 = none → Answers (.buttonTelegram t0) s (fun t =>
        rd t.m.hw 0x40 0 0x058 = t0.tid ∧ fld (rd t.m.hw 0x40 0 0x05C) 4 3 = 1 ∧ evSeen t.m.hw 0x40 0 3 ∧
        t.m.hw.acc.slots = s.m.hw.acc.slots ∧ sameMem s t)) ∧
      (∀ k, buttonSlot s.m.hw t0 = some k →
        let r := slot s.m.hw k
        let fresh := r.cnt < t0.cnt.toNat ∧ t0.cnt.toNat ≤ r.cnt + max 1 (fld (cfg s.m.hw 0x40 0 0x408) 8 12)
        (r.btn = true → t0.mac.take 8 = buttonMac r.key t0 → fresh → Answers (.buttonTelegram t0) s (fun t =>
          (slot t.m.hw k).cnt = t0.cnt.toNat ∧ (slot t.m.hw k).tid = r.tid ∧ evSeen t.m.hw 0x40 0 4)) ∧
        (r.btn = false → Gives (.buttonTelegram t0) s (accLog t0 5 k)) ∧
        (r.btn = true → t0.mac.take 8 ≠ buttonMac r.key t0 → Gives (.buttonTelegram t0) s (accLog t0 2 k)) ∧
        (r.btn = true → t0.mac.take 8 = buttonMac r.key t0 → ¬ fresh → Gives (.buttonTelegram t0) s (accLog t0 4 k)))) ∧
    (let hears := bit (cfg s.m.hw 0x40 0 0x418) 31 = true ∧ listens s.m.hw = false ∧ inWindow s.m.hw = false;
      (hears → Wakes .uhfWake s (fun h => plinthWake 16 { h with acc := { h.acc with uwWake := wakesAcc h } })) ∧
      (¬ hears → Gives .uhfWake s id)) ∧
    (s.m.hw.acc.ulAt + 200000 ≤ s.m.hw.now → Gives .uhfListenEnd s (fun h => { h with acc := { h.acc with ul := false } })) ∧
    (s.m.hw.now < s.m.hw.acc.ulAt + 200000 → Gives .uhfListenEnd s id)

/-- Learning (R530, R531): LEARN_CTL takes the ticket at LEARN_ADDR, with LEARN_STAT 1, unless a poll or a learn runs; while its memory is not ON the
copy waits; at its end LEARN_STAT gives the first
check that failed and the store stays, or 2, and the slots and the counter are the ticket's and an open authorisation ends.

The immobiliser relay (R533, R534): CLOSE closes it within an open authorisation window, which it uses up, and is refused with NOAUTH outside one; OPEN opens
it; the window's end withdraws the authorisation; an overcurrent of a closed relay opens it with its flag. -/
def Obligations.LearningAndRelay : Prop :=
  (∀ s : State,
     (∀ ini, s.writes ini 0x40 0 0x060 = true →
       (accBusy s.m.hw = true → Gives (.learnCtl ini) s (fun h => err h 0x40 0 17)) ∧
       (accBusy s.m.hw = false → Gives (.learnCtl ini) s (fun h =>
         let a := (rd h 0x40 0 0x064).toNat
         let bad := decide (a < 0x20000000 ∨ 0x20200000 < a + 416 ∨ a % 16 ≠ 0)
         let h1 := wrF h 0x40 0 0x068 0 3 1
         { h1 with
           acc := { h1.acc with learn := some (if bad = true ∨ ticketOpen h a = false then [] else rdBytes s.m.mem a 416), learnBad := bad }
           cry := { h1.cry with lrnWait := h1.cry.run.isSome } }))) ∧
     (learnTicket s.m = none → Gives .learnDone s id) ∧
     (∀ t0, s.alive = true → learnTicket s.m = some t0 → Answers .learnDone s (fun t =>
       let bad := s.m.hw.acc.learnBad = true ∨ ticketBad t0 = true
       let mine := (t0.drop 0x10).take 48 = sha384 dikPub
       let newer := s.m.hw.acc.lctr < leNat ((t0.drop 4).take 4)
       let r := learnResult s.m t0
       fld (rd t.m.hw 0x40 0 0x068) 0 3 = r ∧ t.m.hw.acc.learn = none ∧ evSeen t.m.hw 0x40 0 5 ∧ sameMem s t ∧
       (bad → r = 3) ∧ (¬ bad → ¬ mine → r = 5) ∧ (¬ bad → mine → ¬ newer → r = 6) ∧
       (r = 2 → ¬ bad ∧ mine ∧ newer ∧ t.m.hw.acc.slots = learnSlots t0 ∧ t.m.hw.acc.lctr = leNat ((t0.drop 4).take 4) ∧
         t.m.hw.acc.mark = true ∧ bit (rd t.m.hw 0x40 0 0x070) 1 = false) ∧
       (r ≠ 2 → t.m.hw.acc.slots = s.m.hw.acc.slots ∧ t.m.hw.acc.lctr = s.m.hw.acc.lctr)))) ∧
  (∀ s : State,
     let w := rd s.m.hw 0x40 0 0x070
     let left := fun (closed auth : Bool) (t : State) => bit (rd t.m.hw 0x40 0 0x070) 0 = closed ∧ bit (rd t.m.hw 0x40 0 0x070) 1 = auth ∧
       sameRegsBut s.m.hw t.m.hw [pg 0x40 0 + 0x070, pg 0x40 0 + oRAW, pg 0x40 0 + oSTAT] ∧ t = s.withHw (fun h => { h with regs := t.m.hw.regs })
     (∀ ini, s.writes ini 0x40 0 0x06C = true →
       (bit w 1 = true → s.m.hw.now < s.m.hw.acc.authEnd → Answers (.immoClose ini) s (left true false)) ∧
       ((bit w 1 = false ∨ s.m.hw.acc.authEnd ≤ s.m.hw.now) → Gives (.immoClose ini) s (fun h => err h 0x40 0 18)) ∧
       Answers (.immoOpen ini) s (left false (bit w 1))) ∧
     (s.alive = true → s.m.hw.acc.authEnd ≤ s.m.hw.now → Answers .authWindowEnd s (left (bit w 0) false)) ∧
     (s.m.hw.now < s.m.hw.acc.authEnd → Gives .authWindowEnd s id) ∧
     (∀ mA, s.alive = true → bit w 0 = true → 500 ≤ mA → Answers (.relayOvercurrent mA) s (fun t =>
       left false (bit w 1) t ∧ bit (rd t.m.hw 0x40 0 0x070) 5 = true)))

/-! ## Crypto engine (chapter 19) -/

/-- The commands of the crypto engine (R556, R557): one with its key while nothing runs starts its operation on the operand registers; without the NV store it
needs it ends at once with NVOFF, an unknown one with BADOP; a wrong key sets KEYBAD and a running operation CMDREF, and nothing starts.

CRYPTO_OPERATION_DONE (R541, R543, R545, R548 … R556, R560) on aligned operands whose memories are ON, where otherwise its accesses wait (R482):
HASH writes the SHA-384 of its source; VERIFY answers whether the signature holds; QUOTE and KTEXPORT write their range, IDEXPORT the certificate;
KEYSET, COMMIT, ROLLFWD and UCFG write the copy of their record that is not in force, where their conditions hold; ERASE leaves 0xFF in whole blocks
of a slot that does not run; PROGRAM writes an erased range of it; RAND writes its range; every other byte of memory stays, and the engine is free
with its RESULT. A failed read-back ends in NVFAIL, a misaligned operand in ALIGN, a range outside its memory in REGION. -/
def Obligations.CryptoEngine : Prop :=
  (∀ (ini : Initiator) (s : State), s.writes ini 0x41 0 0x040 = true →
     let o := fun (op : Nat) => ({ op := op, src := (rd s.m.hw 0x41 0 0x048).toNat, len := (rd s.m.hw 0x41 0 0x04C).toNat
                                   dst := (rd s.m.hw 0x41 0 0x050).toNat, arg := (rd s.m.hw 0x41 0 0x054).toNat } : CryOp)
     let started := fun (c : Instr) (op : Nat) =>
       (needsNvStore (o op) = false ∨ domOn s.m.hw 44 = true → Gives c s (fun h =>
         cryLevels { h with cry := { h.cry with run := some (o op), lastOp := op, result := 0 } })) ∧
       (needsNvStore (o op) = true → domOn s.m.hw 44 = false → Answers c s (fun t =>
         t.m.hw.cry = { run := none, result := 0x0C, lastOp := op, lrnWait := false } ∧ evSeen t.m.hw 0x41 0 1))
     (s.m.hw.cry.run = none →
       started (.hash ini) 1 ∧ started (.verify ini) 2 ∧ started (.quote ini) 3 ∧ started (.idexport ini) 4 ∧ started (.ktexport ini) 5 ∧
       started (.keyset ini) 6 ∧ started (.erase ini) 7 ∧ started (.program ini) 8 ∧ started (.commit ini) 9 ∧ started (.rollfwd ini) 10 ∧
       started (.ucfg ini) 11 ∧ started (.rand ini) 12 ∧
       (∀ op : Byte, (op = 0 ∨ 0x0D ≤ op.toNat) → Answers (.badop ini op) s (fun t =>
         t.m.hw.cry = { run := none, result := 0x0A, lastOp := op.toNat, lrnWait := false } ∧ evSeen t.m.hw 0x41 0 1))) ∧
     (∀ w : Word, w.toNat / 2 ^ 24 ≠ 0x7B → Gives (.cryptoCmdRefused ini w) s (fun h => err h 0x41 0 16)) ∧
     (∀ w : Word, w.toNat / 2 ^ 24 = 0x7B → s.m.hw.cry.run.isSome = true → Gives (.cryptoCmdRefused ini w) s (fun h => err h 0x41 0 17))) ∧
  (∀ (o : CryOp) (s : State), s.alive = true → s.m.hw.cry.run = some o →
     (cryOpen s.m.hw o = false → ∀ f, Gives (.cryptoOperationDone f) s id) ∧
     (cryOpen s.m.hw o = true →
     let mm := s.m.mem
     let ended := fun (r : Nat) (t : State) => t.m.hw.cry = { s.m.hw.cry with run := none, result := r, lrnWait := false } ∧
       evSeen t.m.hw 0x41 0 (if r = 1 then 0 else 1)
     let fails := fun (r : Nat) => ∀ f, Answers (.cryptoOperationDone f) s (fun t => ended r t ∧ sameMem s t)
     let recorded := fun (a : Nat) (l : List Byte) (free : Bool) =>
       Answers (.cryptoOperationDone false) s (fun t => ended 1 t ∧ rdBytes t.m.mem a l.length = l ∧ sameMemBut s t a 4096 ∧
         (free = true → bootValid t.m.hw = false)) ∧
       Answers (.cryptoOperationDone true) s (fun t => ended 0x0B t ∧ sameMemBut s t a 4096)
     let even := o.src % 16 = 0 ∧ o.dst % 16 = 0 ∧ o.len % 16 = 0
     let sram := fun (a n : Nat) => 0x20000000 ≤ a ∧ a + n ≤ 0x20200000
     let region := (o.op = 1 ∧ ¬ ((sram o.src o.len ∨ o.src + o.len ≤ 0x00FF0000) ∧ sram o.dst 48)) ∨ (o.op = 2 ∧ ¬ sram o.src 240) ∨
       (o.op = 3 ∧ ¬ (sram o.src 96 ∧ sram o.dst 352)) ∨ ((o.op = 4 ∨ o.op = 5) ∧ ¬ sram o.dst 256) ∨ (o.op = 6 ∧ ¬ sram o.src 0x190) ∨
       (o.op = 8 ∧ ¬ sram o.src o.len) ∨ (o.op = 11 ∧ ¬ sram o.src 0xFF0) ∨ (o.op = 12 ∧ ¬ sram o.dst o.len)
     let nextBoot := nextSeq mm (bootRecord mm)
     let bootCopy := otherCopy 0x2000 0x3000 (bootRecord mm)
     (¬ even → fails 3) ∧ (even → region → fails 4) ∧
     (o.op = 1 → even → ¬ region → ∀ f, Answers (.cryptoOperationDone f) s (fun t =>
       ended 1 t ∧ rdBytes t.m.mem o.dst 48 = sha384 (rdBytes mm o.src o.len) ∧ sameMemBut s t o.dst 48)) ∧
     (o.op = 2 → even → ¬ region → ∀ f, Answers (.cryptoOperationDone f) s (fun t => sameMem s t ∧
       ended (if ecdsaOk (rdBytes mm o.src 48) (rdBytes mm (o.src + 48) 96) (rdBytes mm (o.src + 144) 96) = true then 1 else 2) t)) ∧
     (o.op = 3 → even → ¬ region → ∀ f, Answers (.cryptoOperationDone f) s (fun t => ended 1 t ∧ sameMemBut s t o.dst 352)) ∧
     (o.op = 4 → even → ¬ region → ∀ f, Answers (.cryptoOperationDone f) s (fun t =>
       ended 1 t ∧ rdBytes t.m.mem o.dst certificate.length = certificate ∧ sameMemBut s t o.dst 256)) ∧
     (o.op = 5 → even → ¬ region → (recordKey mm 0xD0 = none → fails 5) ∧
       (recordKey mm 0xD0 ≠ none → ∀ f, Answers (.cryptoOperationDone f) s (fun t => ended 1 t ∧ sameMemBut s t o.dst 256))) ∧
     (o.op = 6 → even → ¬ region →
       let l := rdBytes mm o.src 0x190
       (keysetCheck mm o.src ≠ 1 → fails (keysetCheck mm o.src)) ∧
       (keysetCheck mm o.src = 1 → recorded (otherCopy 0x0000 0x1000 (keyRecord mm)) (l ++ leBytes 4 (crc32 l)) false)) ∧
     (o.op = 7 → even →
       let whole := o.dst % 0x10000 = 0 ∧ o.len % 0x10000 = 0
       (¬ whole → fails 3) ∧ (whole → slotRange s.m.hw o.dst o.len ≠ 1 → fails (slotRange s.m.hw o.dst o.len)) ∧
       (whole → slotRange s.m.hw o.dst o.len = 1 →
         Answers (.cryptoOperationDone false) s (fun t => ended 1 t ∧
           (∀ a, o.dst ≤ a → a < o.dst + o.len → rdByte t.m.mem a = 0xFF) ∧ sameMemBut s t o.dst o.len) ∧
         Answers (.cryptoOperationDone true) s (fun t => ended 0x0B t ∧ sameMemBut s t o.dst o.len))) ∧
     (o.op = 8 → even → ¬ region →
       let erased := ∀ a, o.dst ≤ a → a < o.dst + o.len → rdByte mm a = 0xFF
       (slotRange s.m.hw o.dst o.len ≠ 1 → fails (slotRange s.m.hw o.dst o.len)) ∧
       (slotRange s.m.hw o.dst o.len = 1 → ¬ erased → fails 9) ∧
       (slotRange s.m.hw o.dst o.len = 1 → erased →
         Answers (.cryptoOperationDone false) s (fun t => ended 1 t ∧
           (∀ a, a < o.len → rdByte t.m.mem (o.dst + a) = rdByte mm (o.src + a)) ∧ sameMemBut s t o.dst o.len) ∧
         Answers (.cryptoOperationDone true) s (fun t => ended 0x0B t ∧ sameMemBut s t o.dst o.len))) ∧
     (o.op = 9 → even →
       let runs := bootValid s.m.hw = true ∧ o.arg % 2 = bootSlot s.m.hw
       (runs → fails 6) ∧ (¬ runs → verifyImage mm (o.arg % 2) ≠ 1 → fails (verifyImage mm (o.arg % 2))) ∧
       (¬ runs → verifyImage mm (o.arg % 2) = 1 → recorded bootCopy (bootBytes nextBoot (o.arg % 2) (minVer mm)) true)) ∧
     (o.op = 10 → even →
       let v := rdMem mm (slotBase (bootSlot s.m.hw) + 8) 4
       (bootValid s.m.hw = false → fails 6) ∧ (bootValid s.m.hw = true → v ≤ minVer mm → fails 8) ∧
       (bootValid s.m.hw = true → minVer mm < v → recorded bootCopy (bootBytes nextBoot (bootPref mm) v) false)) ∧
     (o.op = 11 → even → ¬ region →
       let l := rdBytes mm o.src 0xFF0
       recorded (otherCopy 0xC000 0xD000 (userRecord mm))
         (leBytes 4 0x55430001 ++ leBytes 4 (nextSeq mm (userRecord mm)) ++ leBytes 4 (crc32 l) ++ leBytes 4 0 ++ l) false) ∧
     (o.op = 12 → even → ¬ region → ∀ f, Answers (.cryptoOperationDone f) s (fun t => ended 1 t ∧ sameMemBut s t o.dst o.len))))

/-! ## Bond link and pairs (chapter 20) -/

/-- The heard set and the lead (R563, R564, R574): on a link that takes frames a beacon of another module puts its address into the heard set with age
0; the lead is the lowest address of the heard set and the module itself, and its frame length is kept; an address not heard for LOSS_N boundaries
leaves the set; the module's own address under another TAG silences the link.

System time (R567, R568, R569, R572): a Sync of the lead sets the offset of the system time, in µs in OFFSET, and the trim within ±100 ppm; two Syncs
and a Pdelay exchange lead a follower from UNSYNC to ACQ, or to LENERR where the lead's frame length differs; a time-out, 4 × 31.25 ms after the last
Sync and not before, leads back to UNSYNC. -/
def Obligations.BondTime : Prop :=
  (∀ (src : Fin 512) (tag : Word) (len : Nat) (s : State), s.alive = true →
     let b := s.m.hw.bond
     let own := bondAddr s.m.hw
     let lead := fun (l : List (Nat × Nat)) => l.foldl (fun a e => min a e.1) own
     (bondHears s.m.hw = false → Gives (.beaconReceived src tag len) s id) ∧
     (bondHears s.m.hw = true → src.val ≠ own → Answers (.beaconReceived src tag len) s (fun t =>
       t.m.hw.bond.heard = smIns src.val 0 b.heard ∧ t.m.hw.bond.lead = lead (smIns src.val 0 b.heard) ∧ sameMem s t ∧
       (src.val = lead (smIns src.val 0 b.heard) → t.m.hw.bond.leadLen = some len) ∧
       (lead (smIns src.val 0 b.heard) ≠ b.lead → evSeen t.m.hw 0x50 0 0))) ∧
     (bondHears s.m.hw = true → src.val = own → tag.toNat = ownTag → Gives (.beaconReceived src tag len) s id) ∧
     (bondHears s.m.hw = true → src.val = own → tag.toNat ≠ ownTag → Answers (.beaconReceived src tag len) s (fun t =>
       t.m.hw.bond = { b with silent := true, ts := 1, syncs := 0, pdelay := false } ∧
       (pageOn s.m.hw 0x50 0 = true → bit (rd t.m.hw 0x50 0 oERR) 18 = true))) ∧
     (∀ age, bondOn s.m.hw = true → b.heard.find? (fun e => decide (e.1 = src.val)) = some (src.val, age) →
       (lossN s.m.hw ≤ age → Answers (.heardSetExpiry src) s (fun t =>
         t.m.hw.bond.heard = smErase src.val b.heard ∧ t.m.hw.bond.lead = lead (smErase src.val b.heard) ∧ sameMem s t)) ∧
       (age < lossN s.m.hw → Gives (.heardSetExpiry src) s id))) ∧
  (∀ s : State, s.alive = true →
     let b := s.m.hw.bond
     let hears := bondHears s.m.hw = true
     let acquired := if lenDiffers s.m.hw b = true then 5 else 2
     (∀ sysNs trim : Int, hears → b.lead ≠ bondAddr s.m.hw → Answers (.syncReceived sysNs trim) s (fun t =>
       let ofs := sysNs - (s.m.hw.timebase : Int) * 1000
       let n := (ofs / 1000 % (2 ^ 64 : Nat)).toNat
       t.m.hw.bond.ofs = ofs ∧ t.m.hw.bond.syncs = min 2 (b.syncs + 1) ∧ t.m.hw.bond.syncAt = s.m.hw.now ∧
       rd t.m.hw 0x50 0 0x050 = BitVec.ofNat 32 n ∧ rd t.m.hw 0x50 0 0x054 = BitVec.ofNat 32 (n / 2 ^ 32) ∧
       rd t.m.hw 0x50 0 0x04C = BitVec.ofNat 32 ((clampInt (-10000) 10000 trim) % 65536).toNat ∧
       (b.ts = 1 → 1 ≤ b.syncs → b.pdelay = true → t.m.hw.bond.ts = acquired) ∧ (b.ts ≠ 1 → t.m.hw.bond.ts = b.ts))) ∧
     (∀ sysNs trim : Int, (¬ hears ∨ b.lead = bondAddr s.m.hw) → Gives (.syncReceived sysNs trim) s id) ∧
     (hears → Answers .pdelayExchange s (fun t => t.m.hw.bond.pdelay = true ∧
       (b.ts = 1 → 2 ≤ b.syncs → b.lead ≠ bondAddr s.m.hw → t.m.hw.bond.ts = acquired) ∧ (b.ts ≠ 1 → t.m.hw.bond.ts = b.ts))) ∧
     (¬ hears → Gives .pdelayExchange s id) ∧
     ((b.ts = 2 ∨ b.ts = 3 ∨ b.ts = 5) → b.syncAt + 125000 ≤ s.m.hw.now → Answers .syncTimeout s (fun t =>
       t.m.hw.bond = { b with ts := 1, syncs := 0, pdelay := false, tolRun := 0 })) ∧
     ((b.ts = 0 ∨ b.ts = 1 ∨ b.ts = 4 ∨ s.m.hw.now < b.syncAt + 125000) → Gives .syncTimeout s id))

/-- The requester (R563, R575, R593): a request to a module of the heard set is queued at the link's port with the address and, for a write, the data, and
waits for its response, one to another ends with UNREACH, one while another waits is refused; the response with its sequence number ends it with its
code and, for a read, its data; the time-out of 1.9 ms ends it. Every end pulses source 9.

The remote engine (R576): a request for a word of an open memory inside a window with the right is done and answered OK; one outside the windows is DENIED,
one while an earlier access waits TBUSY; each answer is queued at the link's port. A link that takes no frames does nothing.

Messages (R577, R578): the link sends the chain at the head of its transmit queue and returns its page, counts one with a bad length as dropped, and
refuses a queue that is no software queue without a consumer; a message for a software queue that its mask allows joins the queue as an entry,
another counts in MSG_STAT. -/
def Obligations.BondRemote : Prop :=
  (∀ s : State,
     let b := s.m.hw.bond
     let ends := fun (res : Nat) (h : Hw) => pulse (wr { h with bond := { h.bond with rq := none } } 0x50 0 0x080 (BitVec.ofNat 32 res)) 0x50 0 9
     (∀ (ini : Initiator) (dst : Fin 512), s.writes ini 0x50 0 0x07C = true →
       let heard := bondLive s.m.hw = true ∧ ∃ e ∈ b.heard, e.1 = dst.val
       let word := fun (off : Nat) => beBytes 4 (rd s.m.hw 0x50 0 off).toNat
       (∀ p, b.rq = none → heard → bondPort s.m.hw = some p → domOn s.m.hw (29 + p) = true →
         Answers (.remoteReadRequest ini dst) s (fun t => t.m.hw.bond.rq = some ((b.seq + 1) % 65536, false) ∧ t.m.hw.bond.rqAt = s.m.hw.now ∧
           bondQueued s t 4 dst.val (word 0x074) ∧ sameMem s t) ∧
         Answers (.remoteWriteRequest ini dst) s (fun t => t.m.hw.bond.rq = some ((b.seq + 1) % 65536, true) ∧ t.m.hw.bond.rqAt = s.m.hw.now ∧
           bondQueued s t 5 dst.val (word 0x074 ++ word 0x078) ∧ sameMem s t)) ∧
       (b.rq = none → ¬ heard → Gives (.remoteReadRequest ini dst) s (ends 6) ∧ Gives (.remoteWriteRequest ini dst) s (ends 6)) ∧
       (b.rq.isSome = true → Gives (.remoteReadRequest ini dst) s (fun h => err h 0x50 0 17) ∧
         Gives (.remoteWriteRequest ini dst) s (fun h => err h 0x50 0 17))) ∧
     (∀ (q res : Nat) (w : Bool) (data : Word), s.alive = true → bondHears s.m.hw = true → b.rq = some (q, w) →
       Gives (.respReceived q res data) s (fun h => ends (res % 8) (if w = true then h else wr h 0x50 0 0x078 data))) ∧
     (∀ (q res : Nat) (data : Word), (bondHears s.m.hw = false ∨ ∀ w, b.rq ≠ some (q, w)) → Gives (.respReceived q res data) s id) ∧
     (s.alive = true → b.rq.isSome = true → b.rqAt + 1900 ≤ s.m.hw.now → Gives .requestTimeout s (ends 4)) ∧
     ((b.rq = none ∨ s.m.hw.now < b.rqAt + 1900) → Gives .requestTimeout s id)) ∧
  (∀ (src : Fin 512) (q : Nat) (a w : Word) (s : State), s.alive = true →
     (bondHears s.m.hw = false → Gives (.rdreqReceived src q a) s id ∧ Gives (.wrreqReceived src q a w) s id) ∧
     (bondHears s.m.hw = true →
     let said := fun (res data : Nat) (t : State) => t.m.hw.bond.resp = some (src.val, q, res, data) ∧
       bondQueued s t 6 src.val (beBytes 2 q ++ [0, BitVec.ofNat 8 res] ++ beBytes 4 data)
     let waits := s.m.hw.hung.any (fun e => decide (e.ini = .bond)) = true
     let open_ := domOpen s.m.hw 18 = true ∧ (addrDomain a.toNat).isSome = true ∧ a.toNat < 0x40000000 ∧ targetOpen s.m.hw a.toNat = true
     (waits → Answers (.rdreqReceived src q a) s (fun t => said 5 0 t ∧ sameMem s t) ∧
       Answers (.wrreqReceived src q a w) s (fun t => said 5 0 t ∧ sameMem s t)) ∧
     (¬ waits → (a.toNat % 4 ≠ 0 ∨ rwinAllows s.m.hw a.toNat false = false) →
       Answers (.rdreqReceived src q a) s (fun t => said 3 0 t ∧ sameMem s t)) ∧
     (¬ waits → (a.toNat % 4 ≠ 0 ∨ rwinAllows s.m.hw a.toNat true = false) →
       Answers (.wrreqReceived src q a w) s (fun t => said 3 0 t ∧ sameMem s t)) ∧
     (¬ waits → a.toNat % 4 = 0 → rwinAllows s.m.hw a.toNat false = true → open_ →
       Answers (.rdreqReceived src q a) s (fun t => said 1 (rdMem s.m.mem a.toNat 4) t ∧ sameMem s t)) ∧
     (¬ waits → a.toNat % 4 = 0 → rwinAllows s.m.hw a.toNat true = true → open_ → 0x01000000 ≤ a.toNat →
       Answers (.wrreqReceived src q a w) s (fun t => said 1 0 t ∧ rdMem t.m.mem a.toNat 4 = w.toNat ∧ sameMemBut s t a.toNat 4)))) ∧
  (∀ (s : State), s.alive = true → bondLive s.m.hw = true →
     (domOn s.m.hw 17 = true →
       let c := cfg s.m.hw 0x50 0 0x420
       let q := fld c 24 6
       let soft := softQueue s.m.hw q = true ∧ fld (qcfg s.m.hw q) 28 2 = 0
       bit c 31 = true →
       (¬ soft → Gives .bondMsgSend s (fun h => err h 0x50 0 19)) ∧ (soft → queue s.m.hw q = [] → Gives .bondMsgSend s id) ∧
       (∀ (i : QItem) (rest : List QItem) (p : Nat), soft → queue s.m.hw q = i :: rest →
         (apage s.m.hw i.page).next = none → (apage s.m.hw i.page).own = .queue q → bondPort s.m.hw = some p → domOn s.m.hw (29 + p) = true →
         let hdr := headerOf s.m.mem i.page
         let len := hdr.getD 2 0 % 4096
         (1 ≤ len → len ≤ 224 → Answers .bondMsgSend s (fun t => queue t.m.hw q = rest ∧ apage t.m.hw i.page = {} ∧ sameMem s t ∧
           bondQueued s t 7 (hdr.getD 1 0 % 1024) (rdBytes s.m.mem (pageAddr i.page + 32) len))) ∧
         ((len = 0 ∨ 1760 < len) → Answers .bondMsgSend s (fun t => queue t.m.hw q = rest ∧ apage t.m.hw i.page = {} ∧ sameMem s t ∧
           fld (rd t.m.hw 0x50 0 0x084) 0 16 = min 0xFFFF (fld (rd s.m.hw 0x50 0 0x084) 0 16 + 1))))) ∧
     (∀ (src : Fin 512) (dq : Fin 64) (sfn : Nat) (l : List Byte),
       let allowed := bit (cfg s.m.hw 0x50 0 (if dq.val < 32 then 0x424 else 0x428)) (dq.val % 32) = true ∧ softQueue s.m.hw dq.val = true
       (bondHears s.m.hw = false → Gives (.msgReceived src dq sfn l) s id) ∧
       (bondHears s.m.hw = true → ¬ allowed → Gives (.msgReceived src dq sfn l) s (fun h => incSat h 0x50 0 0x084 16 16 1)) ∧
       (bondHears s.m.hw = true → allowed → l.length ≤ 224 → domOn s.m.hw 17 = true → freeCount s.m.hw ≠ 0 →
         (rsvOf s.m.hw < freeCount s.m.hw ∨ bit (qcfg s.m.hw dq.val) 30 = true) → qFull s.m.hw dq.val (filling s.m.hw dq.val) = false →
         Answers (.msgReceived src dq sfn l) s (fun t =>
           let seq := (s.m.hw.bond.rseq + 1) % 65536
           t.m.hw.bond.rseq = seq ∧ entryStored s t dq.val ([0x80000000 + 3 * 0x8000000 + seq, src.val, 0x10000 + l.length, s.m.hw.frame % 65536,
             s.m.hw.tbCopy % 2 ^ 32, sfn % 2 ^ 32, sfn / 2 ^ 32 % 2 ^ 32, 0].flatMap wordBytes ++ l)))))

/-- Mirrors of the partner (R579, R580, R583, R586) without a mirror ring: a MIRIN within 200 µs of the boundary counts as its presence at this boundary, a
MIROUT within it is kept for the comparison, and with the module's own of the same SFN is compared part by part. At the window's end, once for each
boundary, an unmatched comparison is recorded as not comparable, a boundary missed counts, and LOSS_N of them lose the partner: a junior takes over
after its delay, a senior is ALONE. Two boundaries met bring it back.

The Quoin line, the takeover and the gate (R584, R585, R586, R587, R588): a kick with its key is kept for the next boundary; an edge says the partner's line lives and
stops a junior that has taken over; QTO without one, less the 5 % of its clock, says it is dead; the takeover delay TKO × 10 ms, and no shorter one,
leads a junior to SPLIT on a live line and to ACTIVE, its gate open, on a dead one; GATE with its key leads from DIVERGED to the state that the partner's presence gives. -/
def Obligations.BondPair : Prop :=
  (∀ s : State, s.alive = true → pairOn s.m.hw = true →
     let b := s.m.hw.bond
     let hears := bondHears s.m.hw = true ∧ ringQueue s.m.hw 0x50 0 = none
     let inTime := s.m.hw.timebase ≤ s.m.hw.frameStart + 200
     (∀ (src : Fin 512) (sfn : Nat) (al : Bool) (l : List Byte), (bondHears s.m.hw = false ∨ src.val ≠ partner s.m.hw) →
       Gives (.mirinReceived src sfn al l) s id ∧ Gives (.miroutReceived src sfn l) s id) ∧
     (∀ (src : Fin 512) (sfn : Nat) (al : Bool) (l : List Byte), hears → src.val = partner s.m.hw →
       Answers (.mirinReceived src sfn al l) s (fun t => t.m.hw.bond = { b with
         mirRx := true, mirNow := b.mirNow || decide inTime, met := if inTime ∧ ¬ (al = true ∧ aligned s.m.hw = true) then 0 else b.met })) ∧
     (∀ (src : Fin 512) (sfn : Nat) (l : List Byte), hears → src.val = partner s.m.hw →
       let p := l.take 704
       (¬ inTime → Gives (.miroutReceived src sfn l) s id) ∧
       (inTime → (∀ o, b.own = some o → o.sfn ≠ sfn) → Answers (.miroutReceived src sfn l) s (fun t =>
         t.m.hw.bond = { b with peer := some ⟨sfn, p⟩ })) ∧
       (∀ o, inTime → b.own = some o → o.sfn = sfn → Answers (.miroutReceived src sfn l) s (fun t =>
         let part := fun (x : List Byte) (at_ : Nat) => (x.drop at_).take 48
         let rx := decide (part o.data 0x010 ≠ part p 0x010)
         let sd := decide (part o.data 0x040 ≠ part p 0x040)
         let cm := decide (pairedCmds s.m.hw o.data ≠ pairedCmds s.m.hw p)
         let bad := fun (x : List Byte) => (payWord x 0).testBit 31 || !(payWord x 4).testBit 19
         let marg := fun (x : List Byte) => payWord x 4 % 65536 ≠ 0
         let res := if bad o.data = true ∨ bad p = true then 4 else if rx = false ∧ sd = false ∧ cm = false then 1
           else if rx = true ∧ sd = false ∧ cm = false ∧ (marg o.data ∨ marg p) then 2 else 3
         rd t.m.hw 0x50 0 0x060 = BitVec.ofNat 32 (sfn % 65536 * 0x10000 + cm.toNat * 64 + sd.toNat * 32 + rx.toNat * 16 + res) ∧
         t.m.hw.bond.own = none ∧ t.m.hw.bond.peer = none ∧ t.m.hw.bond.mmRun = (if res = 3 then b.mmRun + 1 else 0)))) ∧
     (let due := b.mirOpen = true ∧ s.m.hw.frameStart + 200 ≤ s.m.hw.timebase;
       (¬ due → Gives .mirrorWindowEnd s id) ∧
       (due → Answers .mirrorWindowEnd s (fun t =>
         let met := if aligned s.m.hw = true then min 2 (b.met + 1) else 0
         let miss := min 255 (b.miss + 1)
         t.m.hw.bond.mirOpen = false ∧
         (∀ o, b.own = some o → rd t.m.hw 0x50 0 0x060 = BitVec.ofNat 32 (o.sfn % 65536 * 0x10000 + 4) ∧ t.m.hw.bond.own = none) ∧
         (b.mirNow = false → t.m.hw.bond.miss = miss ∧ t.m.hw.bond.mirRx = false ∧ t.m.hw.bond.met = 0 ∧
           (miss < lossN s.m.hw → t.m.hw.bond.pst = b.pst ∧ t.m.hw.bond.present = b.present) ∧
           (lossN s.m.hw ≤ miss → t.m.hw.bond.present = false ∧
             t.m.hw.bond.pst = (if b.pst = 2 then (if isJunior s.m.hw = true then 1 else 6) else b.pst))) ∧
         (b.mirNow = true → t.m.hw.bond.miss = 0 ∧ t.m.hw.bond.met = met ∧ t.m.hw.bond.mirNow = false ∧
           (met < 2 → t.m.hw.bond.pst = b.pst) ∧
           (met = 2 → t.m.hw.bond.present = true ∧ t.m.hw.bond.pst =
             (if isJunior s.m.hw = true then (if b.pst = 1 ∨ b.pst = 3 ∨ b.pst = 4 then 2 else b.pst) else 2))))))) ∧
  (∀ s : State,
     let b := s.m.hw.bond
     let is := fun (pst : Nat) (closed delay : Bool) (t : State) =>
       t.m.hw.bond.pst = pst ∧ t.m.hw.bond.closed = closed ∧ t.m.hw.bond.delay = delay
     (∀ (ini : Initiator) (key : Byte), s.writes ini 0x50 0 0x06C = true →
       (key = 0x9D → Gives (.qkick ini key) s (fun h => { h with bond := { h.bond with kick := true } })) ∧
       (key ≠ 0x9D → Gives (.qkick ini key) s (fun h => err h 0x50 0 16))) ∧
     (s.alive = true → domOn s.m.hw 30 = true →
       Answers .quoinEdge s (fun t => t.m.hw.bond.qAlive = true ∧ t.m.hw.bond.qAt = s.m.hw.now ∧
         (b.pst = 4 → isJunior s.m.hw = true → is 3 true false t ∧ evSeen t.m.hw 0x50 0 4) ∧ (b.pst ≠ 4 → t.m.hw.bond.pst = b.pst)) ∧
       (b.qAlive = true → b.qAt + max 2 (fld (cfg s.m.hw 0x50 0 0x40C) 8 8) * 950 ≤ s.m.hw.now → Answers .quoinTimeout s (fun t =>
         t.m.hw.bond.qAlive = false ∧ (b.pst = 3 → isJunior s.m.hw = true → is 1 true true t) ∧ (b.pst ≠ 3 → t.m.hw.bond.pst = b.pst)))) ∧
     ((b.qAlive = false ∨ s.m.hw.now < b.qAt + max 2 (fld (cfg s.m.hw 0x50 0 0x40C) 8 8) * 950) → Gives .quoinTimeout s id) ∧
     ((b.pst ≠ 1 ∨ b.delay = false ∨ isJunior s.m.hw = false ∨
       s.m.hw.now < b.delayAt + min 200 (max 5 (fld (cfg s.m.hw 0x50 0 0x408) 22 8)) * 10000) → Gives .takeoverDelayEnd s id) ∧
     (s.alive = true → b.pst = 1 → b.delay = true → isJunior s.m.hw = true →
       b.delayAt + min 200 (max 5 (fld (cfg s.m.hw 0x50 0 0x408) 22 8)) * 10000 ≤ s.m.hw.now →
       (b.qAlive = true → Answers .takeoverDelayEnd s (fun t => is 3 true false t ∧ evSeen t.m.hw 0x50 0 4)) ∧
       (b.qAlive = false → Answers .takeoverDelayEnd s (is 4 false false))) ∧
     (∀ (ini : Initiator) (key : Byte) (open_ : Bool), s.writes ini 0x50 0 0x070 = true →
       (key ≠ 0x6B → Gives (.gate ini key open_) s (fun h => err h 0x50 0 16)) ∧
       (key = 0x6B → (b.pst ≠ 5 ∨ open_ = false) → Gives (.gate ini key open_) s id) ∧
       (key = 0x6B → open_ = true → b.pst = 5 → Answers (.gate ini key open_) s (fun t => t.m.hw.bond.mmRun = 0 ∧
         (b.present = true → is 2 false false t) ∧ (b.present = false → is 1 true true t)))))
end

