-- ==== Sys2Proof/Laws/Maps.lean ====
section
/-!
SUPPORT. The laws of the sparse maps: a read after a write, and the canonical form.
-/
namespace Sys2Proof.Machine

variable {α : Type}

theorem smGet_smIns_same (d v : α) (k : Nat) (m : List (Nat × α)) : smGet d (smIns k v m) k = v := by
  induction m with
  | nil => simp [smIns, smGet]
  | cons e r ih =>
    obtain ⟨j, w⟩ := e
    simp only [smIns]
    split
    · simp [smGet]
    · split
      · simp [smGet]
      · rename_i h; simp [smGet, h, ih]

theorem smGet_smIns_ne (d v : α) {k j : Nat} (h : j ≠ k) (m : List (Nat × α)) : smGet d (smIns k v m) j = smGet d m j := by
  induction m with
  | nil => simp [smIns, smGet, Ne.symm h]
  | cons e r ih =>
    obtain ⟨i, w⟩ := e
    simp only [smIns]
    split
    · simp [smGet, Ne.symm h]
    · split
      · rename_i hi; subst hi; simp [smGet, Ne.symm h]
      · simp [smGet, ih]

theorem smGet_smErase_same (d : α) (k : Nat) (m : List (Nat × α)) : smGet d (smErase k m) k = d := by
  induction m with
  | nil => simp [smErase, smGet]
  | cons e r ih =>
    obtain ⟨j, w⟩ := e
    unfold smErase at *
    by_cases hj : j = k
    · simpa [List.filter_cons, hj] using ih
    · simpa [List.filter_cons, hj, smGet] using ih

theorem smGet_smErase_ne (d : α) {k j : Nat} (h : j ≠ k) (m : List (Nat × α)) : smGet d (smErase k m) j = smGet d m j := by
  induction m with
  | nil => simp [smErase]
  | cons e r ih =>
    obtain ⟨i, w⟩ := e
    unfold smErase at *
    by_cases hi : i = k
    · subst hi; simpa [List.filter_cons, smGet, Ne.symm h] using ih
    · by_cases hj : i = j
      · subst hj; simp [hi, smGet]
      · simpa [List.filter_cons, hi, smGet, hj] using ih

variable [DecidableEq α]

/-- A read after a write of the same key gives the value written. -/
@[simp] theorem smGet_smPut_same (d v : α) (k : Nat) (m : List (Nat × α)) : smGet d (smPut d k v m) k = v := by
  unfold smPut
  split
  · rename_i h; rw [smGet_smErase_same, h]
  · exact smGet_smIns_same d v k m

/-- A write leaves every other key alone. -/
theorem smGet_smPut_ne (d e v : α) {k j : Nat} (h : j ≠ k) (m : List (Nat × α)) :
    smGet d (smPut e k v m) j = smGet d m j := by
  unfold smPut
  split
  · exact smGet_smErase_ne d h m
  · exact smGet_smIns_ne d v h m

/-- Both cases of a read after a write. -/
theorem smGet_smPut (d v : α) (k j : Nat) (m : List (Nat × α)) :
    smGet d (smPut d k v m) j = if j = k then v else smGet d m j := by
  by_cases h : j = k
  · subst h; simp
  · simp [h, smGet_smPut_ne d d v h m]

/-- The canonical form, said with the order of the keys and the values apart. -/
theorem smWf_iff (d : Nat → α) (m : List (Nat × α)) :
    smWf d m = true ↔ m.Pairwise (fun a b => a.1 < b.1) ∧ ∀ e ∈ m, e.2 ≠ d e.1 := by
  induction m with
  | nil => simp [smWf]
  | cons e r ih =>
    obtain ⟨k, v⟩ := e
    cases r with
    | nil => simp [smWf]
    | cons f r =>
      obtain ⟨j, w⟩ := f
      simp only [smWf, Bool.and_eq_true, decide_eq_true_eq, ih]
      constructor
      · rintro ⟨⟨h1, h2⟩, h3, h4⟩
        refine ⟨List.pairwise_cons.2 ⟨?_, h3⟩, ?_⟩
        · intro x hx
          rcases List.mem_cons.1 hx with rfl | hx
          · exact h2
          · exact lt_trans h2 ((List.pairwise_cons.1 h3).1 x hx)
        · intro x hx
          rcases List.mem_cons.1 hx with rfl | hx
          · exact h1
          · exact h4 x hx
      · rintro ⟨h1, h2⟩
        obtain ⟨h3, h4⟩ := List.pairwise_cons.1 h1
        exact ⟨⟨h2 _ List.mem_cons_self, h3 _ List.mem_cons_self⟩, h4, fun x hx => h2 x (List.mem_cons_of_mem _ hx)⟩

omit [DecidableEq α] in
theorem mem_smIns {k : Nat} {v : α} {m : List (Nat × α)} {e : Nat × α} (h : e ∈ smIns k v m) : e = (k, v) ∨ e ∈ m := by
  induction m with
  | nil => simpa [smIns] using h
  | cons f r ih =>
    obtain ⟨j, w⟩ := f
    simp only [smIns] at h
    split at h
    · simpa using h
    · split at h
      · rcases List.mem_cons.1 h with h | h
        · exact .inl h
        · exact .inr (List.mem_cons_of_mem _ h)
      · rcases List.mem_cons.1 h with h | h
        · exact .inr (by simp [h])
        · rcases ih h with h | h
          · exact .inl h
          · exact .inr (List.mem_cons_of_mem _ h)

omit [DecidableEq α] in
theorem smIns_sorted (k : Nat) (v : α) {m : List (Nat × α)} (h : m.Pairwise (fun a b => a.1 < b.1)) :
    (smIns k v m).Pairwise (fun a b => a.1 < b.1) := by
  induction m with
  | nil => simp [smIns]
  | cons f r ih =>
    obtain ⟨j, w⟩ := f
    obtain ⟨h1, h2⟩ := List.pairwise_cons.1 h
    simp only [smIns]
    split
    · rename_i hk
      refine List.pairwise_cons.2 ⟨?_, h⟩
      intro x hx
      rcases List.mem_cons.1 hx with rfl | hx
      · exact hk
      · exact lt_trans hk (h1 x hx)
    · split
      · rename_i hj; subst hj
        exact List.pairwise_cons.2 ⟨h1, h2⟩
      · rename_i hk hj
        refine List.pairwise_cons.2 ⟨?_, ih h2⟩
        intro x hx
        rcases mem_smIns hx with rfl | hx
        · exact lt_of_le_of_ne (not_lt.1 hk) hj
        · exact h1 x hx

/-- A filtered map keeps the canonical form. -/
theorem smWf_filter (d : Nat → α) (p : Nat × α → Bool) {m : List (Nat × α)} (h : smWf d m = true) : smWf d (m.filter p) = true := by
  rw [smWf_iff] at *
  exact ⟨h.1.filter p, fun e he => h.2 e (List.mem_filter.1 he).1⟩

/-- Every write keeps the canonical form. -/
theorem smWf_smPut (d : Nat → α) (k : Nat) (v : α) {m : List (Nat × α)} (h : smWf d m = true) :
    smWf d (smPut (d k) k v m) = true := by
  unfold smPut
  split
  · exact smWf_filter d _ h
  · rename_i hv
    rw [smWf_iff] at *
    refine ⟨smIns_sorted k v h.1, ?_⟩
    intro e he
    rcases mem_smIns he with rfl | he
    · exact hv
    · exact h.2 e he

/-- The canonical form depends on the defaults of the listed keys alone. -/
theorem smWf_congr {d e : Nat → α} {m : List (Nat × α)} (h : smWf d m = true) (he : ∀ x ∈ m, d x.1 = e x.1) : smWf e m = true := by
  rw [smWf_iff] at *
  exact ⟨h.1, fun x hx => by rw [← he x hx]; exact h.2 x hx⟩

end Sys2Proof.Machine
end

