-- ==== Sys2Proof/Laws/Fields.lean ====
section
/-!
SUPPORT. The laws of the bit fields: reading a field that was set, and reading beside it.
-/
namespace Sys2Proof.Machine

/-- A bit of a word with one field set. -/
theorem getLsbD_setFld (w : Word) (lo n v i : Nat) :
    (setFld w lo n v).getLsbD i = if lo ≤ i ∧ i < lo + n then decide (i < 32) && v.testBit (i - lo) else w.getLsbD i := by
  unfold setFld
  by_cases h32 : i < 32
  · simp only [BitVec.getLsbD_or, BitVec.getLsbD_and, BitVec.getLsbD_not, BitVec.getLsbD_ofNat, Nat.testBit_shiftLeft,
      Nat.testBit_two_pow_sub_one, Nat.testBit_mod_two_pow, h32, decide_true, Bool.true_and]
    by_cases h1 : lo ≤ i
    · by_cases h2 : i < lo + n
      · have h3 : i - lo < n := by omega
        simp [h1, h2, h3]
      · have h3 : ¬ i - lo < n := by omega
        simp [h1, h2, h3]
    · simp [h1]
  · simp only [BitVec.getLsbD_of_ge _ _ (Nat.le_of_not_lt h32)]
    simp [h32]

/-- A bit of the number that a field holds. -/
theorem testBit_fld (w : Word) (lo n i : Nat) : (fld w lo n).testBit i = (decide (i < n) && w.getLsbD (lo + i)) := by
  unfold fld
  rw [Nat.testBit_mod_two_pow, Nat.testBit_shiftRight]; rfl

theorem fld_lt (w : Word) (lo n : Nat) : fld w lo n < 2 ^ n := Nat.mod_lt _ (Nat.two_pow_pos n)

/-- A field that lies in the word reads what was set. -/
theorem fld_setFld_same (w : Word) {lo n : Nat} (v : Nat) (h : lo + n ≤ 32) : fld (setFld w lo n v) lo n = v % 2 ^ n := by
  apply Nat.eq_of_testBit_eq
  intro i
  rw [testBit_fld, getLsbD_setFld, Nat.testBit_mod_two_pow]
  by_cases hi : i < n
  · have h1 : lo + i < lo + n := by omega
    have h2 : lo + i < 32 := by omega
    simp [hi, h2]
  · simp [hi]

/-- A field apart from the one that was set reads as before. -/
theorem fld_setFld_ne (w : Word) {lo n a k : Nat} (v : Nat) (h : a + k ≤ lo ∨ lo + n ≤ a) : fld (setFld w lo n v) a k = fld w a k := by
  apply Nat.eq_of_testBit_eq
  intro i
  rw [testBit_fld, testBit_fld, getLsbD_setFld]
  by_cases hi : i < k
  · have h1 : ¬ (lo ≤ a + i ∧ a + i < lo + n) := by omega
    simp [h1]
  · simp [hi]

theorem bit_setBit_same (w : Word) {i : Nat} (b : Bool) (h : i < 32) : bit (setBit w i b) i = b := by
  unfold bit setBit
  rw [getLsbD_setFld]
  cases b <;> simp [h]

theorem bit_setBit_ne (w : Word) {i j : Nat} (b : Bool) (h : j ≠ i) : bit (setBit w i b) j = bit w j := by
  unfold bit setBit
  rw [getLsbD_setFld, if_neg (by omega)]

theorem bit_setFld_ne (w : Word) {lo n v j : Nat} (h : j < lo ∨ lo + n ≤ j) : bit (setFld w lo n v) j = bit w j := by
  unfold bit
  rw [getLsbD_setFld, if_neg (by omega)]

end Sys2Proof.Machine
end

