-- ==== Sys2Proof/Laws/Memory.lean ====
section
/-!
SUPPORT. The laws of the byte memory: a read after a write, the frame of a write, and the canonical form kept by every operation that
changes the memory.
-/
namespace Sys2Proof.Machine

/-! ## One byte -/

@[simp] theorem wrByte_lost (m : Mem) (a : Nat) (v : Byte) : (wrByte m a v).lost = m.lost := rfl

@[simp] theorem rdByte_wrByte_same (m : Mem) (a : Nat) (v : Byte) : rdByte (wrByte m a v) a = v := by simp [rdByte, wrByte]

theorem rdByte_wrByte_ne (m : Mem) {a b : Nat} (v : Byte) (h : b ≠ a) : rdByte (wrByte m a v) b = rdByte m b := by
  simp [rdByte, wrByte, smGet_smPut_ne _ _ _ h]

theorem wrByte_ok {m : Mem} (a : Nat) (v : Byte) (h : Memory.wf m = true) : Memory.wf (wrByte m a v) = true :=
  smWf_smPut (memDflt m.lost) a v h

/-! ## Ranges -/

@[simp] theorem wrMem_lost (m : Mem) (a n v : Nat) : (wrMem m a n v).lost = m.lost := by
  induction n generalizing m a v with
  | zero => rfl
  | succ n ih => simp [wrMem, ih]

theorem rdByte_wrMem_out (m : Mem) (a n v b : Nat) (h : b < a ∨ a + n ≤ b) : rdByte (wrMem m a n v) b = rdByte m b := by
  induction n generalizing m a v with
  | zero => rfl
  | succ n ih =>
    rw [wrMem, ih _ _ _ (by omega)]
    exact rdByte_wrByte_ne m _ (by omega)

/-- A read of `n` bytes after a write of `n` bytes there gives the value modulo its width. -/
theorem rdMem_wrMem (m : Mem) (a n v : Nat) : rdMem (wrMem m a n v) a n = v % 256 ^ n := by
  induction n generalizing m a v with
  | zero => simp [rdMem, Nat.mod_one]
  | succ n ih =>
    have h : rdByte (wrMem (wrByte m a (BitVec.ofNat 8 v)) (a + 1) n (v / 256)) a = BitVec.ofNat 8 v := by
      rw [rdByte_wrMem_out _ _ _ _ _ (by omega)]; simp
    rw [wrMem, rdMem, ih, h]
    simp only [BitVec.toNat_ofNat]
    rw [show (256 : Nat) ^ (n + 1) = 256 * 256 ^ n by rw [pow_succ, mul_comm], Nat.mod_mul]

theorem rdMem_wrMem_out (m : Mem) (a n v b k : Nat) (h : b + k ≤ a ∨ a + n ≤ b) : rdMem (wrMem m a n v) b k = rdMem m b k := by
  induction k generalizing b with
  | zero => rfl
  | succ k ih => rw [rdMem, rdMem, ih _ (by omega), rdByte_wrMem_out _ _ _ _ _ (by omega)]

@[simp] theorem wrMem_ok {m : Mem} (a n v : Nat) (h : Memory.wf m = true) : Memory.wf (wrMem m a n v) = true := by
  induction n generalizing m a v with
  | zero => exact h
  | succ n ih => exact ih _ _ (wrByte_ok _ _ h)

@[simp] theorem wrBytes_ok {m : Mem} (a : Nat) (l : List Byte) (h : Memory.wf m = true) : Memory.wf (wrBytes m a l) = true := by
  induction l generalizing m a with
  | nil => exact h
  | cons b r ih => exact ih _ (wrByte_ok _ _ h)

theorem rdByte_wrBytes_out (m : Mem) (a : Nat) (l : List Byte) (b : Nat) (h : b < a ∨ a + l.length ≤ b) :
    rdByte (wrBytes m a l) b = rdByte m b := by
  induction l generalizing m a with
  | nil => rfl
  | cons x r ih =>
    simp only [List.length_cons] at h
    rw [wrBytes, ih _ _ (by omega)]
    exact rdByte_wrByte_ne m _ (by omega)

/-- A loss of contents keeps the form: nothing stays listed for the domain that lost them. -/
@[simp] theorem memLose_ok {m : Mem} (d : Nat) (h : Memory.wf m = true) : Memory.wf (memLose d m) = true := by
  unfold Memory.wf memLose
  refine smWf_congr (smWf_filter _ _ h) ?_
  intro x hx
  have hd : memDomain x.1 ≠ d := by simpa using (List.mem_filter.1 hx).2
  simp only [memDflt, smGet_smPut_ne _ _ _ hd]

@[simp] theorem memPowerLoss_ok {m : Mem} (h : Memory.wf m = true) : Memory.wf (memPowerLoss m) = true := by
  unfold memPowerLoss
  generalize List.range 18 = l
  induction l generalizing m with
  | nil => exact h
  | cons d r ih => exact ih (memLose_ok d h)

/-! ## The module -/

@[simp] theorem Mach.onHw_mem (f : Hw → Hw) (m : Mach) : (m.onHw f).mem = m.mem := by cases m; rfl
@[simp] theorem Mach.onHw_hw (f : Hw → Hw) (m : Mach) : (m.onHw f).hw = f m.hw := by cases m; rfl
@[simp] theorem Mach.onHw_memOk (f : Hw → Hw) (m : Mach) : (m.onHw f).memOk = m.memOk := by cases m; rfl

@[simp] theorem Mach.memOk_mk (mem : Mem) (hw : Hw) : Mach.memOk ⟨mem, hw⟩ = Memory.wf mem := rfl

@[simp] theorem Mach.memOk_wf {m : Mach} (h : m.memOk = true) : Memory.wf m.mem = true := h

@[simp] theorem store_ok {m : Mach} (a n v : Nat) (h : m.memOk = true) : (store a n v m).memOk = true := wrMem_ok a n v h

@[simp] theorem storeBytes_ok {m : Mach} (a : Nat) (l : List Byte) (h : m.memOk = true) : (storeBytes a l m).memOk = true :=
  wrBytes_ok a l h

end Sys2Proof.Machine
end

