-- ==== Sys2Proof/Laws/MemOkA.lean ====
section
/-!
SUPPORT. The canonical form of the memory is kept: messages, tasks and bus channels.
-/
namespace Sys2Proof.Machine

set_option linter.unusedTactic false
set_option linter.unnecessarySeqFocus false
set_option linter.unusedSimpArgs false
set_option linter.unusedVariables false


/-- A fold of operations that keep the form keeps it. -/
theorem foldl_memOk {α : Type} (f : Mach → α → Mach) (hf : ∀ x a, x.memOk = true → (f x a).memOk = true) (l : List α) {m : Mach}
    (h : m.memOk = true) : (l.foldl f m).memOk = true := by
  induction l generalizing m with
  | nil => exact h
  | cons a r ih => exact ih (hf m a h)

/-- The result of a bus access keeps the form. -/
def BusOut.memOk : BusOut → Bool
  | .ok _ m => m.memOk
  | .error m => m.memOk
  | .hang => true

/-! ## Ashlar -/

@[simp] theorem fillPages_ok (l : List Nat) (b : List Byte) {m : Mach} (h : m.memOk = true) : (fillPages l b m).memOk = true := by
  induction l generalizing b m with
  | nil => exact h
  | cons p r ih => exact ih _ (storeBytes_ok _ _ h)

/-! ## Operands -/

@[simp] theorem applyPtrs_ok (win : Nat) (l : List (Nat × Int)) {m : Mach} (h : m.memOk = true) : (applyPtrs win l m).memOk = true := by
  induction l generalizing m with
  | nil => exact h
  | cons k r ih => exact ih (store_ok _ _ _ h)

/-! ## Olkor -/

@[simp] theorem landOne_ok (c : Nat) (e : Late) {m : Mach} (h : m.memOk = true) : (landOne c e m).memOk = true := by
  unfold landOne; (try dsimp only); (repeat' split) <;> simp (maxDischargeDepth := 12) [*]

@[simp] theorem landList_ok (c : Nat) (l : List Late) {m : Mach} (h : m.memOk = true) : (landList c l m).memOk = true := by
  induction l generalizing m with
  | nil => exact h
  | cons k r ih => exact ih (landOne_ok _ _ h)

@[simp] theorem landAll_ok (c : Nat) {m : Mach} (h : m.memOk = true) : (landAll c m).memOk = true := by
  unfold landAll; (try dsimp only); (repeat' split) <;> simp (maxDischargeDepth := 12) [*]

@[simp] theorem endInstr_ok (c : Nat) {m : Mach} (h : m.memOk = true) : (endInstr c m).memOk = true := by
  unfold endInstr; (try dsimp only); (repeat' split) <;> simp (maxDischargeDepth := 12) [*]

@[simp] theorem enterSup_ok (c cause opnd : Nat) (wr : Bool) (epc : Word) (eaddr : Option Word) {m : Mach} (h : m.memOk = true) : (enterSup c cause opnd wr epc eaddr m).memOk = true := by
  unfold enterSup; (try dsimp only); (repeat' split) <;> simp (maxDischargeDepth := 12) [*]

@[simp] theorem raiseAt_ok (c cause opnd : Nat) (wr : Bool) (epc : Word) (eaddr : Option Word) {m : Mach} (h : m.memOk = true) : (raiseAt c cause opnd wr epc eaddr m).memOk = true := by
  unfold raiseAt; (try dsimp only); (repeat' split) <;> simp (maxDischargeDepth := 12) [*]

/-! ## Keystone -/

@[simp] theorem storeProds_ok (base : Nat) (p : List (Nat × BitVec 256)) (l : List Nat) {m : Mach} (h : m.memOk = true) :
    (storeProds base p l m).memOk = true := by
  induction l generalizing m with
  | nil => exact h
  | cons k r ih => exact ih (store_ok _ _ _ h)

@[simp] theorem storeOut_ok (n c : Nat) (pc : Word) (fl : Flags) {m : Mach} (h : m.memOk = true) : (storeOut n c pc fl m).memOk = true := by
  unfold storeOut; (try dsimp only); (repeat' split) <;> simp (maxDischargeDepth := 12) [*]

@[simp] theorem removeFrom_ok (n c : Nat) {m : Mach} (h : m.memOk = true) : (removeFrom n c m).memOk = true := by
  unfold removeFrom; (try dsimp only); (repeat' split) <;> simp (maxDischargeDepth := 12) [*]

@[simp] theorem removeCtx_ok (n : Nat) {m : Mach} (h : m.memOk = true) : (removeCtx n m).memOk = true := by
  unfold removeCtx; (try dsimp only); (repeat' split) <;> simp (maxDischargeDepth := 12) [*]

@[simp] theorem storeIdle_ok (n : Nat) {m : Mach} (h : m.memOk = true) : (storeIdle n m).memOk = true := by
  unfold storeIdle; (try dsimp only); (repeat' split) <;> simp (maxDischargeDepth := 12) [*]

@[simp] theorem storeWords_ok (a : Nat) (l : List Nat) {m : Mach} (h : m.memOk = true) : (storeWords a l m).memOk = true := by
  induction l generalizing a m with
  | nil => exact h
  | cons k r ih => exact ih _ (store_ok _ _ _ h)

@[simp] theorem dispatchTo_ok (n c : Nat) {m : Mach} (h : m.memOk = true) : (dispatchTo n c m).memOk = true := by
  unfold dispatchTo; (try dsimp only); (repeat' split) <;> simp (maxDischargeDepth := 12) [*]

@[simp] theorem dispatch_ok (c : Nat) {m : Mach} (h : m.memOk = true) : (dispatch c m).memOk = true := by
  unfold dispatch; (try dsimp only); (repeat' split) <;> simp (maxDischargeDepth := 12) [*]

@[simp] theorem preempt_ok (n : Nat) {m : Mach} (h : m.memOk = true) : (preempt n m).memOk = true := by
  unfold preempt; (try dsimp only); (repeat' split) <;> simp (maxDischargeDepth := 12) [*]

@[simp] theorem doneTask_ok (c : Nat) {m : Mach} (h : m.memOk = true) : (doneTask c m).memOk = true := by
  unfold doneTask; (try dsimp only); (repeat' split) <;> simp (maxDischargeDepth := 12) [*]

@[simp] theorem yieldCore_ok (c : Nat) {m : Mach} (h : m.memOk = true) : (yieldCore c m).memOk = true := by
  unfold yieldCore; (try dsimp only); (repeat' split) <;> simp (maxDischargeDepth := 12) [*]

@[simp] theorem ctxEnable_ok (n : Nat) {m : Mach} (h : m.memOk = true) : (ctxEnable n m).memOk = true := by
  unfold ctxEnable; (try dsimp only); (repeat' split) <;> simp (maxDischargeDepth := 12) [*]

@[simp] theorem ctxDisable_ok (n : Nat) {m : Mach} (h : m.memOk = true) : (ctxDisable n m).memOk = true := by
  unfold ctxDisable; (try dsimp only); (repeat' split) <;> simp (maxDischargeDepth := 12) [*]

@[simp] theorem ctxAbort_ok (n : Nat) {m : Mach} (h : m.memOk = true) : (ctxAbort n m).memOk = true := by
  unfold ctxAbort; (try dsimp only); (repeat' split) <;> simp (maxDischargeDepth := 12) [*]

@[simp] theorem overrun_ok (n : Nat) {m : Mach} (h : m.memOk = true) : (overrun n m).memOk = true := by
  unfold overrun; (try dsimp only); (repeat' split) <;> simp (maxDischargeDepth := 12) [*]

@[simp] theorem overrunsUpTo_ok (t : Nat) {m : Mach} (h : m.memOk = true) : (overrunsUpTo t m).memOk = true := by
  unfold overrunsUpTo
  refine foldl_memOk _ ?_ _ h
  intro x a hx
  (try dsimp only); split
  · split <;> simp (maxDischargeDepth := 12) [*]
  · exact hx

/-! ## Can -/

@[simp] theorem canStore_ok (n : Nat) (f : CanFrame) (own : Bool) {m : Mach} (h : m.memOk = true) : (canStore n f own m).memOk = true := by
  unfold canStore; (try dsimp only); (repeat' split) <;> simp (maxDischargeDepth := 12) [*]

@[simp] theorem canReceive_ok (n : Nat) (f : CanFrame) {m : Mach} (h : m.memOk = true) : (canReceive n f m).memOk = true := by
  unfold canReceive; (try dsimp only); (repeat' split) <;> simp (maxDischargeDepth := 12) [*]

@[simp] theorem txbLoad_ok (ini : Initiator) (n b : Nat) (w : Word) {m : Mach} (h : m.memOk = true) : (txbLoad ini n b w m).memOk = true := by
  unfold txbLoad; (try dsimp only); (repeat' split) <;> simp (maxDischargeDepth := 12) [*]

@[simp] theorem canTxqPut_ok (ini : Initiator) (n : Nat) (w : Word) {m : Mach} (h : m.memOk = true) : (canTxqPut ini n w m).memOk = true := by
  unfold canTxqPut; (try dsimp only); (repeat' split) <;> simp (maxDischargeDepth := 12) [*]

@[simp] theorem canTxOk_ok (n tdcv : Nat) {m : Mach} (h : m.memOk = true) : (canTxOk n tdcv m).memOk = true := by
  unfold canTxOk; (try dsimp only); (repeat' split) <;> simp (maxDischargeDepth := 12) [*]

/-! ## Eth -/

@[simp] theorem ethTxqPut_ok (ini : Initiator) (n q : Nat) (w : Word) {m : Mach} (h : m.memOk = true) : (ethTxqPut ini n q w m).memOk = true := by
  unfold ethTxqPut; (try dsimp only); (repeat' split) <;> simp (maxDischargeDepth := 12) [*]

@[simp] theorem ethStore_ok (n : Nat) (l : List Byte) (ns : Int) {m : Mach} (h : m.memOk = true) : (ethStore n l ns m).memOk = true := by
  unfold ethStore; (try dsimp only); (repeat' split) <;> simp (maxDischargeDepth := 12) [*]

@[simp] theorem ethAccept_ok (n : Nat) (l : List Byte) (fcsOk full : Bool) (ns : Int) {m : Mach} (h : m.memOk = true) : (ethAccept n l fcsOk full ns m).memOk = true := by
  unfold ethAccept; (try dsimp only); (repeat' split) <;> simp (maxDischargeDepth := 12) [*]

@[simp] theorem ethReceive_ok (n : Nat) (l : List Byte) (fcsOk full : Bool) (ns : Int) {m : Mach} (h : m.memOk = true) : (ethReceive n l fcsOk full ns m).memOk = true := by
  unfold ethReceive; (try dsimp only); (repeat' split) <;> simp (maxDischargeDepth := 12) [*]

@[simp] theorem ethTxEnd_ok (n : Nat) (ns : Int) {m : Mach} (h : m.memOk = true) : (ethTxEnd n ns m).memOk = true := by
  unfold ethTxEnd; (try dsimp only); (repeat' split) <;> simp (maxDischargeDepth := 12) [*]

/-! ## Lin -/

@[simp] theorem linSlot_ok (n : Nat) {m : Mach} (h : m.memOk = true) : (linSlot n m).memOk = true := by
  unfold linSlot; (try dsimp only); (repeat' split) <;> simp (maxDischargeDepth := 12) [*]

@[simp] theorem linSlotStart_ok (n : Nat) {m : Mach} (h : m.memOk = true) : (linSlotStart n m).memOk = true := by
  unfold linSlotStart; (try dsimp only); (repeat' split) <;> simp (maxDischargeDepth := 12) [*]

@[simp] theorem linPut_ok (n pid stat : Nat) (own enh : Bool) (l : List Byte) {m : Mach} (h : m.memOk = true) : (linPut n pid stat own enh l m).memOk = true := by
  unfold linPut; (try dsimp only); (repeat' split) <;> simp (maxDischargeDepth := 12) [*]

@[simp] theorem linStore_ok (n pid stat : Nat) (own enh : Bool) (l : List Byte) {m : Mach} (h : m.memOk = true) : (linStore n pid stat own enh l m).memOk = true := by
  unfold linStore; (try dsimp only); (repeat' split) <;> simp (maxDischargeDepth := 12) [*]

@[simp] theorem linCut_ok (n : Nat) {m : Mach} (h : m.memOk = true) : (linCut n m).memOk = true := by
  unfold linCut; (try dsimp only); (repeat' split) <;> simp (maxDischargeDepth := 12) [*]

@[simp] theorem linHeader_ok (n pid : Nat) {m : Mach} (h : m.memOk = true) : (linHeader n pid m).memOk = true := by
  unfold linHeader; (try dsimp only); (repeat' split) <;> simp (maxDischargeDepth := 12) [*]

@[simp] theorem linComplete_ok (n : Nat) (l : List Byte) (sum : Nat) (bitErr framing : Bool) {m : Mach} (h : m.memOk = true) : (linComplete n l sum bitErr framing m).memOk = true := by
  unfold linComplete; (try dsimp only); (repeat' split) <;> simp (maxDischargeDepth := 12) [*]

@[simp] theorem linTimeout_ok (n : Nat) (l : List Byte) {m : Mach} (h : m.memOk = true) : (linTimeout n l m).memOk = true := by
  unfold linTimeout; (try dsimp only); (repeat' split) <;> simp (maxDischargeDepth := 12) [*]

@[simp] theorem linSyncError_ok (n t : Nat) {m : Mach} (h : m.memOk = true) : (linSyncError n t m).memOk = true := by
  unfold linSyncError; (try dsimp only); (repeat' split) <;> simp (maxDischargeDepth := 12) [*]

@[simp] theorem linTxdto_ok (n : Nat) {m : Mach} (h : m.memOk = true) : (linTxdto n m).memOk = true := by
  unfold linTxdto; (try dsimp only); (repeat' split) <;> simp (maxDischargeDepth := 12) [*]

end Sys2Proof.Machine
end

