-- ==== Sys2Proof/Laws/MemOkB.lean ====
section
/-!
SUPPORT. The canonical form of the memory is kept: the front end, the crypto engine, the Bond link, the bus and DMA.
-/
namespace Sys2Proof.Machine

set_option linter.unusedTactic false
set_option linter.unnecessarySeqFocus false
set_option linter.unusedSimpArgs false
set_option linter.unusedVariables false

/-! ## Acc -/

@[simp] theorem accReport_ok (hdr : List Nat) (tail : List Byte) {m : Mach} (h : m.memOk = true) : (accReport hdr tail m).memOk = true := by
  unfold accReport; (try dsimp only); (repeat' split) <;> simp (maxDischargeDepth := 12) [*]

@[simp] theorem buttonCheck_ok (t : Telegram) {m : Mach} (h : m.memOk = true) : (buttonCheck t m).memOk = true := by
  unfold buttonCheck; (try dsimp only); (repeat' split) <;> simp (maxDischargeDepth := 12) [*]

@[simp] theorem buttonHeard_ok (t : Telegram) {m : Mach} (h : m.memOk = true) : (buttonHeard t m).memOk = true := by
  unfold buttonHeard; (try dsimp only); (repeat' split) <;> simp (maxDischargeDepth := 12) [*]

@[simp] theorem pollEnd_ok (p : Poll) {m : Mach} (h : m.memOk = true) : (pollEnd p m).memOk = true := by
  unfold pollEnd; (try dsimp only); (repeat' split) <;> simp (maxDischargeDepth := 12) [*]

@[simp] theorem pollStart_ok (cause cap ant mask : Nat) {m : Mach} (h : m.memOk = true) : (pollStart cause cap ant mask m).memOk = true := by
  unfold pollStart; (try dsimp only); (repeat' split) <;> simp (maxDischargeDepth := 12) [*]

@[simp] theorem pollCmd_ok (w : Word) {m : Mach} (h : m.memOk = true) : (pollCmd w m).memOk = true := by
  unfold pollCmd; (try dsimp only); (repeat' split) <;> simp (maxDischargeDepth := 12) [*]

@[simp] theorem touchPoll_ok {m : Mach} (h : m.memOk = true) : (touchPoll m).memOk = true := by
  unfold touchPoll; (try dsimp only); (repeat' split) <;> simp (maxDischargeDepth := 12) [*]

@[simp] theorem slotEnd_ok (p : Poll) (k code : Nat) (aux : Nat) {m : Mach} (h : m.memOk = true) : (slotEnd p k code aux m).memOk = true := by
  unfold slotEnd; (try dsimp only); (repeat' split) <;> simp (maxDischargeDepth := 12) [*]

@[simp] theorem windowEnd_ok (l : List Telegram) (cs : Bool) {m : Mach} (h : m.memOk = true) : (windowEnd l cs m).memOk = true := by
  unfold windowEnd; (try dsimp only); split
  · exact h
  · split; · exact h
    split
    · rename_i p _ _ chal k r _ _
      have h1 := foldl_memOk (fun a t => buttonCheck t a) (fun x t hx => buttonCheck_ok t hx)
      have h2 : ∀ (g : Telegram → Hw → Hw), ∀ x t, Mach.memOk x = true → (x.onHw (g t)).memOk = true := fun g x t hx => by rw [Mach.onHw_memOk]; exact hx
      have h3 := fun g : Telegram → Hw → Hw => foldl_memOk (fun (a : Mach) (t : Telegram) => a.onHw (g t)) (h2 g)
      (repeat' split) <;> first
        | (apply slotEnd_ok; apply h3; exact h1 _ h)
        | (rw [Mach.onHw_memOk]; apply h3; exact h1 _ h)
    · exact h

@[simp] theorem learnCtl_ok (w : Word) {m : Mach} (h : m.memOk = true) : (learnCtl w m).memOk = true := by
  unfold learnCtl; (try dsimp only); (repeat' split) <;> simp (maxDischargeDepth := 12) [*]

@[simp] theorem learnDone_ok {m : Mach} (h : m.memOk = true) : (learnDone m).memOk = true := by
  unfold learnDone; (try dsimp only); (repeat' split) <;> simp (maxDischargeDepth := 12) [*]

@[simp] theorem accCut_ok {m : Mach} (h : m.memOk = true) : (accCut m).memOk = true := by
  unfold accCut; (try dsimp only); (repeat' split) <;> simp (maxDischargeDepth := 12) [*]

/-! ## Cry -/

@[simp] theorem writeRecord_ok (a : Nat) (l : List Byte) {m : Mach} (h : m.memOk = true) : (writeRecord a l m).memOk = true := by
  unfold writeRecord; (try dsimp only); (repeat' split) <;> simp (maxDischargeDepth := 12) [*]

@[simp] theorem nvLost_ok (a n : Nat) {m : Mach} (h : m.memOk = true) : (nvLost a n m).memOk = true := by
  unfold nvLost; (try dsimp only); (repeat' split) <;> simp (maxDischargeDepth := 12) [*]

@[simp] theorem quote_ok (o : CryOp) {m : Mach} (h : m.memOk = true) : (quote o m).memOk = true := by
  unfold quote; (try dsimp only); (repeat' split) <;> simp (maxDischargeDepth := 12) [*]

@[simp] theorem ktExport_ok (o : CryOp) (ltk : List Byte) {m : Mach} (h : m.memOk = true) : (ktExport o ltk m).memOk = true := by
  unfold ktExport; (try dsimp only); (repeat' split) <;> simp (maxDischargeDepth := 12) [*]

@[simp] theorem recordOp_ok (nvFail : Bool) (a : Nat) (l : List Byte) {m : Mach} (h : m.memOk = true) : (recordOp nvFail a l m).2.memOk = true := by
  unfold recordOp; split <;> simp (maxDischargeDepth := 12) [*]

/-- The memory of an erased range lists nothing there. -/
theorem erase_ok (p : Nat × Byte → Bool) {m : Mach} (h : m.memOk = true) :
    Memory.wf { m.mem with cells := m.mem.cells.filter p } = true := smWf_filter _ _ h

@[simp] theorem cryRun_ok (o : CryOp) (nvFail : Bool) {m : Mach} (h : m.memOk = true) : (cryRun o nvFail m).2.memOk = true := by
  unfold cryRun; (try dsimp only); (repeat' split) <;> simp (maxDischargeDepth := 12) [*, erase_ok]

@[simp] theorem cryDone_ok (nvFail : Bool) {m : Mach} (h : m.memOk = true) : (cryDone nvFail m).memOk = true := by
  unfold cryDone; (try dsimp only); (repeat' split) <;> simp (maxDischargeDepth := 12) [*]

@[simp] theorem cryCut_ok {m : Mach} (h : m.memOk = true) : (cryCut m).memOk = true := by
  unfold cryCut; (try dsimp only); (repeat' split) <;> simp (maxDischargeDepth := 12) [*]

/-! ## Bond -/

@[simp] theorem bondStore_ok (q fmt : Nat) (own : Bool) (src sfn : Nat) (l : List Byte) {m : Mach} (h : m.memOk = true) :
    (bondStore q fmt own src sfn l m).2.memOk = true := by
  unfold bondStore; (try dsimp only); split <;> simp (maxDischargeDepth := 12) [*]

@[simp] theorem msgSend_ok {m : Mach} (h : m.memOk = true) : (msgSend m).memOk = true := by
  unfold msgSend; (try dsimp only); (repeat' split) <;> simp (maxDischargeDepth := 12) [*]

@[simp] theorem msgReceived_ok (src dq sfn : Nat) (l : List Byte) {m : Mach} (h : m.memOk = true) : (msgReceived src dq sfn l m).memOk = true := by
  unfold msgReceived; (try dsimp only); (repeat' split) <;> simp (maxDischargeDepth := 12) [*]

@[simp] theorem mirStore_ok (fmt : Nat) (own : Bool) (src sfn : Nat) (l : List Byte) {m : Mach} (h : m.memOk = true) : (mirStore fmt own src sfn l m).memOk = true := by
  unfold mirStore; (try dsimp only); (repeat' split) <;> simp (maxDischargeDepth := 12) [*]

@[simp] theorem mirin_ok (src sfn : Nat) (peerAligned : Bool) (l : List Byte) {m : Mach} (h : m.memOk = true) : (mirin src sfn peerAligned l m).memOk = true := by
  unfold mirin; (try dsimp only); (repeat' split) <;> simp (maxDischargeDepth := 12) [*]

@[simp] theorem mirout_ok (src sfn : Nat) (l : List Byte) {m : Mach} (h : m.memOk = true) : (mirout src sfn l m).memOk = true := by
  unfold mirout; (try dsimp only); (repeat' split) <;> simp (maxDischargeDepth := 12) [*]

@[simp] theorem bondBoundary_ok (k : Nat) (mo : List Byte) {m : Mach} (h : m.memOk = true) : (bondBoundary k mo m).memOk = true := by
  unfold bondBoundary; (try dsimp only); (repeat' split) <;> simp (maxDischargeDepth := 12) [*]

/-! ## Bus -/

@[simp] theorem ctxCmd_ok (ini : Initiator) (w : Word) {m : Mach} (h : m.memOk = true) : (ctxCmd ini w m).memOk = true := by
  unfold ctxCmd; (try dsimp only); (repeat' split) <;> simp (maxDischargeDepth := 12) [*]

@[simp] theorem yieldWrite_ok (ini : Initiator) (w : Word) {m : Mach} (h : m.memOk = true) : (yieldWrite ini w m).memOk = true := by
  unfold yieldWrite; (try dsimp only); (repeat' split) <;> simp (maxDischargeDepth := 12) [*]

/-- A choice of two writes that both keep the form. -/
theorem ite_all {c : Prop} [Decidable c] {a b : Option Mach} (ha : a.all Mach.memOk = true) (hb : b.all Mach.memOk = true) :
    (if c then a else b).all Mach.memOk = true := by split <;> assumption

/-- A change of the blocks keeps the form. -/
theorem page_all (f : Hw → Hw) {m : Mach} (h : m.memOk = true) : (m.page f).all Mach.memOk = true := by simp [Mach.page, h]

theorem sysAct_all (off : Nat) (w : Word) {m : Mach} (h : m.memOk = true) : (sysAct off w m).all Mach.memOk = true := by
  unfold sysAct; (try unfold Mach.page); (repeat' split) <;> simp (maxDischargeDepth := 12) [h]

theorem pwrAct_all (off : Nat) (w : Word) {m : Mach} (h : m.memOk = true) : (pwrAct off w m).all Mach.memOk = true := by
  unfold pwrAct; (try unfold Mach.page); (repeat' split) <;> simp (maxDischargeDepth := 12) [h]

theorem clkAct_all (ini : Initiator) (off : Nat) (w : Word) {m : Mach} (h : m.memOk = true) : (clkAct ini off w m).all Mach.memOk = true := by
  unfold clkAct; (try unfold Mach.page); (repeat' split) <;> simp (maxDischargeDepth := 12) [h]

theorem hswAct_all (i : Nat) (off : Nat) (w : Word) {m : Mach} (h : m.memOk = true) : (hswAct i off w m).all Mach.memOk = true := by
  unfold hswAct; (try unfold Mach.page); (repeat' split) <;> simp (maxDischargeDepth := 12) [h]

theorem hbrAct_all (i : Nat) (off : Nat) (w : Word) {m : Mach} (h : m.memOk = true) : (hbrAct i off w m).all Mach.memOk = true := by
  unfold hbrAct; (try unfold Mach.page); (repeat' split) <;> simp (maxDischargeDepth := 12) [h]

theorem solAct_all (i : Nat) (off : Nat) (w : Word) {m : Mach} (h : m.memOk = true) : (solAct i off w m).all Mach.memOk = true := by
  unfold solAct; (try unfold Mach.page); (repeat' split) <;> simp (maxDischargeDepth := 12) [h]

theorem measAct_all (i : Nat) (off : Nat) (w : Word) {m : Mach} (h : m.memOk = true) : (measAct i off w m).all Mach.memOk = true := by
  unfold measAct; (try unfold Mach.page); (repeat' split) <;> simp (maxDischargeDepth := 12) [h]

theorem canAct_all (ini : Initiator) (i : Nat) (off : Nat) (w : Word) {m : Mach} (h : m.memOk = true) : (canAct ini i off w m).all Mach.memOk = true := by
  unfold canAct; (try unfold Mach.page); (repeat' split) <;> simp (maxDischargeDepth := 12) [h]

theorem linAct_all (i : Nat) (off : Nat) (w : Word) {m : Mach} (h : m.memOk = true) : (linAct i off w m).all Mach.memOk = true := by
  unfold linAct; (try unfold Mach.page); (repeat' split) <;> simp (maxDischargeDepth := 12) [h]

theorem ethAct_all (ini : Initiator) (i : Nat) (off : Nat) (w : Word) {m : Mach} (h : m.memOk = true) : (ethAct ini i off w m).all Mach.memOk = true := by
  unfold ethAct; (try unfold Mach.page); (repeat' split) <;> simp (maxDischargeDepth := 12) [h]

theorem nscAct_all (off : Nat) (w : Word) {m : Mach} (h : m.memOk = true) : (nscAct off w m).all Mach.memOk = true := by
  unfold nscAct; (try unfold Mach.page); (repeat' split) <;> simp (maxDischargeDepth := 12) [h]

theorem keyAct_all (ini : Initiator) (off : Nat) (w : Word) {m : Mach} (h : m.memOk = true) : (keyAct ini off w m).all Mach.memOk = true := by
  unfold keyAct; (try unfold Mach.page); (repeat' split) <;> simp (maxDischargeDepth := 12) [h]

theorem dmaAct_all (i : Nat) (off : Nat) (w : Word) {m : Mach} (h : m.memOk = true) : (dmaAct i off w m).all Mach.memOk = true := by
  unfold dmaAct; (try unfold Mach.page); (repeat' split) <;> simp (maxDischargeDepth := 12) [h]

theorem msgAct_all (ini : Initiator) (off : Nat) (w : Word) {m : Mach} (h : m.memOk = true) : (msgAct ini off w m).all Mach.memOk = true := by
  unfold msgAct; (try unfold Mach.page); (repeat' split) <;> simp (maxDischargeDepth := 12) [h]

theorem accAct_all (off : Nat) (w : Word) {m : Mach} (h : m.memOk = true) : (accAct off w m).all Mach.memOk = true := by
  unfold accAct; (try unfold Mach.page); (repeat' split) <;> simp (maxDischargeDepth := 12) [h]

theorem cryAct_all (off : Nat) (w : Word) {m : Mach} (h : m.memOk = true) : (cryAct off w m).all Mach.memOk = true := by
  unfold cryAct; (try unfold Mach.page); (repeat' split) <;> simp (maxDischargeDepth := 12) [h]

theorem bondAct_all (off : Nat) (w : Word) {m : Mach} (h : m.memOk = true) : (bondAct off w m).all Mach.memOk = true := by
  unfold bondAct; (try unfold Mach.page); (repeat' split) <;> simp (maxDischargeDepth := 12) [h]

theorem pageAct_all (ini : Initiator) (ty i off : Nat) (w : Word) {m : Mach} (h : m.memOk = true) :
    (pageAct ini ty i off w m).all Mach.memOk = true := by
  unfold pageAct
  repeat' apply ite_all
  all_goals first
    | exact page_all _ h
    | rfl
    | (simp (maxDischargeDepth := 12) [h]; done)

theorem pageAct_ok (ini : Initiator) (ty i off : Nat) (w : Word) {m m1 : Mach} (h : m.memOk = true)
    (h1 : pageAct ini ty i off w m = some m1) : m1.memOk = true := by
  have := pageAct_all ini ty i off w h
  rw [h1] at this; exact this

@[simp] theorem pageWrite_ok (ini : Initiator) (ty i off : Nat) (w : Word) {m : Mach} (h : m.memOk = true) :
    (pageWrite ini ty i off w m).memOk = true := by
  unfold pageWrite; split
  · simp (maxDischargeDepth := 12) [*]
  · split
    · split
      · rename_i h1; exact pageAct_ok _ _ _ _ _ h h1
      · simp (maxDischargeDepth := 12) [*]
    · simp (maxDischargeDepth := 12) [*]

@[simp] theorem pageRead_ok (ini : Initiator) (ty i off : Nat) {m : Mach} (h : m.memOk = true) :
    (pageRead ini ty i off m).2.memOk = true := by
  unfold pageRead; (try dsimp only); (repeat' split) <;> simp (maxDischargeDepth := 12) [*]

@[simp] theorem pageReads_ok (ini : Initiator) (a n : Nat) {m : Mach} (h : m.memOk = true) : (pageReads ini a n m).2.memOk = true := by
  induction n generalizing a m with
  | zero => exact h
  | succ n ih => exact ih _ (pageRead_ok _ _ _ _ h)

@[simp] theorem pageWrites_ok (ini : Initiator) (a n v : Nat) {m : Mach} (h : m.memOk = true) : (pageWrites ini a n v m).memOk = true := by
  induction n generalizing a v m with
  | zero => exact h
  | succ n ih => exact ih _ _ (pageWrite_ok _ _ _ _ _ h)

@[simp] theorem busRead_ok (ini : Initiator) (a n : Nat) {m : Mach} (h : m.memOk = true) : (busRead ini a n m).memOk = true := by
  unfold busRead
  split
  · rfl
  · split
    · simp [BusOut.memOk, h]
    · split
      · split
        · exact h
        · split
          · exact pageRead_ok _ _ _ _ h
          · exact pageReads_ok _ _ _ h
      · rfl

@[simp] theorem busWrite_ok (ini : Initiator) (a n v : Nat) {m : Mach} (h : m.memOk = true) : (busWrite ini a n v m).memOk = true := by
  unfold busWrite
  split
  · rfl
  · split
    · simp [BusOut.memOk, h]
    · split
      · split
        · exact store_ok _ _ _ h
        · split
          · simp [BusOut.memOk, h]
          · exact pageWrites_ok _ _ _ _ h
      · split
        · simp (maxDischargeDepth := 12) [BusOut.memOk, h]
        · rfl

theorem busRead_okOf {ini : Initiator} {a n v : Nat} {m m1 : Mach} (h : m.memOk = true) (e : busRead ini a n m = .ok v m1) : m1.memOk = true := by
  have := busRead_ok ini a n h; rw [e] at this; exact this

theorem busRead_errorOf {ini : Initiator} {a n : Nat} {m m1 : Mach} (h : m.memOk = true) (e : busRead ini a n m = .error m1) :
    m1.memOk = true := by
  have := busRead_ok ini a n h; rw [e] at this; exact this

theorem busWrite_okOf {ini : Initiator} {a n v d : Nat} {m m1 : Mach} (h : m.memOk = true) (e : busWrite ini a n v m = .ok d m1) :
    m1.memOk = true := by
  have := busWrite_ok ini a n v h; rw [e] at this; exact this

theorem busWrite_errorOf {ini : Initiator} {a n v : Nat} {m m1 : Mach} (h : m.memOk = true) (e : busWrite ini a n v m = .error m1) :
    m1.memOk = true := by
  have := busWrite_ok ini a n v h; rw [e] at this; exact this

/-! ## DmaRun -/

@[simp] theorem dmaHang_ok (n : Nat) {m : Mach} (h : m.memOk = true) : (dmaHang n m).memOk = true := by
  unfold dmaHang; (try dsimp only); (repeat' split) <;> simp (maxDischargeDepth := 12) [*]

@[simp] theorem dmaDescRead2_ok (n cur q0 : Nat) {m : Mach} (h : m.memOk = true) : (dmaDescRead2 n cur q0 m).memOk = true := by
  unfold dmaDescRead2; split
  · simp (maxDischargeDepth := 12) [*]
  · rename_i e; simp (maxDischargeDepth := 12) [busRead_errorOf h e]
  · rename_i e; simp (maxDischargeDepth := 12) [busRead_okOf h e]

@[simp] theorem dmaDescWhole_ok (n cur : Nat) {m : Mach} (h : m.memOk = true) : (dmaDescWhole n cur m).memOk = true := by
  unfold dmaDescWhole; (try dsimp only); (repeat' split) <;> simp (maxDischargeDepth := 12) [*]

@[simp] theorem dmaDescRead_ok (n : Nat) {m : Mach} (h : m.memOk = true) : (dmaDescRead n m).memOk = true := by
  unfold dmaDescRead; (try dsimp only); split
  · simp (maxDischargeDepth := 12) [*]
  · split
    · simp (maxDischargeDepth := 12) [*]
    · split
      · simp (maxDischargeDepth := 12) [*]
      · split
        · simp (maxDischargeDepth := 12) [*]
        · rename_i e; simp (maxDischargeDepth := 12) [busRead_errorOf h e]
        · rename_i e; simp (maxDischargeDepth := 12) [busRead_okOf h e]

@[simp] theorem dmaOne_ok (n : Nat) {m : Mach} (h : m.memOk = true) : (dmaOne n m).2.memOk = true := by
  unfold dmaOne; (try dsimp only); split
  · split
    · simp (maxDischargeDepth := 12) [*]
    · rename_i e; simp (maxDischargeDepth := 12) [busRead_errorOf h e]
    · rename_i e; simp (maxDischargeDepth := 12) [busRead_okOf h e]
  · split
    · simp (maxDischargeDepth := 12) [*]
    · rename_i e; simp (maxDischargeDepth := 12) [busWrite_errorOf h e]
    · rename_i e; simp (maxDischargeDepth := 12) [busWrite_okOf h e]

@[simp] theorem dmaGo_ok (n k : Nat) {m : Mach} (h : m.memOk = true) : (dmaGo n k m).memOk = true := by
  induction k generalizing m with
  | zero => exact h
  | succ k ih => unfold dmaGo; (try dsimp only); (repeat' split) <;> simp (maxDischargeDepth := 12) [*]

@[simp] theorem dmaRunUnit_ok (n : Nat) {m : Mach} (h : m.memOk = true) : (dmaRunUnit n m).memOk = true := by
  unfold dmaRunUnit; (try dsimp only); (repeat' split) <;> simp (maxDischargeDepth := 12) [*]

@[simp] theorem dmaUnit_ok (n : Nat) {m : Mach} (h : m.memOk = true) : (dmaUnit n m).memOk = true := by
  unfold dmaUnit; (try dsimp only); (repeat' split) <;> simp (maxDischargeDepth := 12) [*]

@[simp] theorem dmaDescStart_ok (n : Nat) {m : Mach} (h : m.memOk = true) : (dmaDescStart n m).memOk = true := by
  unfold dmaDescStart; (try dsimp only); (repeat' split) <;> simp (maxDischargeDepth := 12) [*]

@[simp] theorem dmaAgain_ok (n : Nat) {m : Mach} (h : m.memOk = true) : (dmaAgain n m).memOk = true := by
  unfold dmaAgain; (try dsimp only); (repeat' split) <;> simp (maxDischargeDepth := 12) [*]

@[simp] theorem dmaRetry_ok (n : Nat) {m : Mach} (h : m.memOk = true) : (dmaRetry n m).memOk = true := by
  unfold dmaRetry; (try dsimp only); (repeat' split) <;> simp (maxDischargeDepth := 12) [*]

@[simp] theorem dmaUnhang_ok (n : Nat) {m : Mach} (h : m.memOk = true) : (dmaUnhang n m).memOk = true := by
  unfold dmaUnhang; (try dsimp only); (repeat' split) <;> simp (maxDischargeDepth := 12) [*]

end Sys2Proof.Machine
end

