-- ==== Sys2Proof/Laws/MemOkC.lean ====
section
/-!
SUPPORT. The canonical form of the memory is kept: the cores, power, frames and resets.
-/
namespace Sys2Proof.Machine

set_option linter.unusedTactic false
set_option linter.unnecessarySeqFocus false
set_option linter.unusedSimpArgs false
set_option linter.unusedVariables false

/-! ## Exec -/

@[simp] theorem takeFault_ok (c : Nat) (f : Flt) {m : Mach} (h : m.memOk = true) : (takeFault c f m).memOk = true := by
  unfold takeFault; (try dsimp only); apply raiseAt_ok; split <;> simp (maxDischargeDepth := 12) [*]

@[simp] theorem readSources_ok (i : CoreInstr) (ini : Initiator) (m0 : Mem) (win k : Nat) (l : List Spec) {m : Mach} (h : m.memOk = true) :
    (readSources i ini m0 win k l m).2.memOk = true := by
  induction l generalizing k m with
  | nil => exact h
  | cons s r ih =>
    unfold readSources; (try dsimp only); split
    · exact ih _ h
    · refine ih _ ?_
      split
      · exact h
      · exact h
      · split
        · rename_i e; exact busRead_okOf h e
        · rename_i e; exact busRead_errorOf h e
        · exact h

@[simp] theorem readBefore_ok (ini : Initiator) (bad : List Flt) (l : List Acs) {m : Mach} (h : m.memOk = true) :
    (readBefore ini bad l m).memOk = true := by
  induction l generalizing m with
  | nil => exact h
  | cons x r ih =>
    unfold readBefore; split
    · exact h
    · split
      · exact ih h
      · refine ih ?_
        split
        · rename_i e; exact busRead_okOf h e
        · rename_i e; exact busRead_errorOf h e
        · exact h

@[simp] theorem writeDst_ok (c : Nat) (far : Bool) (dst : Option Acs) (e : Eff) {m : Mach} (h : m.memOk = true) : (writeDst c far dst e m).memOk = true := by
  unfold writeDst; split
  · split
    · exact h
    · split
      · rename_i e; exact busWrite_okOf h e
      · rename_i e; exact busWrite_errorOf h e
      · exact h
  · exact h

@[simp] theorem writeResult_ok (c : Nat) (far : Bool) (dst : Option Acs) (e : Eff) {m : Mach} (h : m.memOk = true) : (writeResult c far dst e m).memOk = true := by
  unfold writeResult; (try dsimp only); (repeat' split) <;> simp (maxDischargeDepth := 12) [*]

@[simp] theorem issueProd_ok (c : Nat) (p : Option (Nat × Nat)) {m : Mach} (h : m.memOk = true) : (issueProd c p m).memOk = true := by
  unfold issueProd; (try dsimp only); (repeat' split) <;> simp (maxDischargeDepth := 12) [*]

@[simp] theorem coreEnd_ok (c : Nat) (next : Nat) {m : Mach} (h : m.memOk = true) : (coreEnd c next m).memOk = true := by
  unfold coreEnd; (try dsimp only); (repeat' split) <;> simp (maxDischargeDepth := 12) [*]

@[simp] theorem coreJump_ok (c t : Nat) {m : Mach} (h : m.memOk = true) : (coreJump c t m).memOk = true := by
  unfold coreJump; (try dsimp only); (repeat' split) <;> simp (maxDischargeDepth := 12) [*]

@[simp] theorem coreNext_ok (c win len : Nat) {m : Mach} (h : m.memOk = true) : (coreNext c win len m).memOk = true := by
  unfold coreNext; (try dsimp only); (repeat' split) <;> simp (maxDischargeDepth := 12) [*]

/-- The outcome of a probe keeps the form. -/
def ProbeOut.memOk : ProbeOut → Bool
  | .found _ _ m => m.memOk
  | .missing _ _ m => m.memOk
  | .fault _ m => m.memOk
  | .hang => true

theorem probeBucket_out {c km a : Nat} {far far1 : Bool} {m m1 : Mach} {r : Option ProbeOut} (h : m.memOk = true)
    (e : probeBucket c km a far m = (r, far1, m1)) : m1.memOk = true ∧ ∀ x, r = some x → x.memOk = true := by
  unfold probeBucket at e
  generalize hb : busRead _ a 16 m = o at e
  generalize acsFault _ c false _ = f at e
  cases f with
  | some f => cases e; exact ⟨h, fun x e => by cases e; exact h⟩
  | none =>
    cases o with
    | hang => cases e; exact ⟨h, fun x e => by cases e; rfl⟩
    | error m2 =>
      have h1 := busRead_errorOf h hb
      cases e; exact ⟨h1, fun x e => by cases e; exact h1⟩
    | ok q m2 =>
      have h1 := busRead_okOf h hb
      dsimp only at e
      (repeat' split at e) <;> cases e <;> refine ⟨h1, fun x e => ?_⟩ <;> cases e <;> exact h1

theorem probeGo_ok (c km base b h0 n j : Nat) (far : Bool) {m : Mach} (h : m.memOk = true) :
    (probeGo c km base b h0 n j far m).memOk = true := by
  induction n generalizing j far m with
  | zero => exact h
  | succ n ih =>
    rw [probeGo]
    generalize hb : probeBucket c km _ far m = o
    obtain ⟨r, far1, m1⟩ := o
    have ho := probeBucket_out h hb
    cases r with
    | some r => exact ho.2 _ rfl
    | none => exact ih _ _ ho.1

theorem probe_ok (c ha q k : Nat) {m : Mach} (h : m.memOk = true) : (probe c ha q k m).memOk = true := by
  unfold probe; (try dsimp only); (repeat' split) <;> first | exact h | exact probeGo_ok _ _ _ _ _ _ _ _ h

@[simp] theorem raisePlain_ok (c cause : Nat) {m : Mach} (h : m.memOk = true) : (raisePlain c cause m).memOk = true := raiseAt_ok _ _ _ _ _ _ h

@[simp] theorem coreHang_ok (i : CoreInstr) {m : Mach} (h : m.memOk = true) : (coreHang i m).memOk = true := by
  unfold coreHang; (try dsimp only); (repeat' split) <;> simp (maxDischargeDepth := 12) [*]

@[simp] theorem coreAtomic_ok (i : CoreInstr) (l : List Acs) (xs : List Nat) {m : Mach} (h : m.memOk = true) : (coreAtomic i l xs m).memOk = true := by
  unfold coreAtomic; (try dsimp only); (repeat' split) <;> simp (maxDischargeDepth := 12) [*]

theorem coreSpecial_ok (i : CoreInstr) (win len : Nat) (xs : List Nat) {m m1 : Mach} (h : m.memOk = true)
    (e : coreSpecial i win len xs m = some m1) : m1.memOk = true := by
  unfold coreSpecial at e; dsimp only at e
  (repeat' split at e) <;> simp only [Option.some.injEq, reduceCtorEq] at e <;> subst e <;> (repeat' split) <;> simp (maxDischargeDepth := 12) [*]

@[simp] theorem coreEffect_ok (i : CoreInstr) (win len : Nat) (l : List Acs) (xs : List Nat) {m : Mach} (h : m.memOk = true) : (coreEffect i win len l xs m).memOk = true := by
  unfold coreEffect; (try dsimp only); split
  · rename_i e; exact coreSpecial_ok _ _ _ _ h e
  · split
    · simp (maxDischargeDepth := 12) [*]
    · split
      · have hp := probe_ok i.core.val (((l.find? (fun x => decide (x.k = 2))).map (fun x => x.a)).getD 0) (xs.getD 0 0) (xs.getD 1 0) h
        split <;> rename_i e <;> rw [e] at hp
        · simp (maxDischargeDepth := 12) [*]
        · have hp' : Mach.memOk _ = true := hp
          split <;> simp (maxDischargeDepth := 12) [hp']
        · have hp' : Mach.memOk _ = true := hp
          simp (maxDischargeDepth := 12) [hp']
        · have hp' : Mach.memOk _ = true := hp
          simp (maxDischargeDepth := 12) [hp']
      · split
        · exact raisePlain_ok _ _ h
        · split <;> simp (maxDischargeDepth := 12) [h]

@[simp] theorem coreBody_ok (i : CoreInstr) (win len : Nat) {m : Mach} (h : m.memOk = true) : (coreBody i win len m).memOk = true := by
  unfold coreBody; (try dsimp only); (repeat' split) <;> simp (maxDischargeDepth := 12) [*]

@[simp] theorem coreStep_ok (i : CoreInstr) {m : Mach} (h : m.memOk = true) : (coreStep i m).memOk = true := by
  unfold coreStep; (try dsimp only); (repeat' split) <;> simp (maxDischargeDepth := 12) [*]

@[simp] theorem coreIllegal_ok (c : Fin 12) {m : Mach} (h : m.memOk = true) : (coreIllegal c m).memOk = true := by
  unfold coreIllegal; (try dsimp only); (repeat' split) <;> simp (maxDischargeDepth := 12) [*]

@[simp] theorem coreInterrupt_ok (c : Fin 12) {m : Mach} (h : m.memOk = true) : (coreInterrupt c m).memOk = true := by
  unfold coreInterrupt; (try dsimp only); (repeat' split) <;> simp (maxDischargeDepth := 12) [*]

@[simp] theorem coreUnhang_ok (c : Nat) {m : Mach} (h : m.memOk = true) : (coreUnhang c m).memOk = true := by
  unfold coreUnhang; (try dsimp only); (repeat' split) <;> simp (maxDischargeDepth := 12) [*]

@[simp] theorem access_ok (wr : Bool) (ini : Initiator) (a n v : Nat) {m : Mach} (h : m.memOk = true) : (access wr ini a n v m).memOk = true := by
  unfold access; split
  · exact h
  · split
    · split <;> simp (maxDischargeDepth := 12) [h]
    · split
      · rename_i e
        split at e
        · have h1 := busWrite_okOf h e
          split <;> simp (maxDischargeDepth := 12) [h1]
        · have h1 := busRead_okOf h e
          split <;> simp (maxDischargeDepth := 12) [h1]
      · simp (maxDischargeDepth := 12) [*]
      · rename_i mm e
        have h1 : Mach.memOk mm = true := by
          split at e
          · exact busWrite_errorOf h e
          · exact busRead_errorOf h e
        split <;> simp (maxDischargeDepth := 12) [h1]

@[simp] theorem pageCmd_ok (ini : Initiator) (ty i off : Nat) (w : Word) {m : Mach} (h : m.memOk = true) : (pageCmd ini ty i off w m).memOk = true := by
  unfold pageCmd; (try dsimp only); (repeat' split) <;> simp (maxDischargeDepth := 12) [*]

@[simp] theorem pageGet_ok (ini : Initiator) (ty i off : Nat) {m : Mach} (h : m.memOk = true) : (pageGet ini ty i off m).memOk = true := by
  unfold pageGet; (try dsimp only); (repeat' split) <;> simp (maxDischargeDepth := 12) [*]

@[simp] theorem bondAccess_ok (src reqSeq a : Nat) (wr : Bool) (v : Nat) {m : Mach} (h : m.memOk = true) : (bondAccess src reqSeq a wr v m).memOk = true := by
  unfold bondAccess; split
  · rename_i e
    split at e
    · simp (maxDischargeDepth := 12) [busWrite_okOf h e]
    · simp (maxDischargeDepth := 12) [busRead_okOf h e]
  · rename_i e
    split at e
    · simp (maxDischargeDepth := 12) [busWrite_errorOf h e]
    · simp (maxDischargeDepth := 12) [busRead_errorOf h e]
  · simp (maxDischargeDepth := 12) [*]

@[simp] theorem bondReq_ok (src reqSeq a : Nat) (wr : Bool) (v : Nat) {m : Mach} (h : m.memOk = true) : (bondReq src reqSeq a wr v m).memOk = true := by
  unfold bondReq; (try dsimp only); (repeat' split) <;> simp (maxDischargeDepth := 12) [*]

@[simp] theorem hungAgain_ok (ini : Initiator) {m : Mach} (h : m.memOk = true) : (hungAgain ini m).memOk = true := by
  unfold hungAgain; (try dsimp only); (repeat' split) <;> simp (maxDischargeDepth := 12) [*]

@[simp] theorem unhang_ok {m : Mach} (h : m.memOk = true) : (unhang m).memOk = true := by
  unfold unhang
  exact foldl_memOk _ (fun x a hx => hungAgain_ok _ hx) _ (by simp (maxDischargeDepth := 12) [*])

/-! ## Power -/

@[simp] theorem loseDomain_ok (d : Nat) {m : Mach} (h : m.memOk = true) : (loseDomain d m).memOk = true := by
  unfold loseDomain; (try dsimp only); (repeat' split) <;> simp (maxDischargeDepth := 12) [*]

@[simp] theorem enterDomain_ok (d : Nat) (t : PwrState) {m : Mach} (h : m.memOk = true) : (enterDomain d t m).memOk = true := by
  unfold enterDomain; (try dsimp only); (repeat' split) <;> simp (maxDischargeDepth := 12) [*]

@[simp] theorem entryStart_ok {m : Mach} (h : m.memOk = true) : (entryStart m).memOk = true := by
  unfold entryStart; (try dsimp only); (repeat' split) <;> simp (maxDischargeDepth := 12) [*]

@[simp] theorem entryAbort_ok {m : Mach} (h : m.memOk = true) : (entryAbort m).memOk = true := by
  unfold entryAbort; (try dsimp only); (repeat' split) <;> simp (maxDischargeDepth := 12) [*]

@[simp] theorem entryComplete_ok {m : Mach} (h : m.memOk = true) : (entryComplete m).memOk = true := by
  unfold entryComplete; (try dsimp only); (repeat' split) <;> simp (maxDischargeDepth := 12) [*]

@[simp] theorem loadHi6_ok {m : Mach} (h : m.memOk = true) : (loadHi6 m).memOk = true := by
  unfold loadHi6; (try dsimp only); (repeat' split) <;> simp (maxDischargeDepth := 12) [*]

@[simp] theorem returnDomain_ok (d : Nat) (was : PwrState) {m : Mach} (h : m.memOk = true) : (returnDomain d was m).memOk = true := by
  unfold returnDomain; (try dsimp only); (repeat' split) <;> simp (maxDischargeDepth := 12) [*]

@[simp] theorem exitComplete_ok {m : Mach} (h : m.memOk = true) : (exitComplete m).memOk = true := by
  unfold exitComplete; (try dsimp only); (repeat' split) <;> simp (maxDischargeDepth := 12) [*]

@[simp] theorem railsOff_ok {m : Mach} (h : m.memOk = true) : (railsOff m).memOk = true := by
  unfold railsOff
  refine foldl_memOk _ ?_ _ h
  intro x a hx
  (try dsimp only); split <;> simp (maxDischargeDepth := 12) [*]

/-! ## Frame -/

@[simp] theorem beginFrame_ok (detWas : Bool) (start : Nat) {m : Mach} (h : m.memOk = true) : (beginFrame detWas start m).memOk = true := by
  unfold beginFrame; (try dsimp only); (repeat' split) <;> simp (maxDischargeDepth := 12) [*]

@[simp] theorem frameBoundary_ok {m : Mach} (h : m.memOk = true) : (frameBoundary m).memOk = true := by
  unfold frameBoundary; (try dsimp only); (repeat' split) <;> simp (maxDischargeDepth := 12) [*]

/-! ## Reset -/

@[simp] theorem startupLoad_ok (trimOk : Bool) {m : Mach} (h : m.memOk = true) : (startupLoad trimOk m).memOk = true := by
  unfold startupLoad; (try dsimp only); (repeat' split) <;> simp (maxDischargeDepth := 12) [*]

@[simp] theorem resetDomains_ok {m : Mach} (h : m.memOk = true) : (resetDomains m).memOk = true := by
  unfold resetDomains
  refine foldl_memOk _ ?_ _ h
  intro x a hx
  simp (maxDischargeDepth := 12) [*]

@[simp] theorem controllerReset_ok (trimOk : Bool) {m : Mach} (h : m.memOk = true) : (controllerReset trimOk m).memOk = true := by
  unfold controllerReset; (try dsimp only); (repeat' split) <;> simp (maxDischargeDepth := 12) [*]

@[simp] theorem coreReset_ok (c : Nat) {m : Mach} (h : m.memOk = true) : (coreReset c m).memOk = true := by
  unfold coreReset; (try dsimp only); (repeat' split) <;> simp (maxDischargeDepth := 12) [*]

@[simp] theorem watchdogExpiry_ok (c : Nat) {m : Mach} (h : m.memOk = true) : (watchdogExpiry c m).memOk = true := by
  unfold watchdogExpiry; (try dsimp only); (repeat' split) <;> simp (maxDischargeDepth := 12) [*]

@[simp] theorem supplyLoss_ok {m : Mach} (h : m.memOk = true) : (supplyLoss m).memOk = true := by
  unfold supplyLoss; (try dsimp only); (repeat' split) <;> simp (maxDischargeDepth := 12) [*]

@[simp] theorem powerOnReset_ok (straps : Word) (rail trimOk : Bool) {m : Mach} (h : m.memOk = true) : (powerOnReset straps rail trimOk m).memOk = true := by
  unfold powerOnReset; (try dsimp only); (repeat' split) <;> simp (maxDischargeDepth := 12) [*]

@[simp] theorem brownOut_ok (load : Bool) (rail : Option (Byte × Bool)) {m : Mach} (h : m.memOk = true) : (brownOut load rail m).memOk = true := by
  unfold brownOut; (try dsimp only); (repeat' split) <;> simp (maxDischargeDepth := 12) [*]

@[simp] theorem powerReset_ok (straps : Byte) (rail trimOk : Bool) {m : Mach} (h : m.memOk = true) : (powerReset straps rail trimOk m).memOk = true := by
  unfold powerReset; (try dsimp only); (repeat' split) <;> simp (maxDischargeDepth := 12) [*]

@[simp] theorem verifyDone_ok {m : Mach} (h : m.memOk = true) : (verifyDone m).memOk = true := by
  unfold verifyDone; (try dsimp only); (repeat' split) <;> simp (maxDischargeDepth := 12) [*]

/-! ## Rows -/

@[simp] theorem deadlinePass_ok (n : Nat) {m : Mach} (h : m.memOk = true) : (deadlinePass n m).memOk = true := by
  unfold deadlinePass; (try dsimp only); (repeat' split) <;> simp (maxDischargeDepth := 12) [*]

@[simp] theorem proceed_ok (m : Mach) {m1 : Mach} (h : m1.memOk = true) : (proceed m m1).memOk = true := by
  unfold proceed; split
  · split <;> simp (maxDischargeDepth := 12) [h]
  · exact h

@[simp] theorem busEvent_ok (f : Mach → Mach) {m : Mach} (h : (f m).memOk = true) : (busEvent f m).memOk = true := by
  unfold busEvent; rw [Mach.onHw_memOk]; exact h

@[simp] theorem digested_ok (idx ty n : Nat) (f : Mach → Mach) {m : Mach} (h : (f m).memOk = true) : (digested idx ty n f m).memOk = true := by
  unfold digested; (try dsimp only); (repeat' split) <;> simp (maxDischargeDepth := 12) [*]

@[simp] theorem canTxEnd_ok (n : Nat) (r : TxResult) (tdcv : Nat) {m : Mach} (h : m.memOk = true) : (canTxEnd n r tdcv m).memOk = true := by
  unfold canTxEnd; (try dsimp only); (repeat' split) <;> simp (maxDischargeDepth := 12) [*]

end Sys2Proof.Machine
end

