-- ==== Sys2Proof/Laws/Page.lean ====
section
/-!
SUPPORT. What a command that writes or reads a register does, once its access finds its way.
-/
namespace Sys2Proof.Machine

theorem State.onM_alive {s : State} (f : Mach → Mach) (h : s.alive = true) : s.onM f = { s with m := f s.m } := by
  have : s.m.hw.rst.off = false := by simpa [State.alive] using h
  simp [State.onM, this]

theorem State.onHw_alive {s : State} (f : Hw → Hw) (h : s.alive = true) : s.onHw f = s.withHw f := by
  simp [State.onHw, State.onM_alive _ h, State.withHw, Mach.onHw]

theorem State.run_alive {s : State} (f : Mach → Mach) (h : s.alive = true) : s.run f = { s with m := proceed s.m (f s.m) } := by
  rw [State.run, State.onM_alive _ h]

/-- A change that leaves the sequencer's change in progress alone lets no waiting access proceed (R444). -/
theorem proceed_same {m m1 : Mach} (h : m1.hw.pwr.cur = m.hw.pwr.cur) : proceed m m1 = m1 := by
  unfold proceed; rw [h]; split
  · rename_i c e; simp [e]
  · rfl

/-- With no entry in progress nothing that waits proceeds. -/
theorem proceed_idle {m : Mach} (m1 : Mach) (h : m.hw.pwr.cur = none) : proceed m m1 = m1 := by unfold proceed; rw [h]

/-- Every change of the module keeps the canonical form of the memory where its operation does. -/
theorem State.run_memOk {s : State} (f : Mach → Mach) (h : s.m.memOk = true) (hf : (f s.m).memOk = true) : (s.run f).m.memOk = true := by
  unfold State.run State.onM
  dsimp only
  split
  · exact h
  · exact proceed_ok _ hf

theorem pg_type {ty i off : Nat} (hi : i < 0x100) (ho : off < 0x1000) : pgType (pg ty i + off) = ty := by
  unfold pgType pg; omega

theorem pg_inst {ty i off : Nat} (hi : i < 0x100) (ho : off < 0x1000) : pgInst (pg ty i + off) = i := by
  unfold pgInst pg; omega

theorem pg_off {ty i off : Nat} (ho : off < 0x1000) : pgOff (pg ty i + off) = off := by
  unfold pgOff pg; omega

theorem pg_ge (ty i off : Nat) : 0x40000000 ≤ pg ty i + off := by unfold pg; omega

theorem pg_lt {ty i off : Nat} (ht : ty < 0x100) (hi : i < 0x100) (ho : off < 0x1000) : pg ty i + off < 0x50000000 := by
  unfold pg; omega

/-- A 32-bit access of a register of a populated page has no bus error. -/
theorem busKind_pg {ty i off : Nat} (w : Bool) (hp : (pageDomain ty i).isSome = true) (ht : ty < 0x100) (hi : i < 0x100) (ho : off < 0x1000)
    (h4 : off % 4 = 0) : busKind (pg ty i + off) 4 w = none := by
  have h1 := pg_ge ty i off
  have h2 := pg_lt ht hi ho
  have h3 : (pg ty i + off) % 4 = 0 := by unfold pg; omega
  have h5 : pageDomain ty i ≠ none := by intro h; simp [h] at hp
  simp [busKind, pg_type hi ho, pg_inst hi ho, h1, h2, h3, h5]
  intro _; omega

/-- A write command whose access finds its way writes the register. -/
theorem pageCmd_reach {ini : Initiator} {ty i off : Nat} {w : Word} {m : Mach} (ht : ty < 0x100) (hi : i < 0x100)
    (ho : off < 0x1000) (h4 : off % 4 = 0) (hr : reach m.hw ini ty i off true = true) :
    pageCmd ini ty i off w m = pageWrite ini ty i off w m := by
  simp only [reach, Bool.and_eq_true, Bool.not_eq_true'] at hr
  obtain ⟨⟨⟨⟨hp, h1⟩, hg⟩, h2⟩, h3⟩ := hr
  have hn : ¬ pg ty i + off < 0x40000000 := by have := pg_ge ty i off; omega
  simp [pageCmd, access, h1, hg, busWrite, h2, busKind_pg true hp ht hi ho h4, splitWords, h3, hn, pageWrites, pg_type hi ho, pg_inst hi ho,
    pg_off ho]

theorem pageReads_one (ini : Initiator) (a : Nat) (m : Mach) :
    pageReads ini a 1 m = pageRead ini (pgType a) (pgInst a) (pgOff a) m := by
  simp only [pageReads, Nat.mul_zero, Nat.add_zero]

/-- A read command whose access finds its way answers the register's value. -/
theorem pageGet_reach {ini : Initiator} {ty i off : Nat} {m : Mach} (ht : ty < 0x100) (hi : i < 0x100)
    (ho : off < 0x1000) (h4 : off % 4 = 0) (hr : reach m.hw ini ty i off false = true) :
    pageGet ini ty i off m =
      (pageRead ini ty i off m).2.onHw (fun h => { h with reply := (pageRead ini ty i off m).1 }) := by
  simp only [reach, Bool.and_eq_true, Bool.not_eq_true'] at hr
  obtain ⟨⟨⟨⟨hp, h1⟩, hg⟩, h2⟩, h3⟩ := hr
  have hn : ¬ pg ty i + off < 0x40000000 := by have := pg_ge ty i off; omega
  have ha : splitWords (pg ty i + off) 4 = [pg ty i + off] := by simp [splitWords]
  have hb : busRead ini (pg ty i + off) 4 m = .ok (pageRead ini ty i off m).1 (pageRead ini ty i off m).2 := by
    unfold busRead
    rw [busKind_pg false hp ht hi ho h4, ha]
    simp only [h2, h3, hn, Bool.not_true, Bool.and_false, List.all_cons, List.all_nil, Bool.and_true, if_true, if_false,
      Nat.lt_irrefl, Nat.div_self (show 0 < 4 by decide), pageReads_one, pg_type hi ho, pg_inst hi ho, pg_off ho]
    rfl
  unfold pageGet access
  simp only [h1, hg, Bool.not_true, hb]
  rfl

/-- A write that the lock allows, of a register that acts. -/
theorem pageWrite_act {ini : Initiator} {ty i off : Nat} {w : Word} {m m1 : Mach} (hf : (findReg ty i off).isSome = true)
    (hl : lockAllows m.hw ini ty i off = true) (ha : pageAct ini ty i off w m = some m1) : pageWrite ini ty i off w m = m1 := by
  obtain ⟨r, hr⟩ := Option.isSome_iff_exists.1 hf
  simp [pageWrite, hr, hl, ha]

/-- A write that the lock allows, of a register that only stores. -/
theorem pageWrite_plain {ini : Initiator} {ty i off : Nat} {w : Word} {m : Mach} {r : Reg} (hf : findReg ty i off = some r)
    (hl : lockAllows m.hw ini ty i off = true) (ha : pageAct ini ty i off w m = none) :
    pageWrite ini ty i off w m = m.onHw (plainWrite ty i off r w) := by
  simp [pageWrite, hf, hl, ha]

/-- A write command that reaches a register that acts. -/
theorem run_write_act {s : State} {ini : Initiator} {ty i off : Nat} {w : Word} {m1 : Mach} (hw : s.writes ini ty i off = true)
    (ht : ty < 0x100) (hi : i < 0x100) (ho : off < 0x1000) (h4 : off % 4 = 0) (hf : (findReg ty i off).isSome = true)
    (ha : pageAct ini ty i off w s.m = some m1) : s.run (pageCmd ini ty i off w) = { s with m := proceed s.m m1 } := by
  simp only [State.writes, State.arrives, Bool.and_eq_true] at hw
  obtain ⟨⟨h1, h2⟩, h3⟩ := hw
  rw [State.run_alive _ h1, pageCmd_reach ht hi ho h4 h2, pageWrite_act hf h3 ha]

/-- A read command that reaches its register. -/
theorem run_read {s : State} {ini : Initiator} {ty i off : Nat} (hr : s.reads ini ty i off = true)
    (ht : ty < 0x100) (hi : i < 0x100) (ho : off < 0x1000) (h4 : off % 4 = 0) : s.run (pageGet ini ty i off) =
      { s with m := proceed s.m ((pageRead ini ty i off s.m).2.onHw (fun h => { h with reply := (pageRead ini ty i off s.m).1 })) } := by
  simp only [State.reads, Bool.and_eq_true] at hr
  rw [State.run_alive _ hr.1, pageGet_reach ht hi ho h4 hr.2]

/-- A command that writes a register whose write changes the blocks, but not the change that the sequencer has in progress, gives that
change. -/
theorem gives_write {c : Instr} {s : State} {ini : Initiator} {ty i off : Nat} {w : Word} {f g : Hw → Hw}
    (hx : exec c s = .next (s.run (pageCmd ini ty i off w))) (hw : s.writes ini ty i off = true)
    (ha : pageAct ini ty i off w s.m = s.m.page f) (hp : (f s.m.hw).pwr.cur = s.m.hw.pwr.cur) (hg : f s.m.hw = g s.m.hw)
    (ht : ty < 0x100 := by decide) (hi : i < 0x100 := by decide) (ho : off < 0x1000 := by decide) (h4 : off % 4 = 0 := by decide)
    (hf : (findReg ty i off).isSome = true := by rfl) : Gives c s g := by
  unfold Gives
  rw [hx, run_write_act hw ht hi ho h4 hf ha, proceed_same (m1 := s.m.onHw f) hp, State.withHw, Mach.onHw, hg]

/-- A command that changes the blocks of a supplied module gives that change. -/
theorem gives_hw {c : Instr} {s : State} {f g : Hw → Hw} (hx : exec c s = .next (s.onHw f)) (ha : s.alive = true)
    (hg : f s.m.hw = g s.m.hw) : Gives c s g := by
  unfold Gives
  rw [hx, State.onHw_alive _ ha, State.withHw, State.withHw, hg]

end Sys2Proof.Machine
end

