-- ==== Sys2Proof/Laws/State.lean ====
section
/-!
SUPPORT. What the updates of the state change: one lemma per field per update; registers read after a register write.
-/
namespace Sys2Proof.Machine

/-! ## Updates of one field -/

@[simp] theorem wrA_straps (h : Hw) (a : Nat) (v : Word) : (wrA h a v).straps = h.straps := rfl
@[simp] theorem wrA_now (h : Hw) (a : Nat) (v : Word) : (wrA h a v).now = h.now := rfl
@[simp] theorem wrA_timebase (h : Hw) (a : Nat) (v : Word) : (wrA h a v).timebase = h.timebase := rfl
@[simp] theorem wrA_tbCopy (h : Hw) (a : Nat) (v : Word) : (wrA h a v).tbCopy = h.tbCopy := rfl
@[simp] theorem wrA_frame (h : Hw) (a : Nat) (v : Word) : (wrA h a v).frame = h.frame := rfl
@[simp] theorem wrA_frameStart (h : Hw) (a : Nat) (v : Word) : (wrA h a v).frameStart = h.frameStart := rfl
@[simp] theorem wrA_frameLen (h : Hw) (a : Nat) (v : Word) : (wrA h a v).frameLen = h.frameLen := rfl
@[simp] theorem wrA_freeCnt (h : Hw) (a : Nat) (v : Word) : (wrA h a v).freeCnt = h.freeCnt := rfl
@[simp] theorem wrA_applied (h : Hw) (a : Nat) (v : Word) : (wrA h a v).applied = h.applied := rfl
@[simp] theorem wrA_dieCfg (h : Hw) (a : Nat) (v : Word) : (wrA h a v).dieCfg = h.dieCfg := rfl
@[simp] theorem wrA_doms (h : Hw) (a : Nat) (v : Word) : (wrA h a v).doms = h.doms := rfl
@[simp] theorem wrA_pwr (h : Hw) (a : Nat) (v : Word) : (wrA h a v).pwr = h.pwr := rfl
@[simp] theorem wrA_feeds (h : Hw) (a : Nat) (v : Word) : (wrA h a v).feeds = h.feeds := rfl
@[simp] theorem wrA_hsw (h : Hw) (a : Nat) (v : Word) : (wrA h a v).hsw = h.hsw := rfl
@[simp] theorem wrA_hswT (h : Hw) (a : Nat) (v : Word) : (wrA h a v).hswT = h.hswT := rfl
@[simp] theorem wrA_epochs (h : Hw) (a : Nat) (v : Word) : (wrA h a v).epochs = h.epochs := rfl
@[simp] theorem wrA_meas (h : Hw) (a : Nat) (v : Word) : (wrA h a v).meas = h.meas := rfl
@[simp] theorem wrA_newSince (h : Hw) (a : Nat) (v : Word) : (wrA h a v).newSince = h.newSince := rfl
@[simp] theorem wrA_hbr (h : Hw) (a : Nat) (v : Word) : (wrA h a v).hbr = h.hbr := rfl
@[simp] theorem wrA_hbrTl (h : Hw) (a : Nat) (v : Word) : (wrA h a v).hbrTl = h.hbrTl := rfl
@[simp] theorem wrA_valves (h : Hw) (a : Nat) (v : Word) : (wrA h a v).valves = h.valves := rfl
@[simp] theorem wrA_banks (h : Hw) (a : Nat) (v : Word) : (wrA h a v).banks = h.banks := rfl
@[simp] theorem wrA_swi (h : Hw) (a : Nat) (v : Word) : (wrA h a v).swi = h.swi := rfl
@[simp] theorem wrA_swiAt (h : Hw) (a : Nat) (v : Word) : (wrA h a v).swiAt = h.swiAt := rfl
@[simp] theorem wrA_park (h : Hw) (a : Nat) (v : Word) : (wrA h a v).park = h.park := rfl
@[simp] theorem wrA_caps (h : Hw) (a : Nat) (v : Word) : (wrA h a v).caps = h.caps := rfl
@[simp] theorem wrA_olk (h : Hw) (a : Nat) (v : Word) : (wrA h a v).olk = h.olk := rfl
@[simp] theorem wrA_ctxs (h : Hw) (a : Nat) (v : Word) : (wrA h a v).ctxs = h.ctxs := rfl
@[simp] theorem wrA_lines (h : Hw) (a : Nat) (v : Word) : (wrA h a v).lines = h.lines := rfl
@[simp] theorem wrA_key (h : Hw) (a : Nat) (v : Word) : (wrA h a v).key = h.key := rfl
@[simp] theorem wrA_pages (h : Hw) (a : Nat) (v : Word) : (wrA h a v).pages = h.pages := rfl
@[simp] theorem wrA_queues (h : Hw) (a : Nat) (v : Word) : (wrA h a v).queues = h.queues := rfl
@[simp] theorem wrA_dma (h : Hw) (a : Nat) (v : Word) : (wrA h a v).dma = h.dma := rfl
@[simp] theorem wrA_dmaTurn (h : Hw) (a : Nat) (v : Word) : (wrA h a v).dmaTurn = h.dmaTurn := rfl
@[simp] theorem wrA_can (h : Hw) (a : Nat) (v : Word) : (wrA h a v).can = h.can := rfl
@[simp] theorem wrA_lin (h : Hw) (a : Nat) (v : Word) : (wrA h a v).lin = h.lin := rfl
@[simp] theorem wrA_eth (h : Hw) (a : Nat) (v : Word) : (wrA h a v).eth = h.eth := rfl
@[simp] theorem wrA_nsc (h : Hw) (a : Nat) (v : Word) : (wrA h a v).nsc = h.nsc := rfl
@[simp] theorem wrA_acc (h : Hw) (a : Nat) (v : Word) : (wrA h a v).acc = h.acc := rfl
@[simp] theorem wrA_cry (h : Hw) (a : Nat) (v : Word) : (wrA h a v).cry = h.cry := rfl
@[simp] theorem wrA_hung (h : Hw) (a : Nat) (v : Word) : (wrA h a v).hung = h.hung := rfl
@[simp] theorem wrA_waits (h : Hw) (a : Nat) (v : Word) : (wrA h a v).waits = h.waits := rfl
@[simp] theorem wrA_rst (h : Hw) (a : Nat) (v : Word) : (wrA h a v).rst = h.rst := rfl
@[simp] theorem wrA_bond (h : Hw) (a : Nat) (v : Word) : (wrA h a v).bond = h.bond := rfl
@[simp] theorem wrA_reply (h : Hw) (a : Nat) (v : Word) : (wrA h a v).reply = h.reply := rfl

@[simp] theorem wr_straps (h : Hw) (ty i off : Nat) (v : Word) : (wr h ty i off v).straps = h.straps := wrA_straps _ _ _
@[simp] theorem wr_now (h : Hw) (ty i off : Nat) (v : Word) : (wr h ty i off v).now = h.now := wrA_now _ _ _
@[simp] theorem wr_timebase (h : Hw) (ty i off : Nat) (v : Word) : (wr h ty i off v).timebase = h.timebase := wrA_timebase _ _ _
@[simp] theorem wr_tbCopy (h : Hw) (ty i off : Nat) (v : Word) : (wr h ty i off v).tbCopy = h.tbCopy := wrA_tbCopy _ _ _
@[simp] theorem wr_frame (h : Hw) (ty i off : Nat) (v : Word) : (wr h ty i off v).frame = h.frame := wrA_frame _ _ _
@[simp] theorem wr_frameStart (h : Hw) (ty i off : Nat) (v : Word) : (wr h ty i off v).frameStart = h.frameStart := wrA_frameStart _ _ _
@[simp] theorem wr_frameLen (h : Hw) (ty i off : Nat) (v : Word) : (wr h ty i off v).frameLen = h.frameLen := wrA_frameLen _ _ _
@[simp] theorem wr_freeCnt (h : Hw) (ty i off : Nat) (v : Word) : (wr h ty i off v).freeCnt = h.freeCnt := wrA_freeCnt _ _ _
@[simp] theorem wr_applied (h : Hw) (ty i off : Nat) (v : Word) : (wr h ty i off v).applied = h.applied := wrA_applied _ _ _
@[simp] theorem wr_dieCfg (h : Hw) (ty i off : Nat) (v : Word) : (wr h ty i off v).dieCfg = h.dieCfg := wrA_dieCfg _ _ _
@[simp] theorem wr_doms (h : Hw) (ty i off : Nat) (v : Word) : (wr h ty i off v).doms = h.doms := wrA_doms _ _ _
@[simp] theorem wr_pwr (h : Hw) (ty i off : Nat) (v : Word) : (wr h ty i off v).pwr = h.pwr := wrA_pwr _ _ _
@[simp] theorem wr_feeds (h : Hw) (ty i off : Nat) (v : Word) : (wr h ty i off v).feeds = h.feeds := wrA_feeds _ _ _
@[simp] theorem wr_hsw (h : Hw) (ty i off : Nat) (v : Word) : (wr h ty i off v).hsw = h.hsw := wrA_hsw _ _ _
@[simp] theorem wr_hswT (h : Hw) (ty i off : Nat) (v : Word) : (wr h ty i off v).hswT = h.hswT := wrA_hswT _ _ _
@[simp] theorem wr_epochs (h : Hw) (ty i off : Nat) (v : Word) : (wr h ty i off v).epochs = h.epochs := wrA_epochs _ _ _
@[simp] theorem wr_meas (h : Hw) (ty i off : Nat) (v : Word) : (wr h ty i off v).meas = h.meas := wrA_meas _ _ _
@[simp] theorem wr_newSince (h : Hw) (ty i off : Nat) (v : Word) : (wr h ty i off v).newSince = h.newSince := wrA_newSince _ _ _
@[simp] theorem wr_hbr (h : Hw) (ty i off : Nat) (v : Word) : (wr h ty i off v).hbr = h.hbr := wrA_hbr _ _ _
@[simp] theorem wr_hbrTl (h : Hw) (ty i off : Nat) (v : Word) : (wr h ty i off v).hbrTl = h.hbrTl := wrA_hbrTl _ _ _
@[simp] theorem wr_valves (h : Hw) (ty i off : Nat) (v : Word) : (wr h ty i off v).valves = h.valves := wrA_valves _ _ _
@[simp] theorem wr_banks (h : Hw) (ty i off : Nat) (v : Word) : (wr h ty i off v).banks = h.banks := wrA_banks _ _ _
@[simp] theorem wr_swi (h : Hw) (ty i off : Nat) (v : Word) : (wr h ty i off v).swi = h.swi := wrA_swi _ _ _
@[simp] theorem wr_swiAt (h : Hw) (ty i off : Nat) (v : Word) : (wr h ty i off v).swiAt = h.swiAt := wrA_swiAt _ _ _
@[simp] theorem wr_park (h : Hw) (ty i off : Nat) (v : Word) : (wr h ty i off v).park = h.park := wrA_park _ _ _
@[simp] theorem wr_caps (h : Hw) (ty i off : Nat) (v : Word) : (wr h ty i off v).caps = h.caps := wrA_caps _ _ _
@[simp] theorem wr_olk (h : Hw) (ty i off : Nat) (v : Word) : (wr h ty i off v).olk = h.olk := wrA_olk _ _ _
@[simp] theorem wr_ctxs (h : Hw) (ty i off : Nat) (v : Word) : (wr h ty i off v).ctxs = h.ctxs := wrA_ctxs _ _ _
@[simp] theorem wr_lines (h : Hw) (ty i off : Nat) (v : Word) : (wr h ty i off v).lines = h.lines := wrA_lines _ _ _
@[simp] theorem wr_key (h : Hw) (ty i off : Nat) (v : Word) : (wr h ty i off v).key = h.key := wrA_key _ _ _
@[simp] theorem wr_pages (h : Hw) (ty i off : Nat) (v : Word) : (wr h ty i off v).pages = h.pages := wrA_pages _ _ _
@[simp] theorem wr_queues (h : Hw) (ty i off : Nat) (v : Word) : (wr h ty i off v).queues = h.queues := wrA_queues _ _ _
@[simp] theorem wr_dma (h : Hw) (ty i off : Nat) (v : Word) : (wr h ty i off v).dma = h.dma := wrA_dma _ _ _
@[simp] theorem wr_dmaTurn (h : Hw) (ty i off : Nat) (v : Word) : (wr h ty i off v).dmaTurn = h.dmaTurn := wrA_dmaTurn _ _ _
@[simp] theorem wr_can (h : Hw) (ty i off : Nat) (v : Word) : (wr h ty i off v).can = h.can := wrA_can _ _ _
@[simp] theorem wr_lin (h : Hw) (ty i off : Nat) (v : Word) : (wr h ty i off v).lin = h.lin := wrA_lin _ _ _
@[simp] theorem wr_eth (h : Hw) (ty i off : Nat) (v : Word) : (wr h ty i off v).eth = h.eth := wrA_eth _ _ _
@[simp] theorem wr_nsc (h : Hw) (ty i off : Nat) (v : Word) : (wr h ty i off v).nsc = h.nsc := wrA_nsc _ _ _
@[simp] theorem wr_acc (h : Hw) (ty i off : Nat) (v : Word) : (wr h ty i off v).acc = h.acc := wrA_acc _ _ _
@[simp] theorem wr_cry (h : Hw) (ty i off : Nat) (v : Word) : (wr h ty i off v).cry = h.cry := wrA_cry _ _ _
@[simp] theorem wr_hung (h : Hw) (ty i off : Nat) (v : Word) : (wr h ty i off v).hung = h.hung := wrA_hung _ _ _
@[simp] theorem wr_waits (h : Hw) (ty i off : Nat) (v : Word) : (wr h ty i off v).waits = h.waits := wrA_waits _ _ _
@[simp] theorem wr_rst (h : Hw) (ty i off : Nat) (v : Word) : (wr h ty i off v).rst = h.rst := wrA_rst _ _ _
@[simp] theorem wr_bond (h : Hw) (ty i off : Nat) (v : Word) : (wr h ty i off v).bond = h.bond := wrA_bond _ _ _
@[simp] theorem wr_reply (h : Hw) (ty i off : Nat) (v : Word) : (wr h ty i off v).reply = h.reply := wrA_reply _ _ _

@[simp] theorem wrF_straps (h : Hw) (ty i off lo n v : Nat) : (wrF h ty i off lo n v).straps = h.straps := wr_straps _ _ _ _ _
@[simp] theorem wrF_now (h : Hw) (ty i off lo n v : Nat) : (wrF h ty i off lo n v).now = h.now := wr_now _ _ _ _ _
@[simp] theorem wrF_timebase (h : Hw) (ty i off lo n v : Nat) : (wrF h ty i off lo n v).timebase = h.timebase := wr_timebase _ _ _ _ _
@[simp] theorem wrF_tbCopy (h : Hw) (ty i off lo n v : Nat) : (wrF h ty i off lo n v).tbCopy = h.tbCopy := wr_tbCopy _ _ _ _ _
@[simp] theorem wrF_frame (h : Hw) (ty i off lo n v : Nat) : (wrF h ty i off lo n v).frame = h.frame := wr_frame _ _ _ _ _
@[simp] theorem wrF_frameStart (h : Hw) (ty i off lo n v : Nat) : (wrF h ty i off lo n v).frameStart = h.frameStart := wr_frameStart _ _ _ _ _
@[simp] theorem wrF_frameLen (h : Hw) (ty i off lo n v : Nat) : (wrF h ty i off lo n v).frameLen = h.frameLen := wr_frameLen _ _ _ _ _
@[simp] theorem wrF_freeCnt (h : Hw) (ty i off lo n v : Nat) : (wrF h ty i off lo n v).freeCnt = h.freeCnt := wr_freeCnt _ _ _ _ _
@[simp] theorem wrF_applied (h : Hw) (ty i off lo n v : Nat) : (wrF h ty i off lo n v).applied = h.applied := wr_applied _ _ _ _ _
@[simp] theorem wrF_dieCfg (h : Hw) (ty i off lo n v : Nat) : (wrF h ty i off lo n v).dieCfg = h.dieCfg := wr_dieCfg _ _ _ _ _
@[simp] theorem wrF_doms (h : Hw) (ty i off lo n v : Nat) : (wrF h ty i off lo n v).doms = h.doms := wr_doms _ _ _ _ _
@[simp] theorem wrF_pwr (h : Hw) (ty i off lo n v : Nat) : (wrF h ty i off lo n v).pwr = h.pwr := wr_pwr _ _ _ _ _
@[simp] theorem wrF_feeds (h : Hw) (ty i off lo n v : Nat) : (wrF h ty i off lo n v).feeds = h.feeds := wr_feeds _ _ _ _ _
@[simp] theorem wrF_hsw (h : Hw) (ty i off lo n v : Nat) : (wrF h ty i off lo n v).hsw = h.hsw := wr_hsw _ _ _ _ _
@[simp] theorem wrF_hswT (h : Hw) (ty i off lo n v : Nat) : (wrF h ty i off lo n v).hswT = h.hswT := wr_hswT _ _ _ _ _
@[simp] theorem wrF_epochs (h : Hw) (ty i off lo n v : Nat) : (wrF h ty i off lo n v).epochs = h.epochs := wr_epochs _ _ _ _ _
@[simp] theorem wrF_meas (h : Hw) (ty i off lo n v : Nat) : (wrF h ty i off lo n v).meas = h.meas := wr_meas _ _ _ _ _
@[simp] theorem wrF_newSince (h : Hw) (ty i off lo n v : Nat) : (wrF h ty i off lo n v).newSince = h.newSince := wr_newSince _ _ _ _ _
@[simp] theorem wrF_hbr (h : Hw) (ty i off lo n v : Nat) : (wrF h ty i off lo n v).hbr = h.hbr := wr_hbr _ _ _ _ _
@[simp] theorem wrF_hbrTl (h : Hw) (ty i off lo n v : Nat) : (wrF h ty i off lo n v).hbrTl = h.hbrTl := wr_hbrTl _ _ _ _ _
@[simp] theorem wrF_valves (h : Hw) (ty i off lo n v : Nat) : (wrF h ty i off lo n v).valves = h.valves := wr_valves _ _ _ _ _
@[simp] theorem wrF_banks (h : Hw) (ty i off lo n v : Nat) : (wrF h ty i off lo n v).banks = h.banks := wr_banks _ _ _ _ _
@[simp] theorem wrF_swi (h : Hw) (ty i off lo n v : Nat) : (wrF h ty i off lo n v).swi = h.swi := wr_swi _ _ _ _ _
@[simp] theorem wrF_swiAt (h : Hw) (ty i off lo n v : Nat) : (wrF h ty i off lo n v).swiAt = h.swiAt := wr_swiAt _ _ _ _ _
@[simp] theorem wrF_park (h : Hw) (ty i off lo n v : Nat) : (wrF h ty i off lo n v).park = h.park := wr_park _ _ _ _ _
@[simp] theorem wrF_caps (h : Hw) (ty i off lo n v : Nat) : (wrF h ty i off lo n v).caps = h.caps := wr_caps _ _ _ _ _
@[simp] theorem wrF_olk (h : Hw) (ty i off lo n v : Nat) : (wrF h ty i off lo n v).olk = h.olk := wr_olk _ _ _ _ _
@[simp] theorem wrF_ctxs (h : Hw) (ty i off lo n v : Nat) : (wrF h ty i off lo n v).ctxs = h.ctxs := wr_ctxs _ _ _ _ _
@[simp] theorem wrF_lines (h : Hw) (ty i off lo n v : Nat) : (wrF h ty i off lo n v).lines = h.lines := wr_lines _ _ _ _ _
@[simp] theorem wrF_key (h : Hw) (ty i off lo n v : Nat) : (wrF h ty i off lo n v).key = h.key := wr_key _ _ _ _ _
@[simp] theorem wrF_pages (h : Hw) (ty i off lo n v : Nat) : (wrF h ty i off lo n v).pages = h.pages := wr_pages _ _ _ _ _
@[simp] theorem wrF_queues (h : Hw) (ty i off lo n v : Nat) : (wrF h ty i off lo n v).queues = h.queues := wr_queues _ _ _ _ _
@[simp] theorem wrF_dma (h : Hw) (ty i off lo n v : Nat) : (wrF h ty i off lo n v).dma = h.dma := wr_dma _ _ _ _ _
@[simp] theorem wrF_dmaTurn (h : Hw) (ty i off lo n v : Nat) : (wrF h ty i off lo n v).dmaTurn = h.dmaTurn := wr_dmaTurn _ _ _ _ _
@[simp] theorem wrF_can (h : Hw) (ty i off lo n v : Nat) : (wrF h ty i off lo n v).can = h.can := wr_can _ _ _ _ _
@[simp] theorem wrF_lin (h : Hw) (ty i off lo n v : Nat) : (wrF h ty i off lo n v).lin = h.lin := wr_lin _ _ _ _ _
@[simp] theorem wrF_eth (h : Hw) (ty i off lo n v : Nat) : (wrF h ty i off lo n v).eth = h.eth := wr_eth _ _ _ _ _
@[simp] theorem wrF_nsc (h : Hw) (ty i off lo n v : Nat) : (wrF h ty i off lo n v).nsc = h.nsc := wr_nsc _ _ _ _ _
@[simp] theorem wrF_acc (h : Hw) (ty i off lo n v : Nat) : (wrF h ty i off lo n v).acc = h.acc := wr_acc _ _ _ _ _
@[simp] theorem wrF_cry (h : Hw) (ty i off lo n v : Nat) : (wrF h ty i off lo n v).cry = h.cry := wr_cry _ _ _ _ _
@[simp] theorem wrF_hung (h : Hw) (ty i off lo n v : Nat) : (wrF h ty i off lo n v).hung = h.hung := wr_hung _ _ _ _ _
@[simp] theorem wrF_waits (h : Hw) (ty i off lo n v : Nat) : (wrF h ty i off lo n v).waits = h.waits := wr_waits _ _ _ _ _
@[simp] theorem wrF_rst (h : Hw) (ty i off lo n v : Nat) : (wrF h ty i off lo n v).rst = h.rst := wr_rst _ _ _ _ _
@[simp] theorem wrF_bond (h : Hw) (ty i off lo n v : Nat) : (wrF h ty i off lo n v).bond = h.bond := wr_bond _ _ _ _ _
@[simp] theorem wrF_reply (h : Hw) (ty i off lo n v : Nat) : (wrF h ty i off lo n v).reply = h.reply := wr_reply _ _ _ _ _

@[simp] theorem incSat_straps (h : Hw) (ty i off lo n k : Nat) : (incSat h ty i off lo n k).straps = h.straps := wrF_straps _ _ _ _ _ _ _
@[simp] theorem incSat_now (h : Hw) (ty i off lo n k : Nat) : (incSat h ty i off lo n k).now = h.now := wrF_now _ _ _ _ _ _ _
@[simp] theorem incSat_timebase (h : Hw) (ty i off lo n k : Nat) : (incSat h ty i off lo n k).timebase = h.timebase := wrF_timebase _ _ _ _ _ _ _
@[simp] theorem incSat_tbCopy (h : Hw) (ty i off lo n k : Nat) : (incSat h ty i off lo n k).tbCopy = h.tbCopy := wrF_tbCopy _ _ _ _ _ _ _
@[simp] theorem incSat_frame (h : Hw) (ty i off lo n k : Nat) : (incSat h ty i off lo n k).frame = h.frame := wrF_frame _ _ _ _ _ _ _
@[simp] theorem incSat_frameStart (h : Hw) (ty i off lo n k : Nat) : (incSat h ty i off lo n k).frameStart = h.frameStart := wrF_frameStart _ _ _ _ _ _ _
@[simp] theorem incSat_frameLen (h : Hw) (ty i off lo n k : Nat) : (incSat h ty i off lo n k).frameLen = h.frameLen := wrF_frameLen _ _ _ _ _ _ _
@[simp] theorem incSat_freeCnt (h : Hw) (ty i off lo n k : Nat) : (incSat h ty i off lo n k).freeCnt = h.freeCnt := wrF_freeCnt _ _ _ _ _ _ _
@[simp] theorem incSat_applied (h : Hw) (ty i off lo n k : Nat) : (incSat h ty i off lo n k).applied = h.applied := wrF_applied _ _ _ _ _ _ _
@[simp] theorem incSat_dieCfg (h : Hw) (ty i off lo n k : Nat) : (incSat h ty i off lo n k).dieCfg = h.dieCfg := wrF_dieCfg _ _ _ _ _ _ _
@[simp] theorem incSat_doms (h : Hw) (ty i off lo n k : Nat) : (incSat h ty i off lo n k).doms = h.doms := wrF_doms _ _ _ _ _ _ _
@[simp] theorem incSat_pwr (h : Hw) (ty i off lo n k : Nat) : (incSat h ty i off lo n k).pwr = h.pwr := wrF_pwr _ _ _ _ _ _ _
@[simp] theorem incSat_feeds (h : Hw) (ty i off lo n k : Nat) : (incSat h ty i off lo n k).feeds = h.feeds := wrF_feeds _ _ _ _ _ _ _
@[simp] theorem incSat_hsw (h : Hw) (ty i off lo n k : Nat) : (incSat h ty i off lo n k).hsw = h.hsw := wrF_hsw _ _ _ _ _ _ _
@[simp] theorem incSat_hswT (h : Hw) (ty i off lo n k : Nat) : (incSat h ty i off lo n k).hswT = h.hswT := wrF_hswT _ _ _ _ _ _ _
@[simp] theorem incSat_epochs (h : Hw) (ty i off lo n k : Nat) : (incSat h ty i off lo n k).epochs = h.epochs := wrF_epochs _ _ _ _ _ _ _
@[simp] theorem incSat_meas (h : Hw) (ty i off lo n k : Nat) : (incSat h ty i off lo n k).meas = h.meas := wrF_meas _ _ _ _ _ _ _
@[simp] theorem incSat_newSince (h : Hw) (ty i off lo n k : Nat) : (incSat h ty i off lo n k).newSince = h.newSince := wrF_newSince _ _ _ _ _ _ _
@[simp] theorem incSat_hbr (h : Hw) (ty i off lo n k : Nat) : (incSat h ty i off lo n k).hbr = h.hbr := wrF_hbr _ _ _ _ _ _ _
@[simp] theorem incSat_hbrTl (h : Hw) (ty i off lo n k : Nat) : (incSat h ty i off lo n k).hbrTl = h.hbrTl := wrF_hbrTl _ _ _ _ _ _ _
@[simp] theorem incSat_valves (h : Hw) (ty i off lo n k : Nat) : (incSat h ty i off lo n k).valves = h.valves := wrF_valves _ _ _ _ _ _ _
@[simp] theorem incSat_banks (h : Hw) (ty i off lo n k : Nat) : (incSat h ty i off lo n k).banks = h.banks := wrF_banks _ _ _ _ _ _ _
@[simp] theorem incSat_swi (h : Hw) (ty i off lo n k : Nat) : (incSat h ty i off lo n k).swi = h.swi := wrF_swi _ _ _ _ _ _ _
@[simp] theorem incSat_swiAt (h : Hw) (ty i off lo n k : Nat) : (incSat h ty i off lo n k).swiAt = h.swiAt := wrF_swiAt _ _ _ _ _ _ _
@[simp] theorem incSat_park (h : Hw) (ty i off lo n k : Nat) : (incSat h ty i off lo n k).park = h.park := wrF_park _ _ _ _ _ _ _
@[simp] theorem incSat_caps (h : Hw) (ty i off lo n k : Nat) : (incSat h ty i off lo n k).caps = h.caps := wrF_caps _ _ _ _ _ _ _
@[simp] theorem incSat_olk (h : Hw) (ty i off lo n k : Nat) : (incSat h ty i off lo n k).olk = h.olk := wrF_olk _ _ _ _ _ _ _
@[simp] theorem incSat_ctxs (h : Hw) (ty i off lo n k : Nat) : (incSat h ty i off lo n k).ctxs = h.ctxs := wrF_ctxs _ _ _ _ _ _ _
@[simp] theorem incSat_lines (h : Hw) (ty i off lo n k : Nat) : (incSat h ty i off lo n k).lines = h.lines := wrF_lines _ _ _ _ _ _ _
@[simp] theorem incSat_key (h : Hw) (ty i off lo n k : Nat) : (incSat h ty i off lo n k).key = h.key := wrF_key _ _ _ _ _ _ _
@[simp] theorem incSat_pages (h : Hw) (ty i off lo n k : Nat) : (incSat h ty i off lo n k).pages = h.pages := wrF_pages _ _ _ _ _ _ _
@[simp] theorem incSat_queues (h : Hw) (ty i off lo n k : Nat) : (incSat h ty i off lo n k).queues = h.queues := wrF_queues _ _ _ _ _ _ _
@[simp] theorem incSat_dma (h : Hw) (ty i off lo n k : Nat) : (incSat h ty i off lo n k).dma = h.dma := wrF_dma _ _ _ _ _ _ _
@[simp] theorem incSat_dmaTurn (h : Hw) (ty i off lo n k : Nat) : (incSat h ty i off lo n k).dmaTurn = h.dmaTurn := wrF_dmaTurn _ _ _ _ _ _ _
@[simp] theorem incSat_can (h : Hw) (ty i off lo n k : Nat) : (incSat h ty i off lo n k).can = h.can := wrF_can _ _ _ _ _ _ _
@[simp] theorem incSat_lin (h : Hw) (ty i off lo n k : Nat) : (incSat h ty i off lo n k).lin = h.lin := wrF_lin _ _ _ _ _ _ _
@[simp] theorem incSat_eth (h : Hw) (ty i off lo n k : Nat) : (incSat h ty i off lo n k).eth = h.eth := wrF_eth _ _ _ _ _ _ _
@[simp] theorem incSat_nsc (h : Hw) (ty i off lo n k : Nat) : (incSat h ty i off lo n k).nsc = h.nsc := wrF_nsc _ _ _ _ _ _ _
@[simp] theorem incSat_acc (h : Hw) (ty i off lo n k : Nat) : (incSat h ty i off lo n k).acc = h.acc := wrF_acc _ _ _ _ _ _ _
@[simp] theorem incSat_cry (h : Hw) (ty i off lo n k : Nat) : (incSat h ty i off lo n k).cry = h.cry := wrF_cry _ _ _ _ _ _ _
@[simp] theorem incSat_hung (h : Hw) (ty i off lo n k : Nat) : (incSat h ty i off lo n k).hung = h.hung := wrF_hung _ _ _ _ _ _ _
@[simp] theorem incSat_waits (h : Hw) (ty i off lo n k : Nat) : (incSat h ty i off lo n k).waits = h.waits := wrF_waits _ _ _ _ _ _ _
@[simp] theorem incSat_rst (h : Hw) (ty i off lo n k : Nat) : (incSat h ty i off lo n k).rst = h.rst := wrF_rst _ _ _ _ _ _ _
@[simp] theorem incSat_bond (h : Hw) (ty i off lo n k : Nat) : (incSat h ty i off lo n k).bond = h.bond := wrF_bond _ _ _ _ _ _ _
@[simp] theorem incSat_reply (h : Hw) (ty i off lo n k : Nat) : (incSat h ty i off lo n k).reply = h.reply := wrF_reply _ _ _ _ _ _ _

@[simp] theorem incWrap_straps (h : Hw) (ty i off lo n : Nat) : (incWrap h ty i off lo n).straps = h.straps := wrF_straps _ _ _ _ _ _ _
@[simp] theorem incWrap_now (h : Hw) (ty i off lo n : Nat) : (incWrap h ty i off lo n).now = h.now := wrF_now _ _ _ _ _ _ _
@[simp] theorem incWrap_timebase (h : Hw) (ty i off lo n : Nat) : (incWrap h ty i off lo n).timebase = h.timebase := wrF_timebase _ _ _ _ _ _ _
@[simp] theorem incWrap_tbCopy (h : Hw) (ty i off lo n : Nat) : (incWrap h ty i off lo n).tbCopy = h.tbCopy := wrF_tbCopy _ _ _ _ _ _ _
@[simp] theorem incWrap_frame (h : Hw) (ty i off lo n : Nat) : (incWrap h ty i off lo n).frame = h.frame := wrF_frame _ _ _ _ _ _ _
@[simp] theorem incWrap_frameStart (h : Hw) (ty i off lo n : Nat) : (incWrap h ty i off lo n).frameStart = h.frameStart := wrF_frameStart _ _ _ _ _ _ _
@[simp] theorem incWrap_frameLen (h : Hw) (ty i off lo n : Nat) : (incWrap h ty i off lo n).frameLen = h.frameLen := wrF_frameLen _ _ _ _ _ _ _
@[simp] theorem incWrap_freeCnt (h : Hw) (ty i off lo n : Nat) : (incWrap h ty i off lo n).freeCnt = h.freeCnt := wrF_freeCnt _ _ _ _ _ _ _
@[simp] theorem incWrap_applied (h : Hw) (ty i off lo n : Nat) : (incWrap h ty i off lo n).applied = h.applied := wrF_applied _ _ _ _ _ _ _
@[simp] theorem incWrap_dieCfg (h : Hw) (ty i off lo n : Nat) : (incWrap h ty i off lo n).dieCfg = h.dieCfg := wrF_dieCfg _ _ _ _ _ _ _
@[simp] theorem incWrap_doms (h : Hw) (ty i off lo n : Nat) : (incWrap h ty i off lo n).doms = h.doms := wrF_doms _ _ _ _ _ _ _
@[simp] theorem incWrap_pwr (h : Hw) (ty i off lo n : Nat) : (incWrap h ty i off lo n).pwr = h.pwr := wrF_pwr _ _ _ _ _ _ _
@[simp] theorem incWrap_feeds (h : Hw) (ty i off lo n : Nat) : (incWrap h ty i off lo n).feeds = h.feeds := wrF_feeds _ _ _ _ _ _ _
@[simp] theorem incWrap_hsw (h : Hw) (ty i off lo n : Nat) : (incWrap h ty i off lo n).hsw = h.hsw := wrF_hsw _ _ _ _ _ _ _
@[simp] theorem incWrap_hswT (h : Hw) (ty i off lo n : Nat) : (incWrap h ty i off lo n).hswT = h.hswT := wrF_hswT _ _ _ _ _ _ _
@[simp] theorem incWrap_epochs (h : Hw) (ty i off lo n : Nat) : (incWrap h ty i off lo n).epochs = h.epochs := wrF_epochs _ _ _ _ _ _ _
@[simp] theorem incWrap_meas (h : Hw) (ty i off lo n : Nat) : (incWrap h ty i off lo n).meas = h.meas := wrF_meas _ _ _ _ _ _ _
@[simp] theorem incWrap_newSince (h : Hw) (ty i off lo n : Nat) : (incWrap h ty i off lo n).newSince = h.newSince := wrF_newSince _ _ _ _ _ _ _
@[simp] theorem incWrap_hbr (h : Hw) (ty i off lo n : Nat) : (incWrap h ty i off lo n).hbr = h.hbr := wrF_hbr _ _ _ _ _ _ _
@[simp] theorem incWrap_hbrTl (h : Hw) (ty i off lo n : Nat) : (incWrap h ty i off lo n).hbrTl = h.hbrTl := wrF_hbrTl _ _ _ _ _ _ _
@[simp] theorem incWrap_valves (h : Hw) (ty i off lo n : Nat) : (incWrap h ty i off lo n).valves = h.valves := wrF_valves _ _ _ _ _ _ _
@[simp] theorem incWrap_banks (h : Hw) (ty i off lo n : Nat) : (incWrap h ty i off lo n).banks = h.banks := wrF_banks _ _ _ _ _ _ _
@[simp] theorem incWrap_swi (h : Hw) (ty i off lo n : Nat) : (incWrap h ty i off lo n).swi = h.swi := wrF_swi _ _ _ _ _ _ _
@[simp] theorem incWrap_swiAt (h : Hw) (ty i off lo n : Nat) : (incWrap h ty i off lo n).swiAt = h.swiAt := wrF_swiAt _ _ _ _ _ _ _
@[simp] theorem incWrap_park (h : Hw) (ty i off lo n : Nat) : (incWrap h ty i off lo n).park = h.park := wrF_park _ _ _ _ _ _ _
@[simp] theorem incWrap_caps (h : Hw) (ty i off lo n : Nat) : (incWrap h ty i off lo n).caps = h.caps := wrF_caps _ _ _ _ _ _ _
@[simp] theorem incWrap_olk (h : Hw) (ty i off lo n : Nat) : (incWrap h ty i off lo n).olk = h.olk := wrF_olk _ _ _ _ _ _ _
@[simp] theorem incWrap_ctxs (h : Hw) (ty i off lo n : Nat) : (incWrap h ty i off lo n).ctxs = h.ctxs := wrF_ctxs _ _ _ _ _ _ _
@[simp] theorem incWrap_lines (h : Hw) (ty i off lo n : Nat) : (incWrap h ty i off lo n).lines = h.lines := wrF_lines _ _ _ _ _ _ _
@[simp] theorem incWrap_key (h : Hw) (ty i off lo n : Nat) : (incWrap h ty i off lo n).key = h.key := wrF_key _ _ _ _ _ _ _
@[simp] theorem incWrap_pages (h : Hw) (ty i off lo n : Nat) : (incWrap h ty i off lo n).pages = h.pages := wrF_pages _ _ _ _ _ _ _
@[simp] theorem incWrap_queues (h : Hw) (ty i off lo n : Nat) : (incWrap h ty i off lo n).queues = h.queues := wrF_queues _ _ _ _ _ _ _
@[simp] theorem incWrap_dma (h : Hw) (ty i off lo n : Nat) : (incWrap h ty i off lo n).dma = h.dma := wrF_dma _ _ _ _ _ _ _
@[simp] theorem incWrap_dmaTurn (h : Hw) (ty i off lo n : Nat) : (incWrap h ty i off lo n).dmaTurn = h.dmaTurn := wrF_dmaTurn _ _ _ _ _ _ _
@[simp] theorem incWrap_can (h : Hw) (ty i off lo n : Nat) : (incWrap h ty i off lo n).can = h.can := wrF_can _ _ _ _ _ _ _
@[simp] theorem incWrap_lin (h : Hw) (ty i off lo n : Nat) : (incWrap h ty i off lo n).lin = h.lin := wrF_lin _ _ _ _ _ _ _
@[simp] theorem incWrap_eth (h : Hw) (ty i off lo n : Nat) : (incWrap h ty i off lo n).eth = h.eth := wrF_eth _ _ _ _ _ _ _
@[simp] theorem incWrap_nsc (h : Hw) (ty i off lo n : Nat) : (incWrap h ty i off lo n).nsc = h.nsc := wrF_nsc _ _ _ _ _ _ _
@[simp] theorem incWrap_acc (h : Hw) (ty i off lo n : Nat) : (incWrap h ty i off lo n).acc = h.acc := wrF_acc _ _ _ _ _ _ _
@[simp] theorem incWrap_cry (h : Hw) (ty i off lo n : Nat) : (incWrap h ty i off lo n).cry = h.cry := wrF_cry _ _ _ _ _ _ _
@[simp] theorem incWrap_hung (h : Hw) (ty i off lo n : Nat) : (incWrap h ty i off lo n).hung = h.hung := wrF_hung _ _ _ _ _ _ _
@[simp] theorem incWrap_waits (h : Hw) (ty i off lo n : Nat) : (incWrap h ty i off lo n).waits = h.waits := wrF_waits _ _ _ _ _ _ _
@[simp] theorem incWrap_rst (h : Hw) (ty i off lo n : Nat) : (incWrap h ty i off lo n).rst = h.rst := wrF_rst _ _ _ _ _ _ _
@[simp] theorem incWrap_bond (h : Hw) (ty i off lo n : Nat) : (incWrap h ty i off lo n).bond = h.bond := wrF_bond _ _ _ _ _ _ _
@[simp] theorem incWrap_reply (h : Hw) (ty i off lo n : Nat) : (incWrap h ty i off lo n).reply = h.reply := wrF_reply _ _ _ _ _ _ _

@[simp] theorem setDom_straps (h : Hw) (d : Nat) (r : Dom) : (setDom h d r).straps = h.straps := rfl
@[simp] theorem setDom_now (h : Hw) (d : Nat) (r : Dom) : (setDom h d r).now = h.now := rfl
@[simp] theorem setDom_timebase (h : Hw) (d : Nat) (r : Dom) : (setDom h d r).timebase = h.timebase := rfl
@[simp] theorem setDom_tbCopy (h : Hw) (d : Nat) (r : Dom) : (setDom h d r).tbCopy = h.tbCopy := rfl
@[simp] theorem setDom_frame (h : Hw) (d : Nat) (r : Dom) : (setDom h d r).frame = h.frame := rfl
@[simp] theorem setDom_frameStart (h : Hw) (d : Nat) (r : Dom) : (setDom h d r).frameStart = h.frameStart := rfl
@[simp] theorem setDom_frameLen (h : Hw) (d : Nat) (r : Dom) : (setDom h d r).frameLen = h.frameLen := rfl
@[simp] theorem setDom_freeCnt (h : Hw) (d : Nat) (r : Dom) : (setDom h d r).freeCnt = h.freeCnt := rfl
@[simp] theorem setDom_regs (h : Hw) (d : Nat) (r : Dom) : (setDom h d r).regs = h.regs := rfl
@[simp] theorem setDom_applied (h : Hw) (d : Nat) (r : Dom) : (setDom h d r).applied = h.applied := rfl
@[simp] theorem setDom_dieCfg (h : Hw) (d : Nat) (r : Dom) : (setDom h d r).dieCfg = h.dieCfg := rfl
@[simp] theorem setDom_pwr (h : Hw) (d : Nat) (r : Dom) : (setDom h d r).pwr = h.pwr := rfl
@[simp] theorem setDom_feeds (h : Hw) (d : Nat) (r : Dom) : (setDom h d r).feeds = h.feeds := rfl
@[simp] theorem setDom_hsw (h : Hw) (d : Nat) (r : Dom) : (setDom h d r).hsw = h.hsw := rfl
@[simp] theorem setDom_hswT (h : Hw) (d : Nat) (r : Dom) : (setDom h d r).hswT = h.hswT := rfl
@[simp] theorem setDom_epochs (h : Hw) (d : Nat) (r : Dom) : (setDom h d r).epochs = h.epochs := rfl
@[simp] theorem setDom_meas (h : Hw) (d : Nat) (r : Dom) : (setDom h d r).meas = h.meas := rfl
@[simp] theorem setDom_newSince (h : Hw) (d : Nat) (r : Dom) : (setDom h d r).newSince = h.newSince := rfl
@[simp] theorem setDom_hbr (h : Hw) (d : Nat) (r : Dom) : (setDom h d r).hbr = h.hbr := rfl
@[simp] theorem setDom_hbrTl (h : Hw) (d : Nat) (r : Dom) : (setDom h d r).hbrTl = h.hbrTl := rfl
@[simp] theorem setDom_valves (h : Hw) (d : Nat) (r : Dom) : (setDom h d r).valves = h.valves := rfl
@[simp] theorem setDom_banks (h : Hw) (d : Nat) (r : Dom) : (setDom h d r).banks = h.banks := rfl
@[simp] theorem setDom_swi (h : Hw) (d : Nat) (r : Dom) : (setDom h d r).swi = h.swi := rfl
@[simp] theorem setDom_swiAt (h : Hw) (d : Nat) (r : Dom) : (setDom h d r).swiAt = h.swiAt := rfl
@[simp] theorem setDom_park (h : Hw) (d : Nat) (r : Dom) : (setDom h d r).park = h.park := rfl
@[simp] theorem setDom_caps (h : Hw) (d : Nat) (r : Dom) : (setDom h d r).caps = h.caps := rfl
@[simp] theorem setDom_olk (h : Hw) (d : Nat) (r : Dom) : (setDom h d r).olk = h.olk := rfl
@[simp] theorem setDom_ctxs (h : Hw) (d : Nat) (r : Dom) : (setDom h d r).ctxs = h.ctxs := rfl
@[simp] theorem setDom_lines (h : Hw) (d : Nat) (r : Dom) : (setDom h d r).lines = h.lines := rfl
@[simp] theorem setDom_key (h : Hw) (d : Nat) (r : Dom) : (setDom h d r).key = h.key := rfl
@[simp] theorem setDom_pages (h : Hw) (d : Nat) (r : Dom) : (setDom h d r).pages = h.pages := rfl
@[simp] theorem setDom_queues (h : Hw) (d : Nat) (r : Dom) : (setDom h d r).queues = h.queues := rfl
@[simp] theorem setDom_dma (h : Hw) (d : Nat) (r : Dom) : (setDom h d r).dma = h.dma := rfl
@[simp] theorem setDom_dmaTurn (h : Hw) (d : Nat) (r : Dom) : (setDom h d r).dmaTurn = h.dmaTurn := rfl
@[simp] theorem setDom_can (h : Hw) (d : Nat) (r : Dom) : (setDom h d r).can = h.can := rfl
@[simp] theorem setDom_lin (h : Hw) (d : Nat) (r : Dom) : (setDom h d r).lin = h.lin := rfl
@[simp] theorem setDom_eth (h : Hw) (d : Nat) (r : Dom) : (setDom h d r).eth = h.eth := rfl
@[simp] theorem setDom_nsc (h : Hw) (d : Nat) (r : Dom) : (setDom h d r).nsc = h.nsc := rfl
@[simp] theorem setDom_acc (h : Hw) (d : Nat) (r : Dom) : (setDom h d r).acc = h.acc := rfl
@[simp] theorem setDom_cry (h : Hw) (d : Nat) (r : Dom) : (setDom h d r).cry = h.cry := rfl
@[simp] theorem setDom_hung (h : Hw) (d : Nat) (r : Dom) : (setDom h d r).hung = h.hung := rfl
@[simp] theorem setDom_waits (h : Hw) (d : Nat) (r : Dom) : (setDom h d r).waits = h.waits := rfl
@[simp] theorem setDom_rst (h : Hw) (d : Nat) (r : Dom) : (setDom h d r).rst = h.rst := rfl
@[simp] theorem setDom_bond (h : Hw) (d : Nat) (r : Dom) : (setDom h d r).bond = h.bond := rfl
@[simp] theorem setDom_reply (h : Hw) (d : Nat) (r : Dom) : (setDom h d r).reply = h.reply := rfl

@[simp] theorem setOlk_straps (h : Hw) (c : Nat) (r : Olk) : (setOlk h c r).straps = h.straps := rfl
@[simp] theorem setOlk_now (h : Hw) (c : Nat) (r : Olk) : (setOlk h c r).now = h.now := rfl
@[simp] theorem setOlk_timebase (h : Hw) (c : Nat) (r : Olk) : (setOlk h c r).timebase = h.timebase := rfl
@[simp] theorem setOlk_tbCopy (h : Hw) (c : Nat) (r : Olk) : (setOlk h c r).tbCopy = h.tbCopy := rfl
@[simp] theorem setOlk_frame (h : Hw) (c : Nat) (r : Olk) : (setOlk h c r).frame = h.frame := rfl
@[simp] theorem setOlk_frameStart (h : Hw) (c : Nat) (r : Olk) : (setOlk h c r).frameStart = h.frameStart := rfl
@[simp] theorem setOlk_frameLen (h : Hw) (c : Nat) (r : Olk) : (setOlk h c r).frameLen = h.frameLen := rfl
@[simp] theorem setOlk_freeCnt (h : Hw) (c : Nat) (r : Olk) : (setOlk h c r).freeCnt = h.freeCnt := rfl
@[simp] theorem setOlk_regs (h : Hw) (c : Nat) (r : Olk) : (setOlk h c r).regs = h.regs := rfl
@[simp] theorem setOlk_applied (h : Hw) (c : Nat) (r : Olk) : (setOlk h c r).applied = h.applied := rfl
@[simp] theorem setOlk_dieCfg (h : Hw) (c : Nat) (r : Olk) : (setOlk h c r).dieCfg = h.dieCfg := rfl
@[simp] theorem setOlk_doms (h : Hw) (c : Nat) (r : Olk) : (setOlk h c r).doms = h.doms := rfl
@[simp] theorem setOlk_pwr (h : Hw) (c : Nat) (r : Olk) : (setOlk h c r).pwr = h.pwr := rfl
@[simp] theorem setOlk_feeds (h : Hw) (c : Nat) (r : Olk) : (setOlk h c r).feeds = h.feeds := rfl
@[simp] theorem setOlk_hsw (h : Hw) (c : Nat) (r : Olk) : (setOlk h c r).hsw = h.hsw := rfl
@[simp] theorem setOlk_hswT (h : Hw) (c : Nat) (r : Olk) : (setOlk h c r).hswT = h.hswT := rfl
@[simp] theorem setOlk_epochs (h : Hw) (c : Nat) (r : Olk) : (setOlk h c r).epochs = h.epochs := rfl
@[simp] theorem setOlk_meas (h : Hw) (c : Nat) (r : Olk) : (setOlk h c r).meas = h.meas := rfl
@[simp] theorem setOlk_newSince (h : Hw) (c : Nat) (r : Olk) : (setOlk h c r).newSince = h.newSince := rfl
@[simp] theorem setOlk_hbr (h : Hw) (c : Nat) (r : Olk) : (setOlk h c r).hbr = h.hbr := rfl
@[simp] theorem setOlk_hbrTl (h : Hw) (c : Nat) (r : Olk) : (setOlk h c r).hbrTl = h.hbrTl := rfl
@[simp] theorem setOlk_valves (h : Hw) (c : Nat) (r : Olk) : (setOlk h c r).valves = h.valves := rfl
@[simp] theorem setOlk_banks (h : Hw) (c : Nat) (r : Olk) : (setOlk h c r).banks = h.banks := rfl
@[simp] theorem setOlk_swi (h : Hw) (c : Nat) (r : Olk) : (setOlk h c r).swi = h.swi := rfl
@[simp] theorem setOlk_swiAt (h : Hw) (c : Nat) (r : Olk) : (setOlk h c r).swiAt = h.swiAt := rfl
@[simp] theorem setOlk_park (h : Hw) (c : Nat) (r : Olk) : (setOlk h c r).park = h.park := rfl
@[simp] theorem setOlk_caps (h : Hw) (c : Nat) (r : Olk) : (setOlk h c r).caps = h.caps := rfl
@[simp] theorem setOlk_ctxs (h : Hw) (c : Nat) (r : Olk) : (setOlk h c r).ctxs = h.ctxs := rfl
@[simp] theorem setOlk_lines (h : Hw) (c : Nat) (r : Olk) : (setOlk h c r).lines = h.lines := rfl
@[simp] theorem setOlk_key (h : Hw) (c : Nat) (r : Olk) : (setOlk h c r).key = h.key := rfl
@[simp] theorem setOlk_pages (h : Hw) (c : Nat) (r : Olk) : (setOlk h c r).pages = h.pages := rfl
@[simp] theorem setOlk_queues (h : Hw) (c : Nat) (r : Olk) : (setOlk h c r).queues = h.queues := rfl
@[simp] theorem setOlk_dma (h : Hw) (c : Nat) (r : Olk) : (setOlk h c r).dma = h.dma := rfl
@[simp] theorem setOlk_dmaTurn (h : Hw) (c : Nat) (r : Olk) : (setOlk h c r).dmaTurn = h.dmaTurn := rfl
@[simp] theorem setOlk_can (h : Hw) (c : Nat) (r : Olk) : (setOlk h c r).can = h.can := rfl
@[simp] theorem setOlk_lin (h : Hw) (c : Nat) (r : Olk) : (setOlk h c r).lin = h.lin := rfl
@[simp] theorem setOlk_eth (h : Hw) (c : Nat) (r : Olk) : (setOlk h c r).eth = h.eth := rfl
@[simp] theorem setOlk_nsc (h : Hw) (c : Nat) (r : Olk) : (setOlk h c r).nsc = h.nsc := rfl
@[simp] theorem setOlk_acc (h : Hw) (c : Nat) (r : Olk) : (setOlk h c r).acc = h.acc := rfl
@[simp] theorem setOlk_cry (h : Hw) (c : Nat) (r : Olk) : (setOlk h c r).cry = h.cry := rfl
@[simp] theorem setOlk_hung (h : Hw) (c : Nat) (r : Olk) : (setOlk h c r).hung = h.hung := rfl
@[simp] theorem setOlk_waits (h : Hw) (c : Nat) (r : Olk) : (setOlk h c r).waits = h.waits := rfl
@[simp] theorem setOlk_rst (h : Hw) (c : Nat) (r : Olk) : (setOlk h c r).rst = h.rst := rfl
@[simp] theorem setOlk_bond (h : Hw) (c : Nat) (r : Olk) : (setOlk h c r).bond = h.bond := rfl
@[simp] theorem setOlk_reply (h : Hw) (c : Nat) (r : Olk) : (setOlk h c r).reply = h.reply := rfl

/-! ## Event sources change registers only -/

@[simp] theorem pulse_straps (h : Hw) (ty i n : Nat) : (pulse h ty i n).straps = h.straps := by unfold pulse; split <;> simp
@[simp] theorem pulse_now (h : Hw) (ty i n : Nat) : (pulse h ty i n).now = h.now := by unfold pulse; split <;> simp
@[simp] theorem pulse_timebase (h : Hw) (ty i n : Nat) : (pulse h ty i n).timebase = h.timebase := by unfold pulse; split <;> simp
@[simp] theorem pulse_tbCopy (h : Hw) (ty i n : Nat) : (pulse h ty i n).tbCopy = h.tbCopy := by unfold pulse; split <;> simp
@[simp] theorem pulse_frame (h : Hw) (ty i n : Nat) : (pulse h ty i n).frame = h.frame := by unfold pulse; split <;> simp
@[simp] theorem pulse_frameStart (h : Hw) (ty i n : Nat) : (pulse h ty i n).frameStart = h.frameStart := by unfold pulse; split <;> simp
@[simp] theorem pulse_frameLen (h : Hw) (ty i n : Nat) : (pulse h ty i n).frameLen = h.frameLen := by unfold pulse; split <;> simp
@[simp] theorem pulse_freeCnt (h : Hw) (ty i n : Nat) : (pulse h ty i n).freeCnt = h.freeCnt := by unfold pulse; split <;> simp
@[simp] theorem pulse_applied (h : Hw) (ty i n : Nat) : (pulse h ty i n).applied = h.applied := by unfold pulse; split <;> simp
@[simp] theorem pulse_dieCfg (h : Hw) (ty i n : Nat) : (pulse h ty i n).dieCfg = h.dieCfg := by unfold pulse; split <;> simp
@[simp] theorem pulse_doms (h : Hw) (ty i n : Nat) : (pulse h ty i n).doms = h.doms := by unfold pulse; split <;> simp
@[simp] theorem pulse_pwr (h : Hw) (ty i n : Nat) : (pulse h ty i n).pwr = h.pwr := by unfold pulse; split <;> simp
@[simp] theorem pulse_feeds (h : Hw) (ty i n : Nat) : (pulse h ty i n).feeds = h.feeds := by unfold pulse; split <;> simp
@[simp] theorem pulse_hsw (h : Hw) (ty i n : Nat) : (pulse h ty i n).hsw = h.hsw := by unfold pulse; split <;> simp
@[simp] theorem pulse_hswT (h : Hw) (ty i n : Nat) : (pulse h ty i n).hswT = h.hswT := by unfold pulse; split <;> simp
@[simp] theorem pulse_epochs (h : Hw) (ty i n : Nat) : (pulse h ty i n).epochs = h.epochs := by unfold pulse; split <;> simp
@[simp] theorem pulse_meas (h : Hw) (ty i n : Nat) : (pulse h ty i n).meas = h.meas := by unfold pulse; split <;> simp
@[simp] theorem pulse_newSince (h : Hw) (ty i n : Nat) : (pulse h ty i n).newSince = h.newSince := by unfold pulse; split <;> simp
@[simp] theorem pulse_hbr (h : Hw) (ty i n : Nat) : (pulse h ty i n).hbr = h.hbr := by unfold pulse; split <;> simp
@[simp] theorem pulse_hbrTl (h : Hw) (ty i n : Nat) : (pulse h ty i n).hbrTl = h.hbrTl := by unfold pulse; split <;> simp
@[simp] theorem pulse_valves (h : Hw) (ty i n : Nat) : (pulse h ty i n).valves = h.valves := by unfold pulse; split <;> simp
@[simp] theorem pulse_banks (h : Hw) (ty i n : Nat) : (pulse h ty i n).banks = h.banks := by unfold pulse; split <;> simp
@[simp] theorem pulse_swi (h : Hw) (ty i n : Nat) : (pulse h ty i n).swi = h.swi := by unfold pulse; split <;> simp
@[simp] theorem pulse_swiAt (h : Hw) (ty i n : Nat) : (pulse h ty i n).swiAt = h.swiAt := by unfold pulse; split <;> simp
@[simp] theorem pulse_park (h : Hw) (ty i n : Nat) : (pulse h ty i n).park = h.park := by unfold pulse; split <;> simp
@[simp] theorem pulse_caps (h : Hw) (ty i n : Nat) : (pulse h ty i n).caps = h.caps := by unfold pulse; split <;> simp
@[simp] theorem pulse_olk (h : Hw) (ty i n : Nat) : (pulse h ty i n).olk = h.olk := by unfold pulse; split <;> simp
@[simp] theorem pulse_ctxs (h : Hw) (ty i n : Nat) : (pulse h ty i n).ctxs = h.ctxs := by unfold pulse; split <;> simp
@[simp] theorem pulse_lines (h : Hw) (ty i n : Nat) : (pulse h ty i n).lines = h.lines := by unfold pulse; split <;> simp
@[simp] theorem pulse_key (h : Hw) (ty i n : Nat) : (pulse h ty i n).key = h.key := by unfold pulse; split <;> simp
@[simp] theorem pulse_pages (h : Hw) (ty i n : Nat) : (pulse h ty i n).pages = h.pages := by unfold pulse; split <;> simp
@[simp] theorem pulse_queues (h : Hw) (ty i n : Nat) : (pulse h ty i n).queues = h.queues := by unfold pulse; split <;> simp
@[simp] theorem pulse_dma (h : Hw) (ty i n : Nat) : (pulse h ty i n).dma = h.dma := by unfold pulse; split <;> simp
@[simp] theorem pulse_dmaTurn (h : Hw) (ty i n : Nat) : (pulse h ty i n).dmaTurn = h.dmaTurn := by unfold pulse; split <;> simp
@[simp] theorem pulse_can (h : Hw) (ty i n : Nat) : (pulse h ty i n).can = h.can := by unfold pulse; split <;> simp
@[simp] theorem pulse_lin (h : Hw) (ty i n : Nat) : (pulse h ty i n).lin = h.lin := by unfold pulse; split <;> simp
@[simp] theorem pulse_eth (h : Hw) (ty i n : Nat) : (pulse h ty i n).eth = h.eth := by unfold pulse; split <;> simp
@[simp] theorem pulse_nsc (h : Hw) (ty i n : Nat) : (pulse h ty i n).nsc = h.nsc := by unfold pulse; split <;> simp
@[simp] theorem pulse_acc (h : Hw) (ty i n : Nat) : (pulse h ty i n).acc = h.acc := by unfold pulse; split <;> simp
@[simp] theorem pulse_cry (h : Hw) (ty i n : Nat) : (pulse h ty i n).cry = h.cry := by unfold pulse; split <;> simp
@[simp] theorem pulse_hung (h : Hw) (ty i n : Nat) : (pulse h ty i n).hung = h.hung := by unfold pulse; split <;> simp
@[simp] theorem pulse_waits (h : Hw) (ty i n : Nat) : (pulse h ty i n).waits = h.waits := by unfold pulse; split <;> simp
@[simp] theorem pulse_rst (h : Hw) (ty i n : Nat) : (pulse h ty i n).rst = h.rst := by unfold pulse; split <;> simp
@[simp] theorem pulse_bond (h : Hw) (ty i n : Nat) : (pulse h ty i n).bond = h.bond := by unfold pulse; split <;> simp
@[simp] theorem pulse_reply (h : Hw) (ty i n : Nat) : (pulse h ty i n).reply = h.reply := by unfold pulse; split <;> simp

@[simp] theorem level_straps (h : Hw) (ty i n : Nat) (b : Bool) : (level h ty i n b).straps = h.straps := by unfold level; dsimp only; split <;> (try split) <;> simp
@[simp] theorem level_now (h : Hw) (ty i n : Nat) (b : Bool) : (level h ty i n b).now = h.now := by unfold level; dsimp only; split <;> (try split) <;> simp
@[simp] theorem level_timebase (h : Hw) (ty i n : Nat) (b : Bool) : (level h ty i n b).timebase = h.timebase := by unfold level; dsimp only; split <;> (try split) <;> simp
@[simp] theorem level_tbCopy (h : Hw) (ty i n : Nat) (b : Bool) : (level h ty i n b).tbCopy = h.tbCopy := by unfold level; dsimp only; split <;> (try split) <;> simp
@[simp] theorem level_frame (h : Hw) (ty i n : Nat) (b : Bool) : (level h ty i n b).frame = h.frame := by unfold level; dsimp only; split <;> (try split) <;> simp
@[simp] theorem level_frameStart (h : Hw) (ty i n : Nat) (b : Bool) : (level h ty i n b).frameStart = h.frameStart := by unfold level; dsimp only; split <;> (try split) <;> simp
@[simp] theorem level_frameLen (h : Hw) (ty i n : Nat) (b : Bool) : (level h ty i n b).frameLen = h.frameLen := by unfold level; dsimp only; split <;> (try split) <;> simp
@[simp] theorem level_freeCnt (h : Hw) (ty i n : Nat) (b : Bool) : (level h ty i n b).freeCnt = h.freeCnt := by unfold level; dsimp only; split <;> (try split) <;> simp
@[simp] theorem level_applied (h : Hw) (ty i n : Nat) (b : Bool) : (level h ty i n b).applied = h.applied := by unfold level; dsimp only; split <;> (try split) <;> simp
@[simp] theorem level_dieCfg (h : Hw) (ty i n : Nat) (b : Bool) : (level h ty i n b).dieCfg = h.dieCfg := by unfold level; dsimp only; split <;> (try split) <;> simp
@[simp] theorem level_doms (h : Hw) (ty i n : Nat) (b : Bool) : (level h ty i n b).doms = h.doms := by unfold level; dsimp only; split <;> (try split) <;> simp
@[simp] theorem level_pwr (h : Hw) (ty i n : Nat) (b : Bool) : (level h ty i n b).pwr = h.pwr := by unfold level; dsimp only; split <;> (try split) <;> simp
@[simp] theorem level_feeds (h : Hw) (ty i n : Nat) (b : Bool) : (level h ty i n b).feeds = h.feeds := by unfold level; dsimp only; split <;> (try split) <;> simp
@[simp] theorem level_hsw (h : Hw) (ty i n : Nat) (b : Bool) : (level h ty i n b).hsw = h.hsw := by unfold level; dsimp only; split <;> (try split) <;> simp
@[simp] theorem level_hswT (h : Hw) (ty i n : Nat) (b : Bool) : (level h ty i n b).hswT = h.hswT := by unfold level; dsimp only; split <;> (try split) <;> simp
@[simp] theorem level_epochs (h : Hw) (ty i n : Nat) (b : Bool) : (level h ty i n b).epochs = h.epochs := by unfold level; dsimp only; split <;> (try split) <;> simp
@[simp] theorem level_meas (h : Hw) (ty i n : Nat) (b : Bool) : (level h ty i n b).meas = h.meas := by unfold level; dsimp only; split <;> (try split) <;> simp
@[simp] theorem level_newSince (h : Hw) (ty i n : Nat) (b : Bool) : (level h ty i n b).newSince = h.newSince := by unfold level; dsimp only; split <;> (try split) <;> simp
@[simp] theorem level_hbr (h : Hw) (ty i n : Nat) (b : Bool) : (level h ty i n b).hbr = h.hbr := by unfold level; dsimp only; split <;> (try split) <;> simp
@[simp] theorem level_hbrTl (h : Hw) (ty i n : Nat) (b : Bool) : (level h ty i n b).hbrTl = h.hbrTl := by unfold level; dsimp only; split <;> (try split) <;> simp
@[simp] theorem level_valves (h : Hw) (ty i n : Nat) (b : Bool) : (level h ty i n b).valves = h.valves := by unfold level; dsimp only; split <;> (try split) <;> simp
@[simp] theorem level_banks (h : Hw) (ty i n : Nat) (b : Bool) : (level h ty i n b).banks = h.banks := by unfold level; dsimp only; split <;> (try split) <;> simp
@[simp] theorem level_swi (h : Hw) (ty i n : Nat) (b : Bool) : (level h ty i n b).swi = h.swi := by unfold level; dsimp only; split <;> (try split) <;> simp
@[simp] theorem level_swiAt (h : Hw) (ty i n : Nat) (b : Bool) : (level h ty i n b).swiAt = h.swiAt := by unfold level; dsimp only; split <;> (try split) <;> simp
@[simp] theorem level_park (h : Hw) (ty i n : Nat) (b : Bool) : (level h ty i n b).park = h.park := by unfold level; dsimp only; split <;> (try split) <;> simp
@[simp] theorem level_caps (h : Hw) (ty i n : Nat) (b : Bool) : (level h ty i n b).caps = h.caps := by unfold level; dsimp only; split <;> (try split) <;> simp
@[simp] theorem level_olk (h : Hw) (ty i n : Nat) (b : Bool) : (level h ty i n b).olk = h.olk := by unfold level; dsimp only; split <;> (try split) <;> simp
@[simp] theorem level_ctxs (h : Hw) (ty i n : Nat) (b : Bool) : (level h ty i n b).ctxs = h.ctxs := by unfold level; dsimp only; split <;> (try split) <;> simp
@[simp] theorem level_lines (h : Hw) (ty i n : Nat) (b : Bool) : (level h ty i n b).lines = h.lines := by unfold level; dsimp only; split <;> (try split) <;> simp
@[simp] theorem level_key (h : Hw) (ty i n : Nat) (b : Bool) : (level h ty i n b).key = h.key := by unfold level; dsimp only; split <;> (try split) <;> simp
@[simp] theorem level_pages (h : Hw) (ty i n : Nat) (b : Bool) : (level h ty i n b).pages = h.pages := by unfold level; dsimp only; split <;> (try split) <;> simp
@[simp] theorem level_queues (h : Hw) (ty i n : Nat) (b : Bool) : (level h ty i n b).queues = h.queues := by unfold level; dsimp only; split <;> (try split) <;> simp
@[simp] theorem level_dma (h : Hw) (ty i n : Nat) (b : Bool) : (level h ty i n b).dma = h.dma := by unfold level; dsimp only; split <;> (try split) <;> simp
@[simp] theorem level_dmaTurn (h : Hw) (ty i n : Nat) (b : Bool) : (level h ty i n b).dmaTurn = h.dmaTurn := by unfold level; dsimp only; split <;> (try split) <;> simp
@[simp] theorem level_can (h : Hw) (ty i n : Nat) (b : Bool) : (level h ty i n b).can = h.can := by unfold level; dsimp only; split <;> (try split) <;> simp
@[simp] theorem level_lin (h : Hw) (ty i n : Nat) (b : Bool) : (level h ty i n b).lin = h.lin := by unfold level; dsimp only; split <;> (try split) <;> simp
@[simp] theorem level_eth (h : Hw) (ty i n : Nat) (b : Bool) : (level h ty i n b).eth = h.eth := by unfold level; dsimp only; split <;> (try split) <;> simp
@[simp] theorem level_nsc (h : Hw) (ty i n : Nat) (b : Bool) : (level h ty i n b).nsc = h.nsc := by unfold level; dsimp only; split <;> (try split) <;> simp
@[simp] theorem level_acc (h : Hw) (ty i n : Nat) (b : Bool) : (level h ty i n b).acc = h.acc := by unfold level; dsimp only; split <;> (try split) <;> simp
@[simp] theorem level_cry (h : Hw) (ty i n : Nat) (b : Bool) : (level h ty i n b).cry = h.cry := by unfold level; dsimp only; split <;> (try split) <;> simp
@[simp] theorem level_hung (h : Hw) (ty i n : Nat) (b : Bool) : (level h ty i n b).hung = h.hung := by unfold level; dsimp only; split <;> (try split) <;> simp
@[simp] theorem level_waits (h : Hw) (ty i n : Nat) (b : Bool) : (level h ty i n b).waits = h.waits := by unfold level; dsimp only; split <;> (try split) <;> simp
@[simp] theorem level_rst (h : Hw) (ty i n : Nat) (b : Bool) : (level h ty i n b).rst = h.rst := by unfold level; dsimp only; split <;> (try split) <;> simp
@[simp] theorem level_bond (h : Hw) (ty i n : Nat) (b : Bool) : (level h ty i n b).bond = h.bond := by unfold level; dsimp only; split <;> (try split) <;> simp
@[simp] theorem level_reply (h : Hw) (ty i n : Nat) (b : Bool) : (level h ty i n b).reply = h.reply := by unfold level; dsimp only; split <;> (try split) <;> simp

@[simp] theorem errLevel_straps (h : Hw) (ty i : Nat) : (errLevel h ty i).straps = h.straps := by unfold errLevel; simp
@[simp] theorem errLevel_now (h : Hw) (ty i : Nat) : (errLevel h ty i).now = h.now := by unfold errLevel; simp
@[simp] theorem errLevel_timebase (h : Hw) (ty i : Nat) : (errLevel h ty i).timebase = h.timebase := by unfold errLevel; simp
@[simp] theorem errLevel_tbCopy (h : Hw) (ty i : Nat) : (errLevel h ty i).tbCopy = h.tbCopy := by unfold errLevel; simp
@[simp] theorem errLevel_frame (h : Hw) (ty i : Nat) : (errLevel h ty i).frame = h.frame := by unfold errLevel; simp
@[simp] theorem errLevel_frameStart (h : Hw) (ty i : Nat) : (errLevel h ty i).frameStart = h.frameStart := by unfold errLevel; simp
@[simp] theorem errLevel_frameLen (h : Hw) (ty i : Nat) : (errLevel h ty i).frameLen = h.frameLen := by unfold errLevel; simp
@[simp] theorem errLevel_freeCnt (h : Hw) (ty i : Nat) : (errLevel h ty i).freeCnt = h.freeCnt := by unfold errLevel; simp
@[simp] theorem errLevel_applied (h : Hw) (ty i : Nat) : (errLevel h ty i).applied = h.applied := by unfold errLevel; simp
@[simp] theorem errLevel_dieCfg (h : Hw) (ty i : Nat) : (errLevel h ty i).dieCfg = h.dieCfg := by unfold errLevel; simp
@[simp] theorem errLevel_doms (h : Hw) (ty i : Nat) : (errLevel h ty i).doms = h.doms := by unfold errLevel; simp
@[simp] theorem errLevel_pwr (h : Hw) (ty i : Nat) : (errLevel h ty i).pwr = h.pwr := by unfold errLevel; simp
@[simp] theorem errLevel_feeds (h : Hw) (ty i : Nat) : (errLevel h ty i).feeds = h.feeds := by unfold errLevel; simp
@[simp] theorem errLevel_hsw (h : Hw) (ty i : Nat) : (errLevel h ty i).hsw = h.hsw := by unfold errLevel; simp
@[simp] theorem errLevel_hswT (h : Hw) (ty i : Nat) : (errLevel h ty i).hswT = h.hswT := by unfold errLevel; simp
@[simp] theorem errLevel_epochs (h : Hw) (ty i : Nat) : (errLevel h ty i).epochs = h.epochs := by unfold errLevel; simp
@[simp] theorem errLevel_meas (h : Hw) (ty i : Nat) : (errLevel h ty i).meas = h.meas := by unfold errLevel; simp
@[simp] theorem errLevel_newSince (h : Hw) (ty i : Nat) : (errLevel h ty i).newSince = h.newSince := by unfold errLevel; simp
@[simp] theorem errLevel_hbr (h : Hw) (ty i : Nat) : (errLevel h ty i).hbr = h.hbr := by unfold errLevel; simp
@[simp] theorem errLevel_hbrTl (h : Hw) (ty i : Nat) : (errLevel h ty i).hbrTl = h.hbrTl := by unfold errLevel; simp
@[simp] theorem errLevel_valves (h : Hw) (ty i : Nat) : (errLevel h ty i).valves = h.valves := by unfold errLevel; simp
@[simp] theorem errLevel_banks (h : Hw) (ty i : Nat) : (errLevel h ty i).banks = h.banks := by unfold errLevel; simp
@[simp] theorem errLevel_swi (h : Hw) (ty i : Nat) : (errLevel h ty i).swi = h.swi := by unfold errLevel; simp
@[simp] theorem errLevel_swiAt (h : Hw) (ty i : Nat) : (errLevel h ty i).swiAt = h.swiAt := by unfold errLevel; simp
@[simp] theorem errLevel_park (h : Hw) (ty i : Nat) : (errLevel h ty i).park = h.park := by unfold errLevel; simp
@[simp] theorem errLevel_caps (h : Hw) (ty i : Nat) : (errLevel h ty i).caps = h.caps := by unfold errLevel; simp
@[simp] theorem errLevel_olk (h : Hw) (ty i : Nat) : (errLevel h ty i).olk = h.olk := by unfold errLevel; simp
@[simp] theorem errLevel_ctxs (h : Hw) (ty i : Nat) : (errLevel h ty i).ctxs = h.ctxs := by unfold errLevel; simp
@[simp] theorem errLevel_lines (h : Hw) (ty i : Nat) : (errLevel h ty i).lines = h.lines := by unfold errLevel; simp
@[simp] theorem errLevel_key (h : Hw) (ty i : Nat) : (errLevel h ty i).key = h.key := by unfold errLevel; simp
@[simp] theorem errLevel_pages (h : Hw) (ty i : Nat) : (errLevel h ty i).pages = h.pages := by unfold errLevel; simp
@[simp] theorem errLevel_queues (h : Hw) (ty i : Nat) : (errLevel h ty i).queues = h.queues := by unfold errLevel; simp
@[simp] theorem errLevel_dma (h : Hw) (ty i : Nat) : (errLevel h ty i).dma = h.dma := by unfold errLevel; simp
@[simp] theorem errLevel_dmaTurn (h : Hw) (ty i : Nat) : (errLevel h ty i).dmaTurn = h.dmaTurn := by unfold errLevel; simp
@[simp] theorem errLevel_can (h : Hw) (ty i : Nat) : (errLevel h ty i).can = h.can := by unfold errLevel; simp
@[simp] theorem errLevel_lin (h : Hw) (ty i : Nat) : (errLevel h ty i).lin = h.lin := by unfold errLevel; simp
@[simp] theorem errLevel_eth (h : Hw) (ty i : Nat) : (errLevel h ty i).eth = h.eth := by unfold errLevel; simp
@[simp] theorem errLevel_nsc (h : Hw) (ty i : Nat) : (errLevel h ty i).nsc = h.nsc := by unfold errLevel; simp
@[simp] theorem errLevel_acc (h : Hw) (ty i : Nat) : (errLevel h ty i).acc = h.acc := by unfold errLevel; simp
@[simp] theorem errLevel_cry (h : Hw) (ty i : Nat) : (errLevel h ty i).cry = h.cry := by unfold errLevel; simp
@[simp] theorem errLevel_hung (h : Hw) (ty i : Nat) : (errLevel h ty i).hung = h.hung := by unfold errLevel; simp
@[simp] theorem errLevel_waits (h : Hw) (ty i : Nat) : (errLevel h ty i).waits = h.waits := by unfold errLevel; simp
@[simp] theorem errLevel_rst (h : Hw) (ty i : Nat) : (errLevel h ty i).rst = h.rst := by unfold errLevel; simp
@[simp] theorem errLevel_bond (h : Hw) (ty i : Nat) : (errLevel h ty i).bond = h.bond := by unfold errLevel; simp
@[simp] theorem errLevel_reply (h : Hw) (ty i : Nat) : (errLevel h ty i).reply = h.reply := by unfold errLevel; simp

@[simp] theorem err_straps (h : Hw) (ty i n : Nat) : (err h ty i n).straps = h.straps := by unfold err; split <;> simp
@[simp] theorem err_now (h : Hw) (ty i n : Nat) : (err h ty i n).now = h.now := by unfold err; split <;> simp
@[simp] theorem err_timebase (h : Hw) (ty i n : Nat) : (err h ty i n).timebase = h.timebase := by unfold err; split <;> simp
@[simp] theorem err_tbCopy (h : Hw) (ty i n : Nat) : (err h ty i n).tbCopy = h.tbCopy := by unfold err; split <;> simp
@[simp] theorem err_frame (h : Hw) (ty i n : Nat) : (err h ty i n).frame = h.frame := by unfold err; split <;> simp
@[simp] theorem err_frameStart (h : Hw) (ty i n : Nat) : (err h ty i n).frameStart = h.frameStart := by unfold err; split <;> simp
@[simp] theorem err_frameLen (h : Hw) (ty i n : Nat) : (err h ty i n).frameLen = h.frameLen := by unfold err; split <;> simp
@[simp] theorem err_freeCnt (h : Hw) (ty i n : Nat) : (err h ty i n).freeCnt = h.freeCnt := by unfold err; split <;> simp
@[simp] theorem err_applied (h : Hw) (ty i n : Nat) : (err h ty i n).applied = h.applied := by unfold err; split <;> simp
@[simp] theorem err_dieCfg (h : Hw) (ty i n : Nat) : (err h ty i n).dieCfg = h.dieCfg := by unfold err; split <;> simp
@[simp] theorem err_doms (h : Hw) (ty i n : Nat) : (err h ty i n).doms = h.doms := by unfold err; split <;> simp
@[simp] theorem err_pwr (h : Hw) (ty i n : Nat) : (err h ty i n).pwr = h.pwr := by unfold err; split <;> simp
@[simp] theorem err_feeds (h : Hw) (ty i n : Nat) : (err h ty i n).feeds = h.feeds := by unfold err; split <;> simp
@[simp] theorem err_hsw (h : Hw) (ty i n : Nat) : (err h ty i n).hsw = h.hsw := by unfold err; split <;> simp
@[simp] theorem err_hswT (h : Hw) (ty i n : Nat) : (err h ty i n).hswT = h.hswT := by unfold err; split <;> simp
@[simp] theorem err_epochs (h : Hw) (ty i n : Nat) : (err h ty i n).epochs = h.epochs := by unfold err; split <;> simp
@[simp] theorem err_meas (h : Hw) (ty i n : Nat) : (err h ty i n).meas = h.meas := by unfold err; split <;> simp
@[simp] theorem err_newSince (h : Hw) (ty i n : Nat) : (err h ty i n).newSince = h.newSince := by unfold err; split <;> simp
@[simp] theorem err_hbr (h : Hw) (ty i n : Nat) : (err h ty i n).hbr = h.hbr := by unfold err; split <;> simp
@[simp] theorem err_hbrTl (h : Hw) (ty i n : Nat) : (err h ty i n).hbrTl = h.hbrTl := by unfold err; split <;> simp
@[simp] theorem err_valves (h : Hw) (ty i n : Nat) : (err h ty i n).valves = h.valves := by unfold err; split <;> simp
@[simp] theorem err_banks (h : Hw) (ty i n : Nat) : (err h ty i n).banks = h.banks := by unfold err; split <;> simp
@[simp] theorem err_swi (h : Hw) (ty i n : Nat) : (err h ty i n).swi = h.swi := by unfold err; split <;> simp
@[simp] theorem err_swiAt (h : Hw) (ty i n : Nat) : (err h ty i n).swiAt = h.swiAt := by unfold err; split <;> simp
@[simp] theorem err_park (h : Hw) (ty i n : Nat) : (err h ty i n).park = h.park := by unfold err; split <;> simp
@[simp] theorem err_caps (h : Hw) (ty i n : Nat) : (err h ty i n).caps = h.caps := by unfold err; split <;> simp
@[simp] theorem err_olk (h : Hw) (ty i n : Nat) : (err h ty i n).olk = h.olk := by unfold err; split <;> simp
@[simp] theorem err_ctxs (h : Hw) (ty i n : Nat) : (err h ty i n).ctxs = h.ctxs := by unfold err; split <;> simp
@[simp] theorem err_lines (h : Hw) (ty i n : Nat) : (err h ty i n).lines = h.lines := by unfold err; split <;> simp
@[simp] theorem err_key (h : Hw) (ty i n : Nat) : (err h ty i n).key = h.key := by unfold err; split <;> simp
@[simp] theorem err_pages (h : Hw) (ty i n : Nat) : (err h ty i n).pages = h.pages := by unfold err; split <;> simp
@[simp] theorem err_queues (h : Hw) (ty i n : Nat) : (err h ty i n).queues = h.queues := by unfold err; split <;> simp
@[simp] theorem err_dma (h : Hw) (ty i n : Nat) : (err h ty i n).dma = h.dma := by unfold err; split <;> simp
@[simp] theorem err_dmaTurn (h : Hw) (ty i n : Nat) : (err h ty i n).dmaTurn = h.dmaTurn := by unfold err; split <;> simp
@[simp] theorem err_can (h : Hw) (ty i n : Nat) : (err h ty i n).can = h.can := by unfold err; split <;> simp
@[simp] theorem err_lin (h : Hw) (ty i n : Nat) : (err h ty i n).lin = h.lin := by unfold err; split <;> simp
@[simp] theorem err_eth (h : Hw) (ty i n : Nat) : (err h ty i n).eth = h.eth := by unfold err; split <;> simp
@[simp] theorem err_nsc (h : Hw) (ty i n : Nat) : (err h ty i n).nsc = h.nsc := by unfold err; split <;> simp
@[simp] theorem err_acc (h : Hw) (ty i n : Nat) : (err h ty i n).acc = h.acc := by unfold err; split <;> simp
@[simp] theorem err_cry (h : Hw) (ty i n : Nat) : (err h ty i n).cry = h.cry := by unfold err; split <;> simp
@[simp] theorem err_hung (h : Hw) (ty i n : Nat) : (err h ty i n).hung = h.hung := by unfold err; split <;> simp
@[simp] theorem err_waits (h : Hw) (ty i n : Nat) : (err h ty i n).waits = h.waits := by unfold err; split <;> simp
@[simp] theorem err_rst (h : Hw) (ty i n : Nat) : (err h ty i n).rst = h.rst := by unfold err; split <;> simp
@[simp] theorem err_bond (h : Hw) (ty i n : Nat) : (err h ty i n).bond = h.bond := by unfold err; split <;> simp
@[simp] theorem err_reply (h : Hw) (ty i n : Nat) : (err h ty i n).reply = h.reply := by unfold err; split <;> simp

/-! ## Registers -/

@[simp] theorem rdA_wrA_same (h : Hw) (a : Nat) (v : Word) : rdA (wrA h a v) a = v := by simp [rdA, wrA]

theorem rdA_wrA_ne (h : Hw) {a b : Nat} (v : Word) (hb : b ≠ a) : rdA (wrA h a v) b = rdA h b := by
  simp [rdA, wrA, smGet_smPut_ne _ _ _ hb]

@[simp] theorem rd_wr_same (h : Hw) (ty i off : Nat) (v : Word) : rd (wr h ty i off v) ty i off = v := rdA_wrA_same _ _ _

/-- Another register of the same page reads as before. -/
theorem rd_wr_off (h : Hw) (ty i : Nat) {off o2 : Nat} (v : Word) (hne : o2 ≠ off) : rd (wr h ty i off v) ty i o2 = rd h ty i o2 :=
  rdA_wrA_ne h v (by omega)

/-- A register at another address reads as before. -/
theorem rd_wr_ne (h : Hw) {ty i off t2 i2 o2 : Nat} (v : Word) (hne : pg t2 i2 + o2 ≠ pg ty i + off) :
    rd (wr h ty i off v) t2 i2 o2 = rd h t2 i2 o2 := rdA_wrA_ne h v hne

theorem rd_congr {h g : Hw} (ty i off : Nat) (hr : h.regs = g.regs) (hs : h.straps = g.straps) : rd h ty i off = rd g ty i off := by
  simp [rd, rdA, hr, hs]

theorem cfg_congr {h g : Hw} (ty i off : Nat) (hr : h.applied = g.applied) (hs : h.straps = g.straps) :
    cfg h ty i off = cfg g ty i off := by simp [cfg, cfgA, hr, hs]

theorem pageOn_congr {h g : Hw} (ty i : Nat) (hd : h.doms = g.doms) : pageOn h ty i = pageOn g ty i := by
  unfold pageOn domOn dom; rw [hd]

@[simp] theorem cfg_wr (h : Hw) (t i o : Nat) (v : Word) (ty j off : Nat) : cfg (wr h t i o v) ty j off = cfg h ty j off := cfg_congr _ _ _ (by simp) (by simp)
@[simp] theorem dom_wr (h : Hw) (t i o : Nat) (v : Word) (d : Nat) : dom (wr h t i o v) d = dom h d := by simp [dom]
@[simp] theorem domOn_wr (h : Hw) (t i o : Nat) (v : Word) (d : Nat) : domOn (wr h t i o v) d = domOn h d := by simp [domOn]
@[simp] theorem pageOn_wr (h : Hw) (t i o : Nat) (v : Word) (ty j : Nat) : pageOn (wr h t i o v) ty j = pageOn h ty j := pageOn_congr _ _ (by simp)
@[simp] theorem dom_setDom_same (h : Hw) (d : Nat) (r : Dom) : dom (setDom h d r) d = r := by simp [dom, setDom]

theorem dom_setDom_ne (h : Hw) {d e : Nat} (r : Dom) (hne : e ≠ d) : dom (setDom h d r) e = dom h e := by
  simp [dom, setDom, smGet_smPut_ne _ _ _ hne]

@[simp] theorem pageOn_pulse (h : Hw) (t i n ty j : Nat) : pageOn (pulse h t i n) ty j = pageOn h ty j := pageOn_congr ty j (by simp)

/-- A pulse sets its bit of EV_STAT on a page that is ON. -/
theorem bit_stat_pulse {h : Hw} {ty i n : Nat} (hp : pageOn h ty i = true) (hn : n < 32) : bit (rd (pulse h ty i n) ty i oSTAT) n = true := by
  simp [pulse, hp, bit_setBit_same _ _ hn]

/-- A pulse changes no register but EV_STAT of its page. -/
theorem rd_pulse_off (h : Hw) (ty i n : Nat) {o : Nat} (ho : o ≠ oSTAT) : rd (pulse h ty i n) ty i o = rd h ty i o := by
  unfold pulse; split
  · exact rd_wr_off _ _ _ _ ho
  · rfl

/-- A level changes no register but EV_RAW and EV_STAT of its page. -/
theorem rd_level_off (h : Hw) (ty i n : Nat) (b : Bool) {o : Nat} (h1 : o ≠ oSTAT) (h2 : o ≠ oRAW) :
    rd (level h ty i n b) ty i o = rd h ty i o := by
  unfold level; dsimp only
  split
  · split
    · rw [rd_pulse_off _ _ _ _ h1, rd_wr_off _ _ _ _ h2]
    · exact rd_wr_off _ _ _ _ h2
  · rfl

/-- An error sets its bit of ERR_STAT on a page that is ON. -/
theorem bit_err {h : Hw} {ty i n : Nat} (hp : pageOn h ty i = true) (hn : n < 32) : bit (rd (err h ty i n) ty i oERR) n = true := by
  simp only [err, hp, if_true, errLevel]
  rw [rd_level_off _ _ _ _ _ (by decide) (by decide)]
  simp [bit_setBit_same _ _ hn]

/-- An error changes no register but ERR_STAT, EV_RAW and EV_STAT of its page. -/
theorem rd_err_off (h : Hw) (ty i n : Nat) {o : Nat} (h1 : o ≠ oSTAT) (h2 : o ≠ oRAW) (h3 : o ≠ oERR) :
    rd (err h ty i n) ty i o = rd h ty i o := by
  unfold err errLevel; split
  · rw [rd_level_off _ _ _ _ _ h1 h2, rd_wr_off _ _ _ _ h3]
  · rfl

end Sys2Proof.Machine
end

