-- ==== Sys2Proof/WellFormed.lean ====
section
/-!
DEFINITION. Which commands are well-formed: the ranges that a row of the table gives its operands beyond their types.
-/
namespace Sys2Proof

/-- The number of instances of a page type (R30). -/
def instances (ty : Nat) : Nat :=
  match ty with
  | 0x01 | 0x02 | 0x03 | 0x23 | 0x30 | 0x32 | 0x40 | 0x41 | 0x50 => 1
  | 0x10 => 96
  | 0x11 => 24
  | 0x12 | 0x13 | 0x14 => 4
  | 0x20 => 8
  | 0x21 => 16
  | 0x22 => 2
  | 0x31 => 64
  | _ => 0

/-- The page of type `ty` and instance `inst` exists (R30). -/
def populated (ty inst : Byte) : Bool := decide (inst.toNat < instances ty.toNat)

/-- The Plinth wake sources that exist (R450). -/
def wakeSources : List Nat := [0, 1, 2, 3, 4, 5, 6, 7, 8, 10, 11, 12, 13, 16, 17]

/-- A raw result fits the signed 24 bits of R62. -/
def inRaw (d : Int) : Bool := decide (-8388608 ≤ d ∧ d ≤ 8388607)

/-- The fields of a CAN frame lie within their widths, and its data has no more than the 2048 bytes of an XL frame (R359). -/
def CanFrame.wf (f : CanFrame) : Bool :=
  decide (f.fmt ≤ 6 ∧ f.id < 2 ^ 29 ∧ f.dlc < 16 ∧ f.data.length ≤ 2048 ∧ f.vcid < 256 ∧ f.sdt < 256 ∧ f.af < 2 ^ 32)

/-- The message authentication code of a telegram has 8 bytes (R520). -/
def Telegram.wf (t : Telegram) : Bool := decide (t.mac.length = 8)

/-- The operands of a command lie in the ranges its row gives. -/
def Instr.wf (i : Instr) : Bool :=
  match i with
  | .frameBoundary => true
  | .registerWrite _ _ k v => decide (v.toNat < 2 ^ (8 * 2 ^ k.val))
  | .evSet _ ty inst _ => populated ty inst
  | .commitBoundary _ ty inst => populated ty inst
  | .commitImmediate _ ty inst => populated ty inst
  | .commitCancel _ ty inst => populated ty inst
  | .commitReload _ ty inst => populated ty inst
  | .commitArm _ ty inst => populated ty inst
  | .commitBadcode _ ty inst code => populated ty inst && decide (6 ≤ code.toNat)
  | .groupCommitGo _ => true
  | .domainRequestOn _ _ => true
  | .domainRequestRet _ _ => true
  | .domainRequestOff _ _ => true
  | .domainEntryStart => true
  | .domainEntryComplete => true
  | .domainEntryAbort => true
  | .domainExitComplete => true
  | .groupCommand _ _ _ => true
  | .plinthWake src => wakeSources.contains src.val
  | .lowPowerEntry => true
  | .plinthBrownOut _ _ => true
  | .rtcAlarm => true
  | .wtpAddressMatch _ _ => true
  | .wtpPointerWrite _ => true
  | .wtpDataWrite _ => true
  | .wtpDataRead => true
  | .wtpStop => true
  | .refuseCntRead _ _ => true
  | .measResult _ _ d => inRaw d
  | .pwmPeriodMean _ _ d => inRaw d
  | .resRead _ _ _ => true
  | .injectionWindowStart _ _ => true
  | .injectionWindowEnd _ _ _ => true
  | .calRoundEnd _ _ => true
  | .calReqGo _ _ _ => true
  | .calReqIdle _ _ => true
  | .calReqIdleTimeout _ => true
  | .hswCmdOff _ _ _ => true
  | .hswCmdOn _ _ _ => true
  | .hswCmdPwm _ _ _ => true
  | .hswCmdReserved _ _ _ => true
  | .hswEdgeStart _ => true
  | .pwmPeriodStart _ _ _ => true
  | .pwmOnPhaseEnd _ => true
  | .currentLimitEntry _ _ => true
  | .currentLimitExit _ => true
  | .inrushWindowEnd _ => true
  | .limitAccClear _ => true
  | .shortCircuit _ _ => true
  | .limq _ => true
  | .hswThermalLatchSet _ _ => true
  | .hswThermalLatchRelease _ _ => true
  | .retryDelayEnd _ => true
  | .wireModelUpdate _ _ => true
  | .openLoadDetect _ _ => true
  | .openLoadClear _ _ => true
  | .reverseCurrentTrip _ _ => true
  | .feedVoltageDrop _ _ => true
  | .feedUnderVoltage _ => true
  | .feedVoltageRecovery _ _ => true
  | .feedGroupRestart _ => true
  | .powerDieSupplyLoss _ => true
  | .powerDieSupplyStart _ => true
  | .hswTripCntRead _ _ => true
  | .uvCntRead _ _ => true
  | .hbrCmdOffCoast _ _ _ => true
  | .hbrCmdHighFwd _ _ _ => true
  | .hbrCmdLowRev _ _ _ => true
  | .hbrCmdPwmBrake _ _ _ => true
  | .hbrCmdBrakeh _ _ _ => true
  | .hbrCmdFpwm _ _ _ => true
  | .hbrCmdRpwm _ _ _ => true
  | .hbrCmdReserved _ _ code _ => decide (4 ≤ code.toNat)
  | .hbrMemberWrite _ _ _ => true
  | .hbrSwitchChange _ => true
  | .revdlyEnd _ => true
  | .regulationDecay _ _ => true
  | .regulationOffTimeEnd _ => true
  | .hbrOvercurrent _ _ => true
  | .hbrDesaturation _ _ => true
  | .hbrThermalLatchSet _ _ => true
  | .hbrThermalLatchRelease _ _ => true
  | .stall _ => true
  | .stallAccReset _ => true
  | .posCntWrite _ _ _ => true
  | .hbrTripCntRead _ _ => true
  | .solCmdFire _ _ _ => true
  | .solCmdOff _ _ _ => true
  | .solCmdReserved _ _ _ _ => true
  | .valveStartInstant _ _ => true
  | .peakStart _ _ => true
  | .deferredPeakStart _ => true
  | .peakRegulationCrossing _ _ _ => true
  | .armatureDetected _ _ _ => true
  | .peakEnd _ _ _ => true
  | .holdPeriod _ _ _ _ => true
  | .holdEnd _ _ => true
  | .valveReleased _ _ => true
  | .deferTimeout _ _ => true
  | .dutyBinAdvance _ _ => true
  | .valveOvercurrent _ _ _ => true
  | .valveLowSideDesat _ _ _ => true
  | .openCoilInHold _ _ _ => true
  | .holdTooLow _ _ _ => true
  | .bankOvercurrent _ _ => true
  | .bankRailShort _ _ => true
  | .valveContactToGround _ _ => true
  | .lowSideThermalLatch _ _ _ => true
  | .bankThermalLatch _ _ => true
  | .solThermalLatchRelease _ _ _ => true
  | .solTripCntRead _ _ => true
  | .swiSample _ mvs => decide (mvs.length = 32)
  | .inputOvervoltage _ _ => true
  | .wettingReconnect _ => true
  | .wettingOvertemp _ _ => true
  | .wettingOvertempClear _ _ => true
  | .parkPoll mvs => decide (mvs.length = 16)
  | .capSample _ raws => decide (raws.length = 7)
  | .capConfirmSample _ raws => decide (raws.length = 7)
  | .stuckTouch _ => true
  | .coreInterrupt _ => true
  | .nop _ _ specs => decide (specs.length ≤ 3)
  | .trap _ _ specs => decide (specs.length ≤ 3)
  | .eret _ _ specs => decide (specs.length ≤ 3)
  | .done _ _ specs => decide (specs.length ≤ 3)
  | .crd _ _ specs => decide (specs.length ≤ 3)
  | .cwr _ _ specs => decide (specs.length ≤ 3)
  | .rep _ _ specs => decide (specs.length ≤ 3)
  | .repi _ _ specs => decide (specs.length ≤ 3)
  | .br _ _ specs => decide (specs.length ≤ 3)
  | .jmp _ _ specs => decide (specs.length ≤ 3)
  | .call _ _ specs => decide (specs.length ≤ 3)
  | .frn _ _ specs => decide (specs.length ≤ 3)
  | .add _ _ specs => decide (specs.length ≤ 3)
  | .addc _ _ specs => decide (specs.length ≤ 3)
  | .sub _ _ specs => decide (specs.length ≤ 3)
  | .subb _ _ specs => decide (specs.length ≤ 3)
  | .neg _ _ specs => decide (specs.length ≤ 3)
  | .cmp _ _ specs => decide (specs.length ≤ 3)
  | .divu _ _ specs => decide (specs.length ≤ 3)
  | .divs _ _ specs => decide (specs.length ≤ 3)
  | .remu _ _ specs => decide (specs.length ≤ 3)
  | .rems _ _ specs => decide (specs.length ≤ 3)
  | .mov _ _ specs => decide (specs.length ≤ 3)
  | .movz _ _ specs => decide (specs.length ≤ 3)
  | .movs _ _ specs => decide (specs.length ≤ 3)
  | .and _ _ specs => decide (specs.length ≤ 3)
  | .or _ _ specs => decide (specs.length ≤ 3)
  | .xor _ _ specs => decide (specs.length ≤ 3)
  | .andn _ _ specs => decide (specs.length ≤ 3)
  | .not _ _ specs => decide (specs.length ≤ 3)
  | .tst _ _ specs => decide (specs.length ≤ 3)
  | .shl _ _ specs => decide (specs.length ≤ 3)
  | .shr _ _ specs => decide (specs.length ≤ 3)
  | .sar _ _ specs => decide (specs.length ≤ 3)
  | .rol _ _ specs => decide (specs.length ≤ 3)
  | .mulu _ _ specs => decide (specs.length ≤ 3)
  | .muls _ _ specs => decide (specs.length ≤ 3)
  | .macu _ _ specs => decide (specs.length ≤ 3)
  | .macs _ _ specs => decide (specs.length ≤ 3)
  | .movp _ _ specs => decide (specs.length ≤ 3)
  | .vmulu _ _ specs => decide (specs.length ≤ 3)
  | .vmuls _ _ specs => decide (specs.length ≤ 3)
  | .vmacu _ _ specs => decide (specs.length ≤ 3)
  | .vmacs _ _ specs => decide (specs.length ≤ 3)
  | .vadd _ _ specs => decide (specs.length ≤ 3)
  | .vsub _ _ specs => decide (specs.length ≤ 3)
  | .vadds _ _ specs => decide (specs.length ≤ 3)
  | .vsubs _ _ specs => decide (specs.length ≤ 3)
  | .vaddus _ _ specs => decide (specs.length ≤ 3)
  | .vsubus _ _ specs => decide (specs.length ≤ 3)
  | .vmin _ _ specs => decide (specs.length ≤ 3)
  | .vmax _ _ specs => decide (specs.length ≤ 3)
  | .vminu _ _ specs => decide (specs.length ≤ 3)
  | .vmaxu _ _ specs => decide (specs.length ≤ 3)
  | .vceq _ _ specs => decide (specs.length ≤ 3)
  | .vcgt _ _ specs => decide (specs.length ≤ 3)
  | .vcgtu _ _ specs => decide (specs.length ≤ 3)
  | .vshl _ _ specs => decide (specs.length ≤ 3)
  | .vshr _ _ specs => decide (specs.length ≤ 3)
  | .vsar _ _ specs => decide (specs.length ≤ 3)
  | .tas _ _ specs => decide (specs.length ≤ 3)
  | .lr _ _ specs => decide (specs.length ≤ 3)
  | .sc _ _ specs => decide (specs.length ≤ 3)
  | .probe _ _ specs => decide (specs.length ≤ 3)
  | .ctxEnable _ _ => true
  | .ctxDisable _ _ => true
  | .ctxActivate _ _ => true
  | .ctxAbort _ _ => true
  | .ctxCmdRefused _ op _ => decide (op.toNat ≠ 3)
  | .yield _ => true
  | .evlWr _ _ => true
  | .evsw _ _ => true
  | .eventLineCause _ => true
  | .dispatch _ => true
  | .preempt _ => true
  | .deadline _ => true
  | .ovrCntRead _ => true
  | .skipCntRead _ => true
  | .take _ => true
  | .give _ _ => true
  | .put _ _ => true
  | .pqLink _ _ => true
  | .qstatDropRead _ _ => true
  | .dmaStart _ _ => true
  | .dmaStop _ _ => true
  | .dmaAbort _ _ => true
  | .dmaResume _ _ => true
  | .dmaCmdRefused _ _ op => decide (op.toNat ≠ 0 ∧ op.toNat ≠ 3)
  | .descriptorStart _ => true
  | .dmaUnit _ => true
  | .dmaRetry _ => true
  | .pacingGateEval _ => true
  | .dmaDropCntRead _ _ => true
  | .canModeInit _ _ => true
  | .canModeNormal _ _ => true
  | .canModeMonitor _ _ => true
  | .canModeRestricted _ _ => true
  | .canModeLoopback _ _ => true
  | .canModeRefused _ _ _ => true
  | .canBusIdleApply _ => true
  | .canIntegrationDone _ => true
  | .boreq _ _ _ => true
  | .busOffRecoveryDone _ => true
  | .canFrameReceived _ f => f.wf
  | .canErrorDetected _ _ _ _ => true
  | .txbLoad _ _ _ _ => true
  | .canTxqPut _ _ _ => true
  | .txAbortBuffer _ _ _ => true
  | .txAbortQueue _ _ => true
  | .txSelection _ => true
  | .canTxEnd _ _ _ => true
  | .canTrxNormal _ _ => true
  | .canTrxSilent _ _ => true
  | .canTrxSleep _ _ => true
  | .canModeSwitchEnd _ => true
  | .wup _ _ => true
  | .wuf _ _ _ _ _ => true
  | .fecw _ => true
  | .perrRead _ _ => true
  | .canRxStatRead _ _ => true
  | .linModeInit _ _ => true
  | .linModeCommander _ _ => true
  | .linModeResponder _ _ => true
  | .linModeMonitor _ _ => true
  | .linModeRefused _ _ _ => true
  | .linBusIdleApply _ => true
  | .linSlotStart _ => true
  | .linHeader _ _ => true
  | .linResponseTimeout _ l => decide (l.length ≤ 8)
  | .linEntryComplete _ l _ _ _ => decide (l.length ≤ 8)
  | .linWakePulse _ _ _ => true
  | .linSleepRequest _ _ => true
  | .linSleepRelease _ _ => true
  | .txdto _ => true
  | .linWakeDetect _ => true
  | .linRxStatRead _ _ => true
  | .ethFrameReceived _ _ _ _ _ => true
  | .ethTxqPut _ _ _ _ => true
  | .ethTxAbort _ _ _ => true
  | .ethTxEnd _ _ => true
  | .ethModeOff _ _ => true
  | .ethModeRun _ _ => true
  | .ethModeLoopback _ _ => true
  | .ethModeRefused _ _ => true
  | .tc10ReqSleep _ _ => true
  | .tc10ReqWake _ _ => true
  | .tc10ReqAccept _ _ => true
  | .tc10ReqReject _ _ => true
  | .tc10ReqRefused _ _ _ => true
  | .tc10PartnerSleepRequest _ => true
  | .tc10HandshakeDone _ => true
  | .tc10HandshakeFail _ => true
  | .tc10SleepTimeout _ => true
  | .tc10WupReceived _ => true
  | .tc10WurReceived _ => true
  | .ethLinkUp _ _ => true
  | .ethLinkLoss _ => true
  | .ethRxStatRead _ _ => true
  | .rxErrRead _ _ => true
  | .needSet _ _ => true
  | .needClr _ _ => true
  | .keep _ _ => true
  | .nscHoldExpiry => true
  | .commitPoint => true
  | .nscWake _ => true
  | .nscSwitchEnd => true
  | .awakeTTick => true
  | .fsKick _ _ => true
  | .failSafeExpiry => true
  | .countsRead _ => true
  | .pllLossOfLock => true
  | .lpoCalibration _ => true
  | .wdgKick _ _ => true
  | .watchdogExpiry _ => true
  | .debugPortReset => true
  | .powerOnReset _ _ _ => true
  | .controllerReset _ => true
  | .coreReset _ => true
  | .rstCtlController _ => true
  | .rstCtlCore _ _ => true
  | .debugResetRequest => true
  | .imageVerificationDone => true
  | .outputHoldEnd => true
  | .fallbackFlashToggle => true
  | .outRel _ => true
  | .crstRead _ _ => true
  | .pollCmd _ _ _ _ => true
  | .touchPollStart => true
  | .pollAttemptStart => true
  | .responseWindowEnd l _ => l.all Telegram.wf
  | .antennaFault _ _ => true
  | .buttonTelegram t => t.wf
  | .uhfWake => true
  | .authWindowEnd => true
  | .learnCtl _ => true
  | .learnDone => true
  | .immoClose _ => true
  | .immoOpen _ => true
  | .relayOvercurrent _ => true
  | .invInfoRead _ => true
  | .hash _ => true
  | .verify _ => true
  | .quote _ => true
  | .idexport _ => true
  | .ktexport _ => true
  | .keyset _ => true
  | .erase _ => true
  | .program _ => true
  | .commit _ => true
  | .rollfwd _ => true
  | .ucfg _ => true
  | .rand _ => true
  | .badop _ op => decide (op.toNat = 0 ∨ 12 < op.toNat)
  | .cryptoCmdRefused _ _ => true
  | .cryptoOperationDone _ => true
  | .beaconReceived _ _ _ => true
  | .heardSetExpiry _ => true
  | .syncReceived _ _ => true
  | .pdelayExchange => true
  | .syncTimeout => true
  | .remoteReadRequest _ _ => true
  | .remoteWriteRequest _ _ => true
  | .respReceived _ _ _ => true
  | .requestTimeout => true
  | .rdreqReceived _ _ _ => true
  | .wrreqReceived _ _ _ _ => true
  | .bondMsgSend => true
  | .msgReceived _ _ _ _ => true
  | .mirinReceived _ _ _ _ => true
  | .miroutReceived _ _ _ => true
  | .mirrorWindowEnd => true
  | .qkick _ _ => true
  | .quoinEdge => true
  | .quoinTimeout => true
  | .takeoverDelayEnd => true
  | .gate _ _ _ => true
  | .cmpCntRead _ => true
  | .linkCntRead _ => true
  | .msgStatRead _ => true
  | .illegalInstruction _ => true
  | .regactExpiry _ => true
  | .wakeDecoderFrame _ _ _ => true
  | .linSyncFramingError _ => true
  | .linModeSwitchEnd _ => true
  | .ethModeSwitchEnd _ => true
  | .uhfListenEnd => true
  | .moduleSupplyLoss => true

end Sys2Proof
end

