-- ==== Sys2Proof/Tests/Slice0.lean ====
section
/-!
SUPPORT. Small tests of the model, each on one step of a small state; ill-formed commands that the check of well-formed commands refuses;
and for every statement with hypotheses a theorem `wit_…` that shows concrete states and operands that meet them, clause by clause, at boundary
values of their ranges.
-/
open Sys2Proof Sys2Proof.Machine
namespace Sys2Proof.Tests

/-- The state right after reset with its blocks changed by `f`. -/
def mk (f : Hw → Hw) : State := State.reset.withHw f

/-- The same with the registers and the applied configuration of the lists. -/
def mkR (l c : List (Nat × Word)) (f : Hw → Hw) : State := mk (fun h => { f h with regs := l, applied := c })

/-- The debug port may write register `off` of page (`ty`, `i`) right after reset. -/
abbrev mayWrite (ty i off : Nat) : Prop := State.reset.writes .debug ty i off = true

/-- The debug port may read it. -/
abbrev mayRead (ty i off : Nat) : Prop := State.reset.reads .debug ty i off = true

/-- The module without supply. -/
def dead : State := mk (fun h => { h with rst := { h.rst with off := true } })

/-- A module whose domain `d` is in state `p`. -/
def domIs (d : Nat) (p : PwrState) (h : Hw) : Hw := { h with doms := [(d, { state := p, req := p })] }

/-! ## The block as a whole and its registers -/

theorem wit_BlockSteps : State.reset.pending = [] ∧ State.reset.alive = true ∧ dead.alive = false ∧
    (∀ straps rail trimOk, Instr.frameBoundary ≠ .powerOnReset straps rail trimOk) :=
  ⟨by decide, by decide, by decide, fun _ _ _ => nofun⟩

theorem wit_MemoryFormKept : State.reset.m.memOk = true ∧ ∃ t, step State.reset = .next t := ⟨by decide, _, rfl⟩

theorem wit_RegisterWriteByAccessType :
    mayWrite 0x10 36 0x424 ∧ (findReg 0x10 36 0x424).isSome = true ∧ (pageAct .debug 0x10 36 0x424 0x3F State.reset.m).isNone = true ∧
    mayRead 0x10 95 0xFFC ∧ (findReg 0x10 95 0xFFC).isNone = true ∧ mayRead 0x50 0 0x43C ∧ (findReg 0x50 0 0x43C).isSome = true := by decide

/-- The lock word of an HSW page whose owner is context 7: mode `m`, the live registers covered too. -/
def locked (m : Word) (h : Hw) : Hw :=
  { h with
    regs := [(pg 0x10 0 + oLOCK, 0x710 + m)]
    olk := [(0, { phase := .run, sup := false, ctx := some 7 }), (1, { phase := .run, sup := false, ctx := some 8 })]
    ctxs := [(7, { grants := [⟨0x41000000, 12, true, true, false⟩] }), (8, { grants := [⟨0x41000000, 12, true, true, false⟩] })] }

theorem wit_PageLocks :
    ((mk (locked 0)).reads (.core 1) 0x10 0 0x040 = true ∧ fld (rd (mk (locked 0)).m.hw 0x10 0 oLOCK) 0 2 = 0) ∧
    ((mk (locked 1)).reads (.core 1) 0x10 0 0x400 = true ∧ (mk (locked 1)).writes (.core 1) 0x10 0 0x400 = false) ∧
    (mk (locked 1)).writes .debug 0x10 0 0x7FC = true ∧
    ((mk (locked 2)).writes (.core 0) 0x10 0 0x400 = true ∧ (mk (locked 2)).writes (.core 1) 0x10 0 0x400 = false) ∧
    ((mk (locked 2)).writes (.core 0) 0x10 0 oLOCK = false ∧ (mk (locked 2)).writes .debug 0x10 0 oLOCK = true) ∧
    ((mk (locked 3)).writes .debug 0x10 0 0x400 = false ∧ (mk (locked 3)).writes .debug 0x10 0 0x040 = true) ∧
    (findReg 0x10 0 0x400).isSome = true ∧ (pageAct .debug 0x10 0 0x400 0 (mk (locked 1)).m).isNone = true := by decide

theorem wit_MemoryWriteReadsBack :
    let s := State.reset
    let ok := fun (a k : Nat) => (addrDomain a).isSome = true ∧ a % 2 ^ k = 0 ∧ iniLive s.m.hw .debug = true ∧
      ungranted s.m.hw .debug a (2 ^ k) true = false ∧ (splitWords a (2 ^ k)).all (fun b => accessOpen s.m.hw .debug b) = true
    s.alive = true ∧ ok 0x20000000 4 ∧ ok 0x201FFFFF 0 ∧ ok 0x21000000 2 := by decide

theorem wit_CommitsAndSources :
    mayWrite 0x14 3 oCOMMIT ∧ mayWrite 0x10 95 oCOMMIT ∧ (6 ≤ (6 : BitVec 3).toNat ∧ 6 ≤ (7 : BitVec 3).toNat) ∧ 0x41 ∈ [0x40, 0x41] ∧
    mayWrite 1 0 0x070 ∧ mayWrite 0x50 0 oSET := by decide

theorem wit_ApplyCopiesStaging :
    (pageDomain 0x20 7).isSome = true ∧ commitWaits 0x20 7 State.reset.m.hw = false ∧
    commitWaits 0x20 7 (mkR [(pg 0x20 7 + 0x040, 1), (pg 0x20 7 + 0x404, 7)] [] id).m.hw = true ∧
    commitWaits 0x21 15 (mkR [(pg 0x21 15 + 0x404, 7)] [] (fun h => { h with lin := [(15, { run := true })] })).m.hw = true := by decide

theorem wit_ImmediateCommitDeferred : mayWrite 0x10 95 oCOMMIT ∧ mayWrite 0x11 23 oCOMMIT ∧ mayWrite 0x12 3 oCOMMIT := by decide

theorem wit_CountersClearOnRead :
    (mayRead 2 0 0x900 ∧ mayRead 2 0 (0x900 + 4 * 44) ∧ mayRead 1 0 (0x0A0 + 4 * 11) ∧ mayRead 0x10 95 0x04C ∧ mayRead 0x11 23 0x04C ∧
      mayRead 0x12 3 0x0B4 ∧ mayRead 0x10 36 0x058 ∧ mayRead 0x14 3 (0x100 + 4 * 47) ∧ mayRead 0x30 0 0x060 ∧ mayRead 0x30 0 0x064 ∧
      mayRead 0x31 63 0x060 ∧ mayRead 0x32 0 (0x800 + 4 * 63)) ∧
    mayRead 0x20 7 0x04C ∧ mayRead 0x20 7 0x050 ∧ mayRead 0x21 15 0x048 ∧ mayRead 0x22 1 0x048 ∧ mayRead 0x22 1 0x04C ∧ mayRead 0x23 0 0x05C ∧
    mayRead 0x40 0 0x05C ∧ mayRead 0x50 0 0x064 ∧ mayRead 0x50 0 0x068 ∧ mayRead 0x50 0 0x084 := by decide

/-! ## Measurement (chapter 03) -/

theorem wit_CalibrationArithmetic : (-8388608 : Int) ≤ -8388608 ∧ (8388607 : Int) ≤ 8388607 := by decide

theorem wit_MeasurementResult :
    State.reset.alive = true ∧ measLive State.reset.m.hw 0 47 = true ∧ usesMean State.reset.m.hw 0 47 = false ∧
    (let s := mkR [] [(pg 0x14 0 + 0x408, 1)] (fun h =>
       { h with feeds := [(0, { supply := .on })], hsw := [(0, { cmd := 2, st := .on, pwm := { duty := 65534 } })] })
     measLive s.m.hw 0 0 = true ∧ usesMean s.m.hw 0 0 = true) := by decide

theorem wit_NoResultOutOfOperation :
    let m := fun (r : MeasG) => (mk (fun h => { h with meas := [(3, r)] })).m.hw
    domOn (mk (domIs 34 .ret)).m.hw 34 = false ∧ (meas (m { win := some (45, true) }) 3).win.map Prod.fst = some 45 ∧
      settled (m { settle := [(45, 2)] }) 3 45 = false ∧ (feed State.reset.m.hw 3).supply ≠ .on ∧ 33 < 34 ∧ usesMean State.reset.m.hw 3 33 = false := by
  refine ⟨by decide, by decide, ?_, by decide, by decide, by decide⟩
  show decide (1 + min 310 (Config.settleTime 2) ≤ 0) = false
  exact decide_eq_false (by omega)

theorem wit_CalibrationRound :
    let m := fun (r : MeasG) => mk (fun h => { h with meas := [(0, r)], feeds := [(0, { supply := .on })] })
    (domOpen State.reset.m.hw 34 = true ∧ (meas State.reset.m.hw 3).win = none ∧ (meas State.reset.m.hw 3).reqWait = none ∧
      cfgF State.reset.m.hw 0x14 3 0x400 0 1 = 1 ∧ (meas State.reset.m.hw 3).idx = 0 ∧ (feed State.reset.m.hw 3).supply ≠ .on) ∧
    ((meas (m { idx := 45 }).m.hw 0).idx = 45 ∧ 34 ≤ (meas (m { idx := 45 }).m.hw 0).idx) ∧
    (measOff (m {}).m.hw 0 0 = true ∧ 0 * 100 < measNominal 0) ∧
    ((meas (m { win := some (45, false) }).m.hw 0).win = some (45, false) ∧ bit (rd (m {}).m.hw 0x14 0 0x040) 1 = true ∧
      calOk (m {}).m.hw 0 45 1048576 0 = true ∧ calOk (m {}).m.hw 0 45 0 0 = false) ∧
    mayWrite 0x14 3 0x048 ∧
    ((meas (m { reqWait := some 34 }).m.hw 0).reqWait = some 34 ∧ domOpen (m { reqWait := some 34 }).m.hw 31 = true ∧ measIdle (m { reqWait := some 34 }).m.hw 0 34 0 = true ∧
      (meas (m { reqWait := some 34 }).m.hw 0).win = none) := by decide

/-! ## Power dies (chapters 04 … 06) -/

/-- High-side channel 95 of feed group 3, which is supplied. -/
def chan (r : HswCh) : State := mk (fun h => { h with hsw := [(95, r)], feeds := [(3, { supply := .on })] })

theorem wit_ReservedCommandsIgnored : mayWrite 0x10 95 0x040 ∧ mayWrite 0x12 3 0x04C := by decide

theorem wit_HswSwitching :
    mayWrite 0x10 95 0x040 ∧
    (let h := (chan { cmd := 0, pend := true, st := .on, out := true, edgeAt := 1000 }).m.hw
     (hsw h 95).pend = true ∧ edgeIn h 95 = some 1000 ∧ (hsw h 95).cmd = 0) ∧
    (let p : Pwm := { onAt := 64, dutyAt := 64, perEnd := 128 }
     0 < 64 ∧ p.onAt + 64 ≤ 0 + 64 % 64 + 2 * 64 ∧ p.dutyAt + 64 ≤ 0 + 64 % 64 + 2 * 64 ∧ p.perEnd ≤ 0 + 64 % 64 + 2 * 64) ∧
    (let h := (chan { cmd := 1, pend := true }).m.hw
     (hsw h 95).pend = true ∧ edgeIn h 95 = some 0 ∧ (hsw h 95).cmd = 1 ∧ (hsw h 95).st = .off ∧ (hsw h 95).flashOff = false) ∧
    (let h := (chan { cmd := 2, st := .on, out := true, pwm := { duty := 32768 } }).m.hw
     let q := pwmStart (hswPer h 95) (64 * dieF h 0x10 95 0x404 0 16) (epochOf h (dieF h 0x10 95 0x404 16 4) (hsw h 95).pwm.epoch) 0 0 true
       (hsw h 95).pwm
     q.map (fun q => (q.onT, q.offT)) = some (32000, 32000) ∧ tooShort (dieF h 0x10 95 0x408 0 2) 32000 = false ∧ (hsw h 95).cmd = 2 ∧
       (hsw h 95).st = .on ∧ (hsw h 95).out = true ∧ pwmOffNow h (hsw h 95).pwm = true) ∧
    (let h := (chan { st := .on, out := true }).m.hw
     (hsw h 95).st = .on ∧ (hsw h 95).out = true ∧ hswLimit h 95 * 9 ≤ 36000 * 10 ∧ ¬ hswLimit h 95 * 9 ≤ 35999 * 10) ∧
    (hsw (chan { st := .limit }).m.hw 95).st = .limit ∧
    (let h := { (chan { st := .on, out := true, inrush := true, acc := true }).m.hw with now := 9500 }
     (hsw h 95).inrush = true ∧ (hsw h 95).st = .on ∧ dieF h 0x10 95 0x40C 8 8 = 10 ∧ (hswT h 95).inrAt + 10 * 950 ≤ h.now ∧
       950 ≤ hswFree h 95) := by decide

theorem wit_HswProtection :
    (let h := (chan { st := .on, out := true, retryLeft := 0 }).m.hw
     (hsw h 95).st = .on ∧ (hsw h 95).out = true ∧ hswScLimit h 95 * 255 < 51001 * 200 ∧ hswNominal 95 * 3 < 30001 * 2) ∧
    (let h := { (chan { st := .limit, out := true, acc := true }).m.hw with now := 950 }
     (hsw h 95).st = .limit ∧ limqTime h 95 * 95 ≤ hswLimited h 95 * 100 ∧
       ¬ limqTime h 95 * 95 ≤ hswLimited { h with now := 949 } 95 * 100) ∧
    (let h := { (chan { st := .retry }).m.hw with now := 95000 }
     (hswT h 95).retryAt + retryTime h 95 * 95 / 100 = h.now) ∧
    (let h := (chan { supplied := true }).m.hw
     (hsw h 95).supplied = true ∧ 165 ≤ 165 ∧ (hsw h 95).st ≠ .wire) ∧
    (let h := (chan { tl := true, st := .therm }).m.hw
     (hsw h 95).tl = true ∧ 170 ≤ 170 ∧ (hsw h 95).st = .therm) ∧
    (let h := (chan { cmd := 1, st := .retry }).m.hw
     (hsw h 95).st = .retry ∧ feedNormal h 3 = true ∧ hswGroup 95 = 3 ∧ (hsw h 95).cmd = 1 ∧ (hsw h 95).flashOff = false) ∧
    (let h := (chan { cmd := 2, st := .retry }).m.hw
     (hsw h 95).st = .retry ∧ feedNormal h 3 = true ∧ (hsw h 95).cmd ≠ 0 ∧ (hsw h 95).cmd ≠ 1) ∧
    (hsw (chan { st := .retry }).m.hw 95).cmd = 0 ∧
    (let h := (mk (fun h => { h with hsw := [(95, { cmd := 2, st := .retry })] })).m.hw
     (hsw h 95).st = .retry ∧ (hsw h 95).cmd ≠ 0 ∧ feedNormal h 3 = false) ∧
    (let h := (chan { supplied := true, st := .on }).m.hw
     wireOff h 95 = false ∧ (hsw h 95).modelOff = false ∧ (hsw h 95).supplied = true ∧ (hsw h 95).st = .on ∧ 0 < wireA h 95) ∧
    (let h := (chan { supplied := true, st := .on, thetaX := 0xFFFE * 2 ^ 26 }).m.hw
     wireOff h 95 = false ∧ wireA h 95 * 64 ≤ 0x8000 ∧ (hsw h 95).supplied = true) ∧
    (hsw (chan { supplied := true, st := .wire }).m.hw 95).st = .wire ∧
    wireOff (mkR [] [] (fun h => { h with hsw := [(95, { supplied := true })], dieCfg := [(pg 0x10 95 + 0x418, 0xB)] })).m.hw 95 = true ∧
    (let h := (chan { st := .limit, out := true }).m.hw
     (hsw h 95).st = .limit ∧ (hsw h 95).out = true ∧ dieF h 0x10 95 0x414 0 12 * 882 < 4001 * 800 + 800) ∧
    (let h := (mk (fun h => { h with hsw := [(95, { st := .on, out := true })], dieCfg := [(pg 0x10 95 + 0x414, 0x320001)] })).m.hw
     (hsw h 95).st = .on ∧ (hsw h 95).out = true ∧ dieF h 0x10 95 0x414 16 8 ≠ 0 ∧ 2 * 100 < dieF h 0x10 95 0x414 0 12 * 102 + 100) := by decide

theorem wit_FeedSupply :
    let g := fun (f : Feed) => (mk (fun h => { h with feeds := [(3, f)] })).m.hw
    let thr := uvThr (g { supply := .on }) 3
    let full := thr + uvHys (g { supply := .on })
    ((feed (g { supply := .on }) 3).supply = .on ∧ 5609 * 100 < thr * 102 ∧ thr * 102 ≤ 5610 * 100 ∧ 5610 * 100 < full * 102 ∧
      full * 98 ≤ 5880 * 100 ∧ thr * 98 ≤ 5390 * 100 ∧ 5879 * 100 < full * 98) ∧
    (let h := { g { supply := .on, low := true } with now := 45 }
     (feed h 3).low = true ∧ (feed h 3).lowAt + uvFilt h 3 * 90 / 100 = h.now) ∧
    (let h := { g { supply := .on, uv := true, rstPend := true, rstAt := 7 } with now := 9507 }
     (feed h 3).rstPend = true ∧ (feed h 3).rstAt + rstDly h 3 * 95 / 100 = h.now) ∧
    (feed (g { supply := .lost }) 3).supply ≠ .on ∧ (feed (g {}) 3).supply ≠ .on ∧ (feed (g {}) 3).mode = .normal ∧
    (feed (g { mode := .hold }) 3).mode ≠ .normal := by decide

/-- Half-bridge 23, a unit of its own, on a supplied die. -/
def unit (r : HbrU) : State := mk (fun h => { h with hbr := [(23, r)], feeds := [(3, { supply := .on })] })

/-- Half-bridges 22 and 23 as an H-bridge led by 22. -/
def pair (r : HbrU) : State :=
  mk (fun h => { h with hbr := [(22, r)], feeds := [(3, { supply := .on })], dieCfg := [(pg 0x11 22 + 0x408, 0xA1001)] })

theorem wit_HbrSwitching :
    (mayWrite 0x11 23 0x040 ∧ hbrLead State.reset.m.hw 23 = 23 ∧ hbrSingle State.reset.m.hw 23 = true ∧ 4 ≤ (4 : BitVec 3).toNat) ∧
    (let s := pair {}
     s.writes .debug 0x11 22 0x040 = true ∧ hbrLead s.m.hw 22 = 22 ∧ hbrSingle s.m.hw 22 = false ∧ (7 : BitVec 3).toNat = 7 ∧
       s.writes .debug 0x11 23 0x040 = true ∧ hbrLead s.m.hw 23 ≠ 23) ∧
    (let h := (unit { pend := true, edgeAt := 1000 }).m.hw
     (hbr h 23).pend = true ∧ edgeLeft h (23 / 6) (hbr h 23).edgeAt = some 1000) ∧
    (let h := (unit { st := .revdly, cmd := 1 }).m.hw
     (hbr h 23).st = .revdly ∧ (hbr h 23).revAt ≤ h.now) ∧
    (let h := (pair { cmd := 5, act := 5, st := .drive, pwm := { duty := 32768 } }).m.hw
     let q := pwmStart (hbrPer h 22) (64 * hbrF h 22 0x404 0 16) (epochOf h (hbrF h 22 0x404 16 4) (hbr h 22).pwm.epoch) 0 0
       (hbrIsPwm (hbrSingle h 22) (hbr h 22).cmd) (hbr h 22).pwm
     hbrIsPwm (hbrSingle h 22) (hbr h 22).act = true ∧ (hbr h 22).st = .drive ∧
       q.map (fun q => (q.onT, q.offT)) = some (1600, 1600) ∧ hbrShort (hbrF h 22 0x408 12 2) 1600 = false) ∧
    (let h := (unit { onPh := true }).m.hw
     (hbr h 23).onPh = true ∧ pwmOffNow h (hbr h 23).pwm = true) ∧
    (let h := (mk (fun h => { h with hbr := [(23, { st := .drive, sw := .rev })], dieCfg := [(pg 0x11 23 + 0x40C, 1)] })).m.hw
     (hbr h 23).st = .drive ∧ (hbr h 23).sw = .rev ∧ hbrF h 23 0x40C 0 12 * 10 ≠ 0 ∧ hbrF h 23 0x40C 0 12 * 10 * 97 < 0 * 100 + 5000) ∧
    (let h := { (unit { decay := true, regAt := 3 }).m.hw with now := 22 }
     (hbr h 23).decay = true ∧ regOff h 23 * 95 = (h.now - (hbr h 23).regAt) * 100) ∧
    (let h := (mk (fun h => { h with now := 1000, hbr := [(23, { regAct := true })] })).m.hw
     (hbr h 23).decay = false ∧ (hbr h 23).regAt + 1000 ≤ h.now) := by decide

theorem wit_HbrProtection :
    (let h := (unit { sw := .fwd }).m.hw
     hbrLead h 23 = 23 ∧ (hbr h 23).st ≠ .therm ∧ (hbr h 23).st ≠ .trip ∧ (feed h (23 / 6)).supply = .on ∧ hbrF h 23 0x40C 28 2 = 1 ∧
       20000 * 9 < 18001 * 10 ∧ 1600 < 1601 ∧ hbrOut h 23 = 1 ∧ 165 ≤ 165) ∧
    hbrOut (unit { sw := .lows }).m.hw 23 = 2 ∧
    (let h := (mk (fun h => { h with hbr := [(23, { st := .therm, cmd := 1 })], hbrTl := [(23, true)] })).m.hw
     smGet false h.hbrTl 23 = true ∧ 170 ≤ 170 ∧ (hbr h (hbrLead h 23)).st = .therm ∧
       ∀ k, k < 24 → k ≠ 23 → hbrLead h k = 23 → smGet false h.hbrTl k = false) ∧
    (let h := (mk (fun h => { h with hbr := [(23, { st := .drive })], hbrTl := [(23, true)] })).m.hw
     smGet false h.hbrTl 23 = true ∧ (hbr h (hbrLead h 23)).st ≠ .therm) ∧
    (let h := (mk (fun h => { h with now := 57000, hbr := [(23, { st := .drive })], dieCfg := [(pg 0x11 23 + 0x410, 0xC5010001)] })).m.hw
     (hbr h 23).st = .drive ∧ hbrF h 23 0x410 16 8 = 1 ∧ hbrF h 23 0x410 30 2 = 3 ∧ hbrLead h 23 = 23 ∧ hbrF h 23 0x410 0 12 * 10 ≤ 10 ∧
       (hbr h 23).driveAt + hbrF h 23 0x410 24 6 * 9500 + 1 * 1000 ≤ h.now ∧ (hbr h 23).stallAt + 1 * 1000 ≤ h.now ∧
       0 * 100 < 1 * 95 ∧ 1 * 95 ≤ (0 + 1) * 100) ∧
    mayWrite 0x11 23 0x050 := by decide

/-- Valve 3 of bank 3, on a supplied die. -/
def valve15 (r : Valve) (b : Bank := {}) : State :=
  mk (fun h => { h with valves := [(15, r)], banks := [(3, b)], feeds := [(3, { supply := .on })] })

theorem wit_SolProfile :
    mayWrite 0x12 3 0x04C ∧
    (let h := (valve15 { st := .wait, admitAt := 0 }).m.hw
     (valve h 3 3).st = .wait ∧ feedNormal h 3 = true ∧ (valve h 3 3).queued = false ∧ iPeakOf h 3 3 ≠ 0 ∧ peakActive h 3 = false ∧
       inGap h 3 = false ∧ (∀ k, k < 4 → k ≠ 3 → busyValve (valve h 3 k) = false) ∧
       ∀ k, k < 4 → ¬ ((valve h 3 k).queued = true ∧ (valve h 3 k).st = .wait)) ∧
    (let h := (mk (fun h => { h with now := soffOf h 3 3 + 20, valves := [(15, { st := .wait })] })).m.hw
     planOf h 3 3 ≤ h.now + 20 ∧ planOf h 3 3 ≤ h.now) ∧
    inGap (valve15 { st := .wait } { lastPeak := some 0 }).m.hw 3 = true ∧
    (let h := (mk (fun h => { h with valves := [(15, { st := .wait })], dieCfg := [(pg 0x12 3 + 0x4A0, 0)] })).m.hw
     (valve h 3 3).queued = false ∧ iPeakOf h 3 3 = 0) ∧
    (let h := (mk (fun h => { h with valves := [(14, { st := .wait, queued := true, ord := 8 }), (15, { st := .wait, queued := true, ord := 7 })] })).m.hw
     (valve h 3 3).queued = true ∧ iPeakOf h 3 3 ≠ 0 ∧ peakActive h 3 = false ∧ inGap h 3 = false ∧
       ∀ k, k < 4 → k ≠ 3 → (valve h 3 k).queued = true ∧ (valve h 3 k).st = .wait → (valve h 3 3).ord < (valve h 3 k).ord) ∧
    (valve (valve15 { st := .rel }).m.hw 3 3).st = .rel ∧
    (let h := (mk (fun h => { h with now := 1000, valves := [(15, { st := .wait, queued := true })], dieCfg := [(pg 0x12 3 + 0x400, 0x010C8110)] })).m.hw
     (valve h 3 3).st = .wait ∧ (valve h 3 3).queued = true ∧ dmaxOf h 3 ≠ 0 ∧ (valve h 3 3).planAt + dmaxOf h 3 * 1000 ≤ h.now) := by decide

/-- Valve 3 of bank 3 in a peak that began at 0, at 2 ms. -/
def peak15 (r : Valve) : State :=
  mk (fun h => { h with now := 2000, valves := [(15, { r with st := .peak, iPeak := 200 })], feeds := [(3, { supply := .on })] })

theorem wit_SolPeak :
    (let h := (peak15 { ls := true }).m.hw
     let r := valve h 3 3
     r.st = .peak ∧ solMin h 3 ≤ (h.now - r.lsAt) * 40 ∧ r.ls = true ∧ r.iPeak * 1000 < 2031 * 100 + (r.iPeak * 30 + 3000)) ∧
    (let r := valve (peak15 { pkHys := 20 }).m.hw 3 3
     r.ls = false ∧ 1889 * 100 < (r.iPeak - r.pkHys) * 1000 + (r.iPeak * 30 + 3000)) ∧
    (let r := valve (peak15 { ls := true, armCfg := 0x8000140A }).m.hw 3 3
     let low : Int := 1900
     r.ls = true ∧ bit r.armCfg 31 = true ∧ r.det = false ∧ fld r.armCfg 8 8 * 100 ≤ 2000 ∧ r.peakAt + 2000 ≤ (peak15 {}).m.hw.now ∧
       bit r.armCfg 30 = false ∧ low + fld r.armCfg 0 8 * 10 ≤ 2000 ∧ ¬ low + fld r.armCfg 0 8 * 10 ≤ 1999) ∧
    (let r := valve (peak15 { armCfg := 0xC0001480 }).m.hw 3 3
     let low : Int := 499
     bit r.armCfg 30 = true ∧ low * 256 < fld r.armCfg 0 8 * 1000 ∧ 2 * (fld r.armCfg 0 8 * 1000) < (1001 : Int) * 256) ∧
    (let h := (peak15 { tPeak := 2000 }).m.hw
     let r := valve h 3 3
     r.peakAt + r.tPeak ≤ h.now ∧ r.iPeak * 10 ≤ 500 * 4 ∧ 499 * 4 < r.iPeak * 10 ∧ bit r.armCfg 31 = false) ∧
    (let h := (peak15 { tPeak := 65535, armCfg := 0xA0050000, det := true, detAt := 1500 }).m.hw
     let r := valve h 3 3
     bit r.armCfg 31 = true ∧ bit r.armCfg 29 = true ∧ r.det = true ∧ r.detAt + fld r.armCfg 16 8 * 100 ≤ h.now) := by
  refine ⟨⟨by decide, ?_, by decide⟩, by decide⟩
  exact Nat.le_trans (Nat.min_le_left _ _) (by decide)

/-- Valve 3 of bank 3 in HOLD at instant `t`. -/
def hold15 (t : Nat) : State := mk (fun h => { h with now := t, valves := [(15, { st := .hold })], dieCfg := [(pg 0x12 3 + 0x400, 0x000C8110)] })

theorem wit_SolHold :
    (let r := valve (valve15 { st := .hold, holdEnd := some 0, extEnd := some 1 }).m.hw 3 3
     r.st = .hold ∧ laterOf r.holdEnd r.extEnd = some 1) ∧
    ∃ t, holdDue (hold15 t).m.hw 3 3 = true := by
  refine ⟨by decide, (Config.holdGrid 3 + 3 * 2000 / 4) / 40, ?_⟩
  have cfg : ∀ t, die (hold15 t).m.hw 0x12 3 0x400 = 0x000C8110 := fun _ => rfl
  have per : ∀ t, holdPer (hold15 t).m.hw 3 = 2000 := fun t => by rw [holdPer, dieF, cfg]; rfl
  have now : ∀ t, (hold15 t).m.hw.now = t := fun _ => rfl
  simp only [holdDue, per, now]
  exact decide_eq_true (by omega)

theorem wit_SolProtection :
    (let h := (valve15 { st := .hold, holdOn := 4000 } { sw := true }).m.hw
     (feed h 3).supply = .on ∧ (valve h 3 3).st = .hold ∧ 14400 ≤ 14400 ∧ 1600 ≤ 1600 ∧ lsOn h 3 3 = true ∧ 249 * 2 < iHoldOf h 3 3 ∧
       484 * 100 < iHoldOf h 3 3 * 97 ∧ 21600 ≤ 21600 ∧ (bank h 3).sw = true ∧ busyValve (valve h 3 3) = true ∧ (valve h 3 0).st = .idle ∧
       busyValve (valve h 3 0) = false ∧ 165 ≤ 165) ∧
    (∀ h, h = (valve15 { st := .hold, holdOn := 4000 }).m.hw → holdTop h 3 ≤ (valve h 3 3).holdOn) ∧
    (let h := (valve15 { st := .therm, tl := true, cmd := 1 }).m.hw
     (valve h 3 3).st = .therm ∧ (bank h 3).therm = false ∧ 170 ≤ 170) ∧
    (let h := (valve15 { st := .therm } { therm := true }).m.hw
     (valve h 3 3).st = .therm ∧ (valve h 3 3).tl = false ∧ (bank h 3).therm = true) := by
  refine ⟨by decide, ?_, by decide, by decide⟩
  rintro h rfl
  exact Nat.le_trans (Nat.sub_le _ _) (by decide)

/-! ## Switch inputs and touch (chapter 07) -/

theorem wit_SwitchInputs :
    (State.reset.alive = true ∧ domOn State.reset.m.hw 41 = true ∧ State.reset.m.hw.tbCopy % swiPeriod State.reset.m.hw 3 = 0 ∧
      smGet 0 State.reset.m.hw.swiAt 3 ≠ State.reset.m.hw.now + 1 ∧ (38000 ≤ (38000 : Int) ∧ (-1000 : Int) ≤ -1000)) ∧
    (bit (rd State.reset.m.hw 0x13 3 0x050) 31 = false ∧ 140 ≤ 140 ∧ 150 ≤ 150) ∧
    (let h := (mkR [] [(pg 0x13 0 + 0x404, 0x80000019), (pg 0x13 0 + 0x414, 0x80000000)] (domIs 41 .ret)).m.hw
     cfgF h 0x13 0 0x404 31 1 = 1 ∧ domOn h 41 = false ∧ slotOn h 15 = true ∧ slotOn h 14 = false ∧ (smGet {} h.park 15).met = false) := by
  decide

theorem wit_CapacitiveTouch :
    (State.reset.m.hw.acc.lfClear ≤ State.reset.m.hw.now ∧
      (mk (fun h => { h with acc := { h.acc with lfClear := 1 } })).m.hw.now < (mk (fun h => { h with acc := { h.acc with lfClear := 1 } })).m.hw.acc.lfClear) ∧
    let m := fun (stat : Word) (r : Cap) => (mkR [(pg 0x13 0 + 0x064, stat)] [(pg 0x13 0 + 0x418, 0x3C0F2080)] (fun h => { h with caps := [(7, r)] })).m.hw
    (bit (cfg (m 0 {}) 0x13 0 0x418) 7 = true ∧ (cap (m 0 {}) 7).based = false ∧ bit (rd (m 0 {}) 0x13 0 0x064) 7 = false ∧
      bit (rd (m 0 {}) 0x13 0 0x064) 23 = false ∧ (∀ c : Nat, c < 8 → tthr (m 0 {}) c = 50)) ∧
    ((cap (m 0 { based := true, base := 1000 }) 7).base = 1000 ∧ tthr (m 0 {}) 7 ≤ (1050 : Int) - 1000 ∧ (949 : Int) - 1000 < -tthr (m 0 {}) 7) ∧
    ((cap (m 0 { confirm := 2 }) 7).confirm = 2 ∧ (cap (m 0 { confirm := 1 }) 7).confirm = 1 ∧ tthr (m 0 {}) 7 ≤ ((50 : BitVec 16).toNat : Int) - 0 ∧
      ¬ tthr (m 0 {}) 7 ≤ ((49 : BitVec 16).toNat : Int) - 0) ∧
    (bit (rd (m 0x80 {}) 0x13 0 0x064) 7 = true ∧ cfgF (m 0x80 {}) 0x13 0 0x418 24 8 ≠ 0) := by decide

/-! ## Cores (chapters 08, 09) -/

/-- Core 0 running at the start of its near memory, in supervisor mode unless `r` says otherwise, with the byte memory `l`. -/
def coreS (r : Olk := {}) (l : List Host.Cell := []) : State :=
  { pending := [], m := { mem := { cells := l }, hw := { (mk id).m.hw with olk := [(0, { r with phase := .run, pc := 0x10000000 })] } } }

/-- An instruction of core 0. -/
def ins (o : Op) (size : Fin 8) (l : List Spec) (cond : Fin 8 := 0) : CoreInstr := ⟨0, o, ⟨size, cond, false⟩, l⟩

theorem wit_CoreComputes :
    let w (o : Op) (size : Fin 8) (l : List Spec) :=
      (computing.map Prod.fst).contains o = true ∧ coreReady (coreS) (ins o size l) = true ∧ nearOps (coreS) (ins o size l) = true ∧
        (coreEff (coreS) (ins o size l)).fault = false
    w .nop 0 [] ∧ w .add 4 [.direct 63 0, .direct 0 0, .imm 0xFFF] ∧ w .mulu 3 [.imm 3, .direct 0 0, .direct 1 0] ∧
      w .vsar 3 [.direct 2 0, .direct 1 0, .imm 127] ∧ w .divu 0 [.direct 0 15, .direct 1 15, .imm 1] ∧ w .crd 2 [.direct 0 0, .imm 8] := by decide

theorem wit_FarSourcesAreLate :
    (let i := ins .add 2 [.direct 0 0, .abs 0x20000000, .abs 0x201FFFFC]
     (computing.map Prod.fst).contains i.op = true ∧ i.op ≠ .frn ∧ coreReady coreS i = true ∧ farOps coreS i = true ∧
       (coreAcs coreS i).any (fun x => !x.wr && !isNear i.core.val x.a) = true ∧ (coreEff coreS i).fault = false ∧
       (coreEff coreS i).prod = none ∧ (dstOf i.op (coreAcs coreS i)).isSome = true ∧ (coreEff coreS i).flags.isSome = true) ∧
    (let i := ins .cmp 0 [.abs 0x10040000, .imm 1]
     coreReady coreS i = true ∧ farOps coreS i = true ∧ (dstOf i.op (coreAcs coreS i)).isSome = false ∧ (coreEff coreS i).flags.isSome = true) ∧
    (olk (coreS { late := [⟨1, 0x10000000, 4, 7, some {}⟩] }).m.hw 0).late = [⟨1, 0x10000000, 4, 7, some {}⟩] := by decide

theorem wit_CoreControlFlow :
    (let i := ins .br 2 [.imm 0x7FE]
     coreReady coreS i = true ∧ nearOps coreS i = true ∧ sourceVals i coreS.m.mem (coreWin coreS i) 0 i.specs = [0x7FE] ∧
       (0x10000000 + 0x7FE) % 2 = 0 ∧ fetchRegion 0 (0x10000000 + 0x7FE) = true) ∧
    (let i := ins .jmp 2 [.long 0x201FFFFE]
     coreReady coreS i = true ∧ sourceVals i coreS.m.mem (coreWin coreS i) 0 i.specs = [0x201FFFFE] ∧ fetchRegion 0 0x201FFFFE = true) ∧
    (let i := ins .call 2 [.direct 0 0, .imm 0]
     coreReady coreS i = true ∧ nearOps coreS i = true ∧ sourceVals i coreS.m.mem (coreWin coreS i) 0 i.specs = [0] ∧ fetchRegion 0 0 = true) ∧
    (coreReady coreS (ins .trap 0 [.imm 2047]) = true ∧ coreReady (coreS { nest := 2 }) (ins .eret 0 []) = true ∧
      coreReady (coreS { nest := 1 }) (ins .eret 0 []) = true) ∧
    (let i := ins .cwr 2 [.imm 3, .direct 0 0]
     coreReady coreS i = true ∧ nearOps coreS i = true ∧ sourceVals i coreS.m.mem (coreWin coreS i) 0 i.specs = [3, 0]) ∧
    (let i := ins .rep 2 [.imm 16]
     coreReady coreS i = true ∧ sourceVals i coreS.m.mem (coreWin coreS i) 0 i.specs = [16]) ∧
    (let i := ins .repi 2 [.direct 63 12]
     coreReady coreS i = true ∧ nearOps coreS i = true ∧ isNear 0 (coreWin coreS i + (16 * 63 + 12)) = true ∧
       rdMem coreS.m.mem (coreWin coreS i + (16 * 63 + 12)) 4 ≤ 65535) := by decide

/-- A PROBE whose header, at word 1 of the window, names one bucket at the start of near memory, mask all ones and DEFAULT 5. -/
def probeS (key : Byte) : State :=
  coreS {} [(0x1003FC13, 0x10), (0x1003FC18, 0xFF), (0x1003FC19, 0xFF), (0x1003FC1A, 0xFF), (0x1003FC1B, 0xFF), (0x1003FC1C, 5),
    (0x1003FC20, key)]

theorem wit_CoreAtomicsAndProbe :
    (let s := coreS { resv := some 0x201FFFF0 }
     let w (o : Op) (size : Fin 8) (l : List Spec) (x : Spec) (a : Nat) := coreReady s (ins o size l) = true ∧
       acsFaults (ins o size l) s.m.hw 0 (coreAcs s (ins o size l)) = [] ∧
       (coreAcs s (ins o size l)).all (acsOpen s.m.hw (.core 0)) = true ∧ isMem x = true ∧
       isNear 0 (coreWin s (ins o size l) + 16 * 63) = true ∧ opAddr s.m.mem (coreWin s (ins o size l)) (2 ^ size.val) x = some a
     w .tas 2 [.direct 63 0, .abs 0x20000000] (.abs 0x20000000) 0x20000000 ∧
       w .lr 4 [.direct 63 0, .abs 0x201FFFF0] (.abs 0x201FFFF0) 0x201FFFF0 ∧
       w .sc 4 [.abs 0x201FFFF0, .direct 63 0] (.abs 0x201FFFF0) 0x201FFFF0 ∧ (olk s.m.hw 0).resv = some 0x201FFFF0) ∧
    (let i := ins .probe 2 [.direct 0 0, .abs 0x1003FC10, .direct 2 0]
     coreReady (probeS 0) i = true ∧ nearOps (probeS 0) i = true ∧
       sourceVals i (probeS 0).m.mem (coreWin (probeS 0) i) 0 i.specs = [0x00000005FFFFFFFF0000000010000000, 0] ∧
       sourceVals i (probeS 9).m.mem (coreWin (probeS 9) i) 0 i.specs = [0x00000005FFFFFFFF0000000010000000, 9]) ∧
    probe 0 0x1003FC10 0x00000005FFFFFFFF0000000010000000 0 (probeS 0).m = .found 0 false (probeS 0).m ∧
    probe 0 0x1003FC10 0x00000005FFFFFFFF0000000010000000 9 (probeS 9).m = .missing true false (probeS 9).m :=
  ⟨by decide, by decide, by rfl, by rfl⟩

theorem wit_CoreExceptionEntries :
    let fetched (s : State) (i : CoreInstr) := (List.range (instrLen i / 2)).all (fun k =>
      let a := ((olk s.m.hw 0).pc.toNat + 2 * k) % 4294967296
      (fetchFault s.m.hw 0 a).isNone && fetchOpen s.m.hw i a)
    (iniLive coreS.m.hw (.core 0) = true ∧ (olk coreS.m.hw 0).rep = none ∧ (olk coreS.m.hw 0).late = [] ∧ (olk coreS.m.hw 0).lateP = [] ∧
      fetched coreS (ins .nop 7 []) = true ∧ isIllegal (ins .nop 7 []) true = true ∧ (olk coreS.m.hw 0).exl = false) ∧
    (let s : State := { coreS { sup := false, ctx := some 5 } with
       m := { (coreS).m with hw := { (coreS { sup := false, ctx := some 5 }).m.hw with ctxs := [(5, { st := .running, grants := [⟨0x10000000, 18, true, true, true⟩] })] } } }
     fetched s (ins .eret 0 []) = true ∧ isIllegal (ins .eret 0 []) false = false ∧ isPriv .eret = true ∧ (olk s.m.hw 0).sup = false) ∧
    (let i := ins .divu 4 [.direct 0 0, .direct 1 0, .imm 0]
     (computing.map Prod.fst).contains i.op = true ∧ coreReady coreS i = true ∧ nearOps coreS i = true ∧ (coreEff coreS i).fault = true ∧ (olk (coreS { exl := true }).m.hw 0).exl = true) ∧
    (let h := { (coreS { ie := true }).m.hw with lines := [(1023, { tk := 2, tgt := 0, sw := true })] }
     (olk h 0).ie = true ∧ coreIrq h 0 = true ∧ fetchFault h 0 0x10000000 = none) := by decide

theorem wit_ArithmeticResults :
    (2 ^ 128 - 1 < 2 ^ (8 * 2 ^ 4) ∧ (8 : Nat) * 2 ^ 0 = 8) ∧ (0x80 < 2 ^ 8 ∧ 0xFF < 2 ^ 8 ∧ sgn 8 0x80 = -(2 ^ 7 : Nat) ∧ sgn 8 0xFF = -1) ∧
    (scalar2 .divs 8 0x80 0xFF 0).val = some 0x80 ∧ (scalar2 .rems 8 7 0xFE 0).val = some 1 ∧ 15 < 128 / 8 := by decide

/-! ## Keystone and message pages (chapter 10) -/

theorem wit_FrameBoundary : domOn State.reset.m.hw 18 = true ∧ domOn (mk (domIs 18 .off)).m.hw 18 = false ∧ (mk (domIs 18 .off)).alive = true := by decide

/-- Context 255 with record `r`, and the registers of the KEY page in `l`. -/
def task (r : Ctx) (l : List (Nat × Word) := []) : State := mkR l [] (fun h => { h with ctxs := [(255, r)] })

theorem wit_KeystoneCommands :
    (let sound := fun (d : Nat) => d / 2 ^ 64 % 2 ^ 6 ≤ 59 ∧ d / 2 ^ 40 % 2 ^ 12 ≠ 0 ∧ d % 2 = 0 ∧ d / 2 ^ 60 % 2 ^ 4 = 0 ∧ d / 2 ^ 70 % 2 ^ 2 = 0 ∧
       d / 2 ^ 122 % 2 ^ 6 = 0
     sound (0x7B * 2 ^ 64 / 2 ^ 65 % 2 * 2 ^ 64 + 0x80000000000) ∧ ¬ sound 0 ∧ slotClash State.reset.m.hw 255 0 0x800 = false ∧
       slotClash State.reset.m.hw 255 0xFF 0x800 = true) ∧
    (mayWrite 0x30 0 0x040 ∧ taskCtx State.reset.m.hw .debug = none ∧ (ctx State.reset.m.hw 255).st = .disabled ∧
      0x20000000 ≤ (cfg State.reset.m.hw 0x30 0 0x404).toNat / 0x1000 * 0x1000 + 255 * 0x500 ∧
      (cfg State.reset.m.hw 0x30 0 0x404).toNat / 0x1000 * 0x1000 + 255 * 0x500 + 0x500 ≤ 0x20200000) ∧
    (cfg (mkR [] [(pg 0x30 0 + 0x404, 0x201B1000)] id).m.hw 0x30 0 0x404).toNat + 255 * 0x500 + 0x500 > 0x20200000 ∧
    ((task { st := .idle }).writes .debug 0x30 0 0x040 = true ∧ detOn (task { st := .idle }).m.hw { st := .idle } = false ∧
      (ctx (task { st := .idle }).m.hw 255).st = .idle ∧ active { st := .ready } = true ∧ active { st := .held } = true ∧ active { st := .stopped } = false ∧ active {} = false) ∧
    linesOfCtx (task { st := .ready }).m.hw 255 = [] ∧ queuesOf (task { st := .ready }).m.hw 255 = [] ∧
    (let s := (mk (fun h => { h with
       olk := [(0, { phase := .run, sup := false, ctx := some 255 })]
       ctxs := [(255, { st := .running, grants := [⟨0x43000000, 12, true, true, false⟩] })] }))
     s.writes (.core 0) 0x30 0 0x040 = true ∧ (taskCtx s.m.hw (.core 0)).isSome = true) ∧
    ((ctx (task { st := .ready, deadline := some 0 }).m.hw 255).deadline = some 0 ∧ 0 ≤ (task {}).m.hw.timebase) ∧
    (mayWrite 0x30 0 0x048 ∧ mayWrite 0x30 0 0x054 ∧ (0xC0000000 : Word).toNat / 2 ^ 30 = 3 ∧ (0x8000000C : Word).toNat % 256 = 12) ∧
    (let h := (mk (fun h => { h with ctxs := [(255, { st := .idle })], lines := [(1023, { tk := 1, tgt := 255, sw := true })] })).m.hw
     (evLine h 1023).tk = 1 ∧ lineLevel h 1023 = true ∧ detOn h (ctx h 255) = false ∧ (ctx h 255).st = .idle ∧ domOn h 18 = true) := by decide

/-- Core 11 with record `r`, contexts 0 and 255. -/
def core11 (r : Olk) (a b : Ctx) : State := mk (fun h => { h with olk := [(11, r)], ctxs := [(0, a), (255, b)] })

theorem wit_Dispatch :
    (let s := core11 { phase := .free } {} { st := .ready, desc := 2 ^ 51, begun := true }
     (olk s.m.hw 11).phase = .free ∧ domOpen s.m.hw 18 = true ∧ domOpen s.m.hw 12 = true ∧ (ctx s.m.hw 255).st = .ready ∧
       (ctx s.m.hw 255).desc.testBit (40 + 11) = true ∧ (∀ k, k < 256 → k ≠ 255 → (ctx s.m.hw k).st ≠ .ready) ∧
       ∀ e, e < 11 → (ctx s.m.hw 255).desc.testBit (40 + e) = false) ∧
    (let h := (core11 { phase := .run, sup := false, ctx := some 0 } { st := .running, desc := 2 ^ 51 } { st := .ready, desc := 2 ^ 51 + 2 ^ 32 }).m.hw
     (ctx h 255).st = .ready ∧ (ctx h 255).desc.testBit (40 + 11) = true ∧ (olk h 11).ctx = some 0 ∧ runsBelow h (prio (ctx h 255)) 11 = true ∧
       (∀ d, d < 12 → (ctx h 255).desc.testBit (40 + d) = true → coreOpen h d = false) ∧
       (∀ d, d < 12 → d ≠ 11 → (ctx h 255).desc.testBit (40 + d) = true → runsBelow h (prio (ctx h 255)) d = false) ∧ removable h 11 = true) ∧
    removable (core11 { phase := .run, sup := false, ctx := some 0, rep := some ⟨false, 0, 2, 0, false⟩ } { st := .running } {}).m.hw 11 = false ∧
    (let s := core11 { phase := .run, sup := true, ctx := some 0 } { st := .running } {}
     s.writes (.core 11) 0x30 0 0x044 = true ∧ (olk s.m.hw 11).sup = true ∧ (olk s.m.hw 11).ctx = some 0 ∧ (olk s.m.hw 11).late = [] ∧
       (olk s.m.hw 11).lateP = []) ∧
    (let s := core11 { phase := .run, sup := false, ctx := some 0, pc := 0x20000000 }
       { st := .running, grants := [⟨0x20000000, 21, true, false, true⟩, ⟨0x43000000, 12, true, true, false⟩] } {}
     s.writes (.core 11) 0x30 0 0x044 = true ∧ (olk s.m.hw 11).sup = false ∧ coreReady s ⟨11, .done, ⟨0, 0, false⟩, []⟩ = true ∧
       (ctx s.m.hw 0).desc / 2 ^ 37 % 2 = 0 ∧ (ctx s.m.hw 0).kept = none ∧ (ctx s.m.hw 0).more = false ∧ linesOfCtx s.m.hw 0 = [] ∧
       queuesOf s.m.hw 0 = []) := by decide +kernel

/-- Page 4095 belongs to supervisor code of core 0; queue 63 is enabled as a software queue. -/
def page4095 (own : Owner := .sup 0) (q : Word := 0x80000000) : State :=
  mkR [(pg 0x32 0 + 0x058, 0xFFF)] [(pg 0x32 0 + 0x4FC, q)] (fun h => { h with pages := [(4095, { own := own })] })

theorem wit_MessagePages :
    (let s := mkR [] [(pg 0x32 0 + 0x500, 0x1000)] (fun h => { h with
       olk := [(0, { phase := .run }), (1, { phase := .run, sup := false, ctx := some 9 })]
       ctxs := [(9, { st := .running, grants := [⟨0x43200000, 12, true, true, false⟩] })], pages := [(0, { own := .sup 0 }), (4095, { own := .sup 0 })] })
     s.reads (.core 0) 0x32 0 0x044 = true ∧ s.reads (.core 1) 0x32 0 0x044 = true ∧ smWf (fun _ => ({} : Page)) s.m.hw.pages = true ∧
       (∀ e ∈ s.m.hw.pages, e.1 < 4096) ∧ 4096 - s.m.hw.pages.length ≠ 0 ∧ taskCtx s.m.hw (.core 0) = none ∧
       4096 - s.m.hw.pages.length ≤ rsvOf s.m.hw ∧ (taskCtx s.m.hw (.core 1)).isSome = true) ∧
    (let s := page4095
     s.writes .debug 0x32 0 0x048 = true ∧ s.writes .debug 0x32 0 0x04C = true ∧ s.writes .debug 0x32 0 0x060 = true ∧
       owns s.m.hw .debug none 4095 = true ∧ owns s.m.hw .debug none 4094 = false ∧ (0x21100000 : Word).toNat / 0x100000 ≠ 0x210 ∧
       (apage s.m.hw 4095).next = none ∧ qEn s.m.hw 63 = true ∧ qFull s.m.hw 63 0 = false ∧ fld (rd s.m.hw 0x32 0 0x058) 0 12 = 4095) ∧
    qEn (page4095 (.sup 0) 0).m.hw 63 = false := by decide

/-! ## DMA (chapter 11) -/

/-- DMA channel 63 with record `r`, the registers `l`, the applied configuration `c` and the memory `m`. -/
def dma63 (r : DmaCh) (l c : List (Nat × Word) := []) (m : List Host.Cell := []) : State :=
  { pending := [], m := { mem := { cells := m }, hw := (mkR l c (fun h => { h with dma := [(63, r)] })).m.hw } }

/-- A COPY of 512 bytes from the start of the shared SRAM to its end, which completes its chain. -/
def copyDesc : Nat × Nat := (0x20000000 + 0x201FFE00 * 2 ^ 32 + 512 * 2 ^ 64, 32)

theorem wit_DmaCommands :
    (mayWrite 0x31 63 0x040 ∧ (dma (dma63 { st := .halt, cause := 3 }).m.hw 63).st = .halt ∧ (dma (dma63 {}).m.hw 63).st = .idle ∧
      (dma (dma63 { st := .armed }).m.hw 63).st = .armed ∧ (dma (dma63 { st := .wait }).m.hw 63).st = .wait ∧
      ((dma (dma63 { st := .run, hung := true }).m.hw 63).hung && (dma (dma63 { st := .run, hung := true }).m.hw 63).abort) = false ∧
      5 ≤ (5 : BitVec 3).toNat) ∧
    (let r := dma (dma63 { st := .wait, item := some ⟨7, 0, 256, 0⟩, pages := [7] }).m.hw 63
     r.st ≠ .idle ∧ r.hung = false ∧ r.item = some ⟨7, 0, 256, 0⟩ ∧ r.pages = 7 :: []) ∧
    (let s := fun (cur : Word) => dma63 { st := .run } [(pg 0x31 63 + 0x04C, cur)] []
       [(0x200FFFE3, 0x20), (0x200FFFE5, 0xFE), (0x200FFFE6, 0x1F), (0x200FFFE7, 0x20), (0x200FFFE9, 2), (0x200FFFF0, 32)]
     dmaLive (s 8).m.hw 63 = true ∧ (dma (s 8).m.hw 63).desc = none ∧ (dma (s 8).m.hw 63).hold = none ∧ domOpen (s 8).m.hw 18 = true ∧ (s 8).m.hw.pwr.cur = none ∧
       (rd (s 8).m.hw 0x31 63 0x4C).toNat % 16 ≠ 0 ∧ (rd (s 0x40000000).m.hw 0x31 63 0x4C).toNat % 16 = 0 ∧
       (rd (s 0x200FFFE0).m.hw 0x31 63 0x4C).toNat + 32 ≤ 0x40000000 ∧ (addrDomain 0x200FFFE0).isSome = true ∧ (addrDomain 0x200FFFF0).isSome = true ∧
       (∀ j, j < 8 → targetOpen (s 0x200FFFE0).m.hw (0x200FFFE0 + 4 * j) = true) ∧
       (rdMem (s 0).m.mem 0x200FFFE0 16, rdMem (s 0).m.mem 0x200FFFF0 16) = copyDesc ∧ dmaCheck (s 0x200FFFE0).m.hw 63 copyDesc = 0 ∧
       copyDesc.2 % 8 = 0 ∧ copyDesc.1 / 2 ^ 64 % 2 ^ 24 ≠ 0 ∧ dmaCheck (s 0).m.hw 63 (8, 0) = 1) ∧
    (let s := fun (a : Word) => dma63 { st := .run, retry := some 1, desc := some copyDesc, unit := 256 } [(pg 0x31 63 + 0x050, a)]
     let r := dma (s 0).m.hw 63
     r.st = .run ∧ r.hung = false ∧ r.retry = some 1 ∧ r.desc.isSome = true ∧ r.unit ≠ 0 ∧ r.hold = none ∧
       (rd (s 0x201FFFF0).m.hw 0x31 63 0x50).toNat = 0x201FFFF0 ∧ (addrDomain 0x201FFFF0).isSome = true ∧
       (∀ j, j < 4 → targetOpen (s 0x201FFFF0).m.hw (0x201FFFF0 + 4 * j) = true) ∧ addrDomain (rd (s 0x20200000).m.hw 0x31 63 0x50).toNat = none) ∧
    (let s := dma63 { st := .run } [] [(pg 0x31 63 + 0x400, 0x800)]
     bit (cfg s.m.hw 0x31 63 0x400) 11 = true ∧ domOn s.m.hw 18 = true) := by decide

/-- A descriptor in a page is read before its row of the table is known. -/
theorem wit_DescriptorInPage :
    (match busRead (.dma 63) 0x41000000 16 (dma63 { st := .run } [(pg 0x31 63 + 0x04C, 0x41000000)]).m with
     | .ok q0 m1 =>
       (match busRead (.dma 63) 0x41000010 16 (m1.onHw (fun h => setDma h 63 { dma h 63 with hold := some q0, retry := none })) with
        | .ok _ _ => true
        | _ => false)
     | _ => false) = true := by decide +kernel

theorem wit_DmaCopies :
    (let s := dma63 { st := .run, desc := some copyDesc } [(pg 0x31 63 + 0x050, 0x20000000), (pg 0x31 63 + 0x054, 0x201FFE00), (pg 0x31 63 + 0x058, 512)]
     let k := 63
     dmaLive s.m.hw k = true ∧ domOpen s.m.hw 18 = true ∧ (∀ x, x < 17 → 13 ≤ x → domOpen s.m.hw x = true) ∧ copyDesc.2 % 8 = 0 ∧
       copyDesc.2.testBit 3 = false ∧ copyDesc.2.testBit 4 = false ∧ (dma s.m.hw k).unit = 0 ∧ (dma s.m.hw k).hold = none ∧
       dmaWaits s.m.hw k (dma s.m.hw k) = false ∧ dmaGranted s.m.hw k = true ∧ (rd s.m.hw 0x31 k 0x50).toNat = 0x20000000 ∧ (rd s.m.hw 0x31 k 0x54).toNat = 0x201FFE00 ∧
       (rd s.m.hw 0x31 k 0x58).toNat = 512 ∧ 0x201FFE00 + min 256 512 ≤ 0x20200000) ∧
    dmaGranted (mkR [] [(pg 0x31 62 + 0x400, 0x30)] (fun h => { h with dma := [(62, { st := .run, desc := some copyDesc }), (63, { st := .run })] })).m.hw 63 = false ∧
    (let r : DmaCh := { st := .run, desc := some (0, 35) }
     dmaLive (dma63 r).m.hw 63 = true ∧ r.unit = 0 ∧ domOpen (dma63 r).m.hw 17 = true ∧ dmaWaits (dma63 r).m.hw 63 r = true) ∧
    (let s := mkR [] [(pg 0x32 0 + 0x400, 0x80000000), (pg 0x32 0 + 0x4FC, 0x80000000)] (fun h => { h with
       dma := [(63, { st := .wait, desc := some (0, 35 + 63 * 2 ^ 14) })], pages := [(9, { own := .queue 0 })], queues := [(0, [⟨9, 0, 256, 0⟩])] })
     let r := dma s.m.hw 63
     dmaLive s.m.hw 63 = true ∧ dmaGranted s.m.hw 63 = true ∧ domOpen s.m.hw 17 = true ∧ (35 + 63 * 2 ^ 14) % 8 = 3 ∧ r.unit = 0 ∧ dmaWaits s.m.hw 63 r = false ∧
       dmaSq r ≠ dmaDq r ∧ queue s.m.hw (dmaSq r) = ⟨9, 0, 256, 0⟩ :: [] ∧ (apage s.m.hw 9).own = .queue (dmaSq r) ∧ (apage s.m.hw 9).next = none) := by
  decide

/-! ## Buses (chapters 12 … 14) -/

/-- CAN channel 7 with record `r`. -/
def can7 (r : CanCh) (l c : List (Nat × Word) := []) : State := mkR l c (fun h => { h with can := [(7, r)] })

theorem wit_CanStates :
    (mayWrite 0x20 7 0x040 ∧ (can State.reset.m.hw 7).mode = 0 ∧ domOn State.reset.m.hw 26 = true ∧ (can State.reset.m.hw 7).defer = none ∧
      (can (can7 { defer := some [] }).m.hw 7).defer = some []) ∧
    ((can (can7 { integ := true }).m.hw 7).integ = true ∧ (can (can7 { mswin := some 1 }).m.hw 7).mswin = some 1 ∧
      (can (can7 { boff := true, recov := true }).m.hw 7).boff = true ∧ (can (can7 { boff := true, recov := true }).m.hw 7).recov = true) ∧
    mayWrite 0x20 7 0x094 ∧
    (let s := fun (c fec : Word) => mkR [(pg 0x20 3 + 0x098, fec)] [(pg 0x20 3 + 0x418, c), (pg 0x20 3 + 0x41C, 0x7FF), (pg 0x20 3 + 0x420, 0x1FFFFFFF)] id
     ((can (s 1 0).m.hw 3).trx = 2 ∧ (can (s 1 0).m.hw 3).mswin = none ∧ fld (cfg (s 1 0).m.hw 0x20 3 0x418) 0 2 = 1 ∧
       (min 99 (fld (cfg (s 1 0).m.hw 0x23 0 0x414) 0 7) + 1) * 500 * 80 ≤ 1200 * 100) ∧
     (wufHits (s 2 0).m.hw 3 false 0x7FF 0 0 = true ∧ 2 ≤ fld (cfg (s 2 0).m.hw 0x20 3 0x418) 0 2) ∧
     (31 ≤ fld (rd (s 2 0x1F000000).m.hw 0x20 3 0x098) 24 8 ∧ fld (rd (s 2 0x1F000000).m.hw 0x20 3 0x098) 24 8 < 255 ∧
       fld (rd (s 2 0x1E000000).m.hw 0x20 3 0x098) 24 8 < 31)) := by decide

/-- Queue 0 is the ring of front end (`ty`, `n`). -/
def ring (ty n : Nat) : Nat × Word := (pg 0x32 0 + 0x400, BitVec.ofNat 32 (0x80000000 + ty * 0x1000 + n * 0x100))

theorem wit_CanErrorsAndReception :
    (let s := can7 { mode := 1, trx := 0, tec := 248 }
     canOnBus s.m.hw 7 = true ∧ (can s.m.hw 7).mode = 1 ∧ 255 < (can s.m.hw 7).tec + 8) ∧
    (let s := can7 { mode := 4, trx := 1, tec := 247 }
     canOnBus s.m.hw 7 = true ∧ (can s.m.hw 7).mode = 4) ∧
    (let s := mkR [] [(pg 0x20 1 + 0x400, 0x31), ring 0x20 1] (fun h => { h with can := [(1, { mode := 1, trx := 0 })] })
     canOnBus s.m.hw 1 = true ∧ bit (cfg s.m.hw 0x20 1 0x400) 4 = true ∧ bit (cfg s.m.hw 0x20 1 0x400) 5 = true ∧
       bit (cfg s.m.hw 0x20 1 0x400) 0 = true ∧ (canPayload ⟨4, false, false, 0, 15, List.replicate 64 0, 0, false, 0, 0⟩).length ≤ 224 ∧
       ringQueue s.m.hw 0x20 1 = some 0 ∧ domOn s.m.hw 17 = true ∧ freeCount s.m.hw ≠ 0 ∧ rsvOf s.m.hw < freeCount s.m.hw ∧
       qFull s.m.hw 0 0 = false) ∧
    (let s := fun (w : Word) => mkR [] [(pg 0x20 7 + 0x400, w)] (fun h => { h with can := [(7, { mode := 1, trx := 0 })] })
     canOnBus (s 1).m.hw 7 = true ∧ (can (s 1).m.hw 7).mode ≠ 4 ∧ bit (cfg (s 0).m.hw 0x20 7 0x400) 0 = false ∧
       bit (cfg (s 1).m.hw 0x20 7 0x400) 4 = false ∧ bit (cfg (s 1).m.hw 0x20 7 0x400) 6 = false ∧ bit (cfg (s 0x41).m.hw 0x20 7 0x400) 6 = true) := by
  decide +kernel

/-- A classic frame's transmit header: format 0, identifier `id`. -/
def txHdr (id : Nat) : List Nat := [0, id, 0, 0, 0, 0, 0, 0]

theorem wit_CanTransmission :
    (let s := mkR [] [] (fun h => { h with pages := [(4095, { own := .sup 0 })], can := [(7, { txb := [(2, { ent := some ⟨1, txHdr 5⟩ })] })] })
     (smGet {} (can s.m.hw 7).txb 1).ent.isSome = false ∧ (smGet {} (can s.m.hw 7).txb 2).ent.isSome = true ∧
       owns s.m.hw .debug (taskCtx s.m.hw .debug) 4095 = true ∧ owns s.m.hw .debug none 1 = false ∧
       headerBad s.m.hw 7 (headerOf s.m.mem 4095) (chainOf s.m.hw 4095).length = false ∧ headerBad s.m.hw 7 (0x38000000 :: txHdr 0) 1 = true ∧
       s.writes .debug 0x20 7 0x064 = true ∧ s.writes .debug 0x20 7 0x068 = true ∧ s.writes .debug 0x20 7 0x080 = true) ∧
    64 ≤ (can (can7 { queue := List.replicate 64 ⟨0, []⟩ }).m.hw 7).queue.length ∧
    (let s := can7 { mode := 1, trx := 0, txb := [(0, { ent := some ⟨1, txHdr 6⟩ })], queue := [⟨2, txHdr 5⟩] }
     canOnBus s.m.hw 7 = true ∧ txActive (can s.m.hw 7) = false ∧ txCands (can s.m.hw 7) = [(0, txHdr 6), (3, txHdr 5)] ∧
       arbKey (txHdr 5) < arbKey (txHdr 6)) ∧
    txCands (can (can7 { mode := 1, trx := 0 }).m.hw 7) = [] ∧
    (let s := fun (cfgw : Word) (abort : Bool) => mkR [] [(pg 0x20 7 + 0x400, cfgw)] (fun h => { h with
       pages := [(1, { own := .front 0x20 7 })], can := [(7, { mode := 1, trx := 0, txb := [(2, { ent := some ⟨1, txHdr 6⟩, act := true, abort := abort })] })] })
     let y := smGet {} (can (s 1 true).m.hw 7).txb 2
     y.ent = some ⟨1, txHdr 6⟩ ∧ (apage (s 1 true).m.hw 1).next = none ∧ (apage (s 1 true).m.hw 1).own = .front 0x20 7 ∧
       txNow (can (s 1 true).m.hw 7) = some (2, ⟨1, txHdr 6⟩) ∧ (can (s 1 true).m.hw 7).dupHit = false ∧ y.abort = true ∧
       bit (cfg (s 1 true).m.hw 0x20 7 0x400) 1 = false ∧ bit (cfg (s 0x200 false).m.hw 0x20 7 0x400) 9 = true ∧
       bit (cfg (s 1 false).m.hw 0x20 7 0x400) 9 = false ∧ (s 1 true).writes .debug 0x20 7 0x07C = true) ∧
    (let s := mkR [] [(pg 0x20 7 + 0x410, 0x80)] (fun h => { h with
       pages := [(1, { own := .front 0x20 7 })], can := [(7, { mode := 1, trx := 0, txb := [(2, { ent := some ⟨1, [6 * 2 ^ 27]⟩, act := true })] })] })
     txNow (can s.m.hw 7) = some (2, ⟨1, [6 * 2 ^ 27]⟩) ∧ bit (cfg s.m.hw 0x20 7 0x410) 7 = true ∧ nfld ([6 * 2 ^ 27].getD 0 0) 27 4 = 6) := by
  decide +kernel

/-- LIN channel 15 with record `r`. -/
def lin15 (r : LinCh) (l c : List (Nat × Word) := []) (m : List Host.Cell := []) : State :=
  { pending := [], m := { mem := { cells := m }, hw := (mkR l c (fun h => { h with lin := [(15, r)] })).m.hw } }

theorem wit_LinStates :
    (mayWrite 0x21 15 0x040 ∧ mayWrite 0x21 15 0x04C ∧ (lin (lin15 { sleep := false }).m.hw 15).sleep = false ∧
      (lin (lin15 { sleep := false }).m.hw 15).cur = none ∧ (lin State.reset.m.hw 15).sleep = true) ∧
    (domOn State.reset.m.hw (linDom 15) = true ∧ (lin State.reset.m.hw 15).defer = none ∧ (lin (lin15 { mswin := some false }).m.hw 15).mswin = some false ∧
      (lin (lin15 { defer := some [] }).m.hw 15).defer = some [] ∧ (lin (lin15 { defer := some [] }).m.hw 15).deferRound = false ∧
      linOff (lin State.reset.m.hw 3) = true) ∧
    (let s := fun (len base : Word) (m : List Host.Cell) =>
       lin15 { mode := 1, run := true, sleep := false } [] [(pg 0x21 15 + 0x404, len), (pg 0x21 15 + 0x408, base)] m
     let h := (s 1 0x20000000 []).m.hw
     (lin h 15).mode = 1 ∧ (lin h 15).run = true ∧ (lin h 15).slotAt ≤ h.now ∧ (lin h 15).slip = false ∧ (lin h 15).cur = none ∧ (lin h 15).first = false ∧ linOff (lin h 15) = false ∧ (lin h 15).defer = none ∧ (lin h 15).idx < fld (cfg h 0x21 15 0x404) 0 8 ∧
       (cfg h 0x21 15 0x408).toNat / 16 * 16 + 16 = 0x20000010 ∧ (cfg (s 1 0x201FFFF0 []).m.hw 0x21 15 0x408).toNat / 16 * 16 + 16 + 16 > 0x20200000 ∧
       rdMem (s 1 0x20000000 []).m.mem 0x20000010 16 / 2 ^ 12 % 4 ≠ 3 ∧ rdMem (s 1 0x20000000 [(0x20000011, 0x30)]).m.mem 0x20000010 16 / 2 ^ 12 % 4 = 3) ∧
    (lin15 { slotAt := 1 }).m.hw.now < (lin (lin15 { slotAt := 1 }).m.hw 15).slotAt ∧
    ((lin (lin15 { mode := 1, run := true, cur := some ⟨true, 0, none, true, false, false⟩ }).m.hw 15).cur = some ⟨true, 0, none, true, false, false⟩ ∧
      (lin (lin15 { mode := 2, sleep := false }).m.hw 15).mode ≠ 0 ∧
      rdMem State.reset.m.mem ((cfg State.reset.m.hw 0x21 15 0x40C).toNat / 1024 * 1024 + 16 * 63) 16 / 2 ^ 12 % 4 ≠ 2) := by decide

theorem wit_LinEntries :
    let c := fun (par pub bit : Bool) => (⟨false, 0x107, some 0x80, par, pub, bit⟩ : LinCur)
    let s := fun (par pub bit : Bool) => lin15 { mode := 2, sleep := false, cur := some (c par pub bit) } [] [ring 0x21 15]
    let t := lin15 { mode := 2, sleep := false } [] [ring 0x21 15]
    domOn (s true true false).m.hw (linDom 15) = true ∧ bit (cfg (s true true false).m.hw 0x21 15 0x400) 0 = true ∧
      ringQueue (s true true false).m.hw 0x21 15 = some 0 ∧ domOn (s true true false).m.hw 17 = true ∧ freeCount (s true true false).m.hw ≠ 0 ∧
      rsvOf (s true true false).m.hw < freeCount (s true true false).m.hw ∧
      qFull (s true true false).m.hw 0 (filling (s true true false).m.hw 0) = false ∧ (lin (s true true false).m.hw 15).slip = false ∧
      (lin (s true true false).m.hw 15).mode = 2 ∧ (lin (s true false true).m.hw 15).cur = some (c true false true) ∧
      (lin (s false true true).m.hw 15).cur = some (c false true true) ∧ (lin (s true true false).m.hw 15).sleep = false ∧
      linLen 0x107 ≤ 1 ∧ 0 < linLen 0x107 ∧ (lin t.m.hw 15).cur = none ∧ (lin t.m.hw 15).sleep = false ∧
      linOffRate t.m.hw 15 0 = true ∧ linOffRate t.m.hw 15 (linBrd t.m.hw 15) = false := by decide +kernel

/-- Port 1 with record `r`. -/
def eth1 (r : EthP) (l c : List (Nat × Word) := []) : State := mkR l c (fun h => { h with eth := [(1, r)] })

theorem wit_EthStates :
    (mayWrite 0x22 1 0x040 ∧ ethMode State.reset.m.hw 1 = 0 ∧ (eth State.reset.m.hw 1).tc = 2 ∧ mayWrite 0x22 1 0x06C) ∧
    (let r := eth (eth1 { tc := 0, link := true, preq := true }).m.hw 1
     r.tc = 0 ∧ r.link = true ∧ idleTx r = true ∧ r.preq = true ∧ idleTx { r with bond := [⟨0, 0, 0, 0, 0, 0, 0, []⟩] } = false ∧ r.act = none) ∧
    (domOn State.reset.m.hw 30 = true ∧ bit (cfg State.reset.m.hw 0x22 1 0x408) 0 = false ∧
      bit (cfg (eth1 {} [] [(pg 0x22 1 + 0x408, 1)]).m.hw 0x22 1 0x408) 0 = true ∧ bit (cfg State.reset.m.hw 0x22 1 0x408) 1 = true) ∧
    ((eth (eth1 { tc := 1 }).m.hw 1).tc = 1 ∧ State.reset.m.hw.nsc.st ≠ 3 ∧ (eth (eth1 { mswin := true }).m.hw 1).mswin = true) ∧
    (let s := eth1 { tc := 3 } [(pg 0x22 1 + 0x040, 1)]
     (eth s.m.hw 1).tc = 3 ∧ ethMode s.m.hw 1 ≠ 0 ∧ (eth s.m.hw 1).q0 = [] ∧ (eth s.m.hw 1).bond = []) := by decide

theorem wit_EthFrames :
    (let s := eth1 { tc := 0, link := true } [(pg 0x22 1 + 0x040, 1)] [(pg 0x22 1 + 0x400, 0x05EE0001), ring 0x22 1]
     domOn s.m.hw 30 = true ∧ ethMode s.m.hw 1 = 1 ∧ (eth s.m.hw 1).link = true ∧ 60 ≤ (List.replicate 60 (0 : Byte)).length ∧
       (List.replicate 60 (0 : Byte)).length ≤ maxLen s.m.hw 1 ∧ bondTakes s.m.hw 1 (List.replicate 60 0) = false ∧
       bit (cfg s.m.hw 0x22 1 0x400) 0 = true ∧ ringQueue s.m.hw 0x22 1 = some 0 ∧ domOn s.m.hw 17 = true ∧ freeCount s.m.hw ≠ 0 ∧
       rsvOf s.m.hw < freeCount s.m.hw ∧ qFull s.m.hw 0 0 = false ∧ (List.replicate 59 (0 : Byte)).length < 60 ∧
       bondTakes s.m.hw 1 (List.replicate 59 0) = false) ∧
    (let s : State := { pending := [], m := { mem := { cells := [(0x210FFF08, 14)] }, hw := (mkR [(pg 0x22 1 + 0x040, 1)] [] (fun h => { h with
       pages := [(4095, { own := .sup 0 })], eth := [(1, { tc := 0, link := true })] })).m.hw } }
     owns s.m.hw .debug none 4095 = true ∧ (headerOf s.m.mem 4095).getD 2 0 % 4096 = 14 ∧ 14 ≤ maxLen s.m.hw 1 ∧
       ethPages 14 ≤ (chainOf s.m.hw 4095).length ∧ ethSends s.m.hw 1 = true ∧ (eth s.m.hw 1).act = none ∧ (eth s.m.hw 1).bond = [] ∧
       (headerOf s.m.mem 4094).getD 2 0 % 4096 < 14 ∧ s.writes .debug 0x22 1 0x054 = true ∧ s.writes .debug 0x22 1 0x05C = true) ∧
    (ethSends State.reset.m.hw 1 = false ∧ 32 ≤ (List.replicate 32 (⟨0, []⟩ : TxEntry)).length) ∧
    (let s := eth1 { tc := 0, link := true, act := some 0, q0 := [⟨1, [2 ^ 25]⟩] }
     (eth s.m.hw 1).act = some 0 ∧ ethQ (eth s.m.hw 1) 0 = ⟨1, [2 ^ 25]⟩ :: [] ∧ ethMode s.m.hw 1 ≠ 2 ∧ (apage s.m.hw 1).next = none ∧
       [2 ^ 25].getD 0 0 / 2 ^ 25 % 2 = 1) := by decide +kernel

/-- The coordinator with record `n`, every bus a member. -/
def nscS (n : Nsc) (l : List (Nat × Word) := []) : State := mkR l [(pg 0x23 0 + 0x400, 3), (pg 0x23 0 + 0x404, 0x3FFFFFF)] (fun h => { h with nsc := n })

theorem wit_NetworkSleep :
    (mayWrite 0x23 0 0x044 ∧ mayWrite 0x23 0 0x048 ∧ mayWrite 0x23 0 0x04C ∧ need State.reset.m.hw = 0 ∧
      need (nscS {} [(pg 0x23 0 + 0x044, 0x8000)]).m.hw ≠ 0) ∧
    (25 ∈ members (nscS { st := 1 }).m.hw ∧ 26 ∉ members (nscS { st := 1 }).m.hw ∧ (nscS { st := 1 }).m.hw.nsc.limit = false ∧
      (nscS { st := 2 }).m.hw.nsc.st = 2 ∧ (nscS { limit := true }).m.hw.nsc.limit = true ∧ State.reset.m.hw.waits = []) ∧
    (let h := { (nscS { st := 2 }).m.hw with timebase := 2550000 }
     domOn h 18 = true ∧ h.nsc.prepAt + max 1 (fld (cfg h 0x23 0 0x408) 24 8) * 10000 ≤ h.timebase ∧
       (nscS { st := 2 }).m.hw.timebase < h.nsc.prepAt + max 1 (fld (cfg h 0x23 0 0x408) 24 8) * 10000) ∧
    (let h := { (nscS { st := 1 }).m.hw with timebase := 65535000 }
     h.nsc.st = 1 ∧ need h = 0 ∧ h.nsc.holdAt + fld (cfg h 0x23 0 0x408) 0 16 * 1000 ≤ h.timebase ∧ h.nsc.awFrom + 1000000 ≤ h.timebase) ∧
    (nscFlag (nscS {}).m.hw 13 = false ∧ nscFlag (nscS {} [(pg 0x22 1 + 0x070, 0xFFFFFFFF)]).m.hw 9 = true ∧
      nscFlag (nscS {} [(pg 2 0 + 0x050, 0xFFFFFFFF)]).m.hw 13 = true) ∧
    ((members (nscS { st := 2 }).m.hw).all (memberReady (nscS { st := 2 }).m.hw) = true ∧
      (let h := { (nscS { st := 2 }).m.hw with can := [(7, { queue := [⟨0, []⟩] })] }
       (members h).all (memberReady h) = false) ∧
      (let h := { (nscS { st := 2 }).m.hw with can := [(7, { trx := 0 })] }
       memberAsleep h 7 = false ∧ (can h 7).mswin ≠ some 2)) ∧
    (bit (cfg (nscS {}).m.hw 0x23 0 0x410) 13 = true ∧ domOn (mk (domIs 18 .ret)).m.hw 18 = false ∧
      bit (cfg (nscS {}).m.hw 0x23 0 0x400) 1 = true ∧ (members (nscS { st := 3 }).m.hw).all (memberAsleep (nscS { st := 3 }).m.hw) = true) ∧
    (mayWrite 0x23 0 0x060 ∧ State.reset.m.hw.nsc.fsFrom = none ∧ (nscS { fsFrom := some 0 }).m.hw.nsc.fsFrom = some 0 ∧
      (nscS { fsFrom := some 0 }).m.hw.now < 0 + fsTime (nscS { fsFrom := some 0 }).m.hw * 900 / 1000 ∧
      0 + fsTime (mk (fun h => { h with now := 10000000000, nsc := { fsFrom := some 0 } })).m.hw * 900 / 1000 ≤ 10000000000) := by decide

/-! ## Power domains and the Plinth (chapter 15) -/

/-- Domain `d` in state `p`, with the sequencer's `q`. -/
def seqS (d : Nat) (p : PwrState) (q : Pwr) : State := mk (fun h => { domIs d p h with pwr := q })

theorem wit_RefusedEntry :
    let s := mk (fun h => { h with pwr := { singles := [⟨44, .ret, false⟩] } })
    s.m.hw.pwr.cur = none ∧ s.m.hw.pwr.singles = [⟨44, .ret, false⟩] ∧ refuser s.m 44 = some (2, 1) ∧ s.m.hw.pwr.sets = [] := by decide

theorem wit_DomainEntry :
    ((44 : Fin 45) ≠ 0 ∧ mayWrite 2 0 (0x800 + 4 * 44) ∧ mayWrite 2 0 0x804 ∧ (dom State.reset.m.hw 44).state = .on ∧ State.reset.m.hw.pwr.cur = none ∧
      State.reset.m.hw.pwr.singles = [] ∧ State.reset.m.hw.pwr.sets = []) ∧
    (let s := mk (fun h => { h with doms := [(1, { state := .off, req := .off }), (44, { state := .off, req := .off })] })
     s.writes .debug 2 0 0x804 = true ∧ (dom s.m.hw 1).state = .off ∧ domOn s.m.hw 44 = false) ∧
    ((seqS 1 .off {}).writes .debug 2 0 0x804 = true ∧ (dom (seqS 1 .off {}).m.hw 1).state = .off ∧ (dom (seqS 1 .off {}).m.hw 44).state = .on) ∧
    ((seqS 1 .on { cur := some ⟨1, .off, true⟩ }).writes .debug 2 0 0x804 = true ∧ (dom (seqS 1 .on { cur := some ⟨1, .off, true⟩ }).m.hw 1).state = .on) ∧
    (let s := mk (fun h => { h with pwr := { singles := [⟨12, .off, false⟩] }, olk := [(11, { phase := .free })] })
     s.m.hw.pwr.cur = none ∧ s.m.hw.pwr.singles = [⟨12, .off, false⟩] ∧ refuser s.m 12 = none ∧ coreWaits s.m.hw 12 = false) ∧
    coreWaits (mk (fun h => { h with olk := [(11, { phase := .run })] })).m.hw 12 = true ∧
    (let s := mk (fun h => { h with pwr := { cur := some ⟨29, .ret, false⟩ } })
     s.m.hw.pwr.cur = some ⟨29, .ret, false⟩ ∧ refuser s.m 29 = none ∧ coreWaits s.m.hw 29 = false) ∧
    (let s := mk (fun h => { h with pwr := { cur := some ⟨44, .off, false⟩ } })
     s.m.hw.pwr.cur = some ⟨44, .off, false⟩ ∧ refuser s.m 44 = some (2, 1) ∧ s.m.hw.pwr.singles = [] ∧ s.m.hw.pwr.sets = [] ∧ s.m.hw.waits = []) := by decide +kernel

theorem wit_DomainExitAndMemory :
    let s := fun (d : Nat) (t : PwrState) => mk (fun h => { h with pwr := { cur := some ⟨d, t, false⟩ } })
    (refuser (s 16 .off).m 16 = none ∧ (s 16 .off).m.hw.pwr.cur = some ⟨16, .off, false⟩) ∧
      ((s 44 .on).m.hw.pwr.cur = some ⟨44, .on, false⟩ ∧ (s 13 .on).m.hw.nsc.todo = [] ∧ (s 13 .on).m.hw.waits = []) := by decide +kernel

/-- Every domain but PD00 in retention, in low-power mode if `lp`. -/
def parked (p : PwrState) (lp : Bool) (l : List (Nat × Word) := []) : State :=
  mkR l [] (fun h => { h with doms := (List.range 44).map (fun d => (d + 1, { state := p, req := p })), pwr := { lp := lp, rtc := 2 ^ 47 } })

theorem wit_PlinthEvents :
    (mayWrite 2 0 0x04C ∧ State.reset.m.hw.pwr.sets.any (fun g => g.group) = false ∧
      (mk (fun h => { h with pwr := { sets := [⟨[], .on, true, false⟩] } })).m.hw.pwr.sets.any (fun g => g.group) = true) ∧
    (17 ∈ plinthSources ∧ 0 ∈ plinthSources ∧ 9 ∉ plinthSources ∧ bit (cfg State.reset.m.hw 2 0 0x400) 0 = true ∧ bit (cfg State.reset.m.hw 2 0 0x404) 13 = true) ∧
    (bit (cfg (parked .ret true).m.hw 2 0 0x400) 0 = true ∧ (∀ d, d < 45 → 1 ≤ d → (dom (parked .ret true).m.hw d).state ≠ .on ∧
      (dom (parked .ret true).m.hw d).busy = false) ∧ (parked .ret true).m.hw.pwr.lp = true ∧
      (parked .ret true).m.hw.waits = [] ∧ (parked .ret false).m.hw.pwr.lp = false) ∧
    (let h := (parked .ret true [(pg 2 0 + 0x06C, 0x80008000)]).m.hw
     bit (rd h 2 0 0x06C) 31 = true ∧ fld (rd h 2 0 0x06C) 0 16 * 2 ^ 32 + (rd h 2 0 0x068).toNat ≤ h.pwr.rtc) ∧
    (bit (rd (parked .off true).m.hw 2 0 0x054) 31 = false ∧ ∀ d, d < 45 → 1 ≤ d → (dom (parked .off true).m.hw d).state ≠ .ret) := by decide +kernel

theorem wit_WakeTargetPort :
    let p := fun (q : Pwr) => (mk (fun h => { h with pwr := q })).m.hw.pwr
    (bit (cfg State.reset.m.hw 2 0 0x408) 31 = true ∧ (0x50 : BitVec 7).toNat = fld (cfg State.reset.m.hw 2 0 0x408) 0 7) ∧
      (0x51 : BitVec 7).toNat ≠ fld (cfg State.reset.m.hw 2 0 0x408) 0 7 ∧
      ((p { wtpSel := true, wtpPtr := 11 }).wtpSel = true ∧ (p { wtpSel := true, wtpPtr := 11 }).wtpRead = false ∧ 8 ≤ 11 ∧ 12 ≤ 13 ∧ 4 ≤ 6) ∧
      (p { wtpSel := true, wtpRead := true }).wtpRead = true ∧
      (maskDomains (p {}).wreqLo (p {}).wreqHi).filter (fun d => decide (d ≠ 0)) = [] ∧
      (maskDomains (p { wreqHi := 0x1000 }).wreqLo (p { wreqHi := 0x1000 }).wreqHi).filter (fun d => decide (d ≠ 0)) ≠ [] := by decide

/-! ## Clocks and resets (chapters 16, 17) -/

theorem wit_ClocksAndWatchdogs :
    (domOn State.reset.m.hw 18 = true ∧ clkRuns State.reset.m.hw 3 = true) ∧
    (coreS.writes (.core 0) 3 0 0x050 = true ∧ mayWrite 3 0 0x050 ∧ ∀ k, Initiator.debug ≠ .core k) ∧
    (let h := (mkR [(pg 1 0 + 0x090, 0x00010201)] [] (fun h => { h with olk := [(11, { phase := .halted })], now := 1940000 })).m.hw
     bit (cfg h 3 0 (0x440 + 4 * 11)) 31 = true ∧ domOn h 12 = true ∧ watched (olk h 11) = true ∧
       max 1 (fld (cfg h 3 0 (0x440 + 4 * 11)) 0 16) * 970 ≤ h.now - (olk h 11).wdgAt ∧ bit (rd h 1 0 0x090) 0 = true ∧ bit (rd h 3 0 0x054) 11 = false) ∧
    (let h := (mkR [(pg 3 0 + 0x054, 0x800)] [(pg 1 0 + 0x404, 1)] id).m.hw
     bit (rd h 3 0 0x054) 11 = true ∧ bit (cfg h 1 0 0x404) 0 = true ∧
       ¬ max 1 (fld (cfg h 3 0 (0x440 + 4 * 11)) 0 16) * 970 ≤ h.now - (olk h 11).wdgAt) :=
  ⟨by decide, ⟨by decide, by decide, fun _ => nofun⟩, by decide, by decide⟩

theorem wit_Resets :
    (mayWrite 1 0 0x09C ∧ bit (rd State.reset.m.hw 1 0 0x090) 0 = false ∧
      bit (rd (mkR [(pg 1 0 + 0x090, 1)] [] id).m.hw 1 0 0x090) 0 = true ∧ (mkR [(pg 1 0 + 0x090, 1)] [] id).writes .debug 1 0 0x09C = true) ∧
    (let h := (mkR [(pg 1 0 + 0x090, 1)] [] (fun h => { h with rst := { cores := [(11, 3)] } })).m.hw
     h.rst.ctrl = false ∧ bit (rd h 1 0 0x090) 0 = true ∧ h.rst.cores.find? (fun e => decide (e.1 = 11)) = some (11, 3)) ∧
    (let h := (mk (fun h => { h with straps := 4, rst := { ctrl := true, causes := 16 }, hung := [⟨.bond, 0x40000000, 4, false, 0⟩] })).m.hw
     h.rst.ctrl = true ∧ h.hung.all (fun e => decide (e.ini ≠ .debug)) = true ∧ holdTime h ≠ 0 ∧ h.cry.run = none ∧ h.acc.learn = none) ∧
    dead.alive = false := by decide

/-- The bytes of `l` from address `a`. -/
def at_ : Nat → List Byte → List Host.Cell
  | _, [] => []
  | a, b :: r => (a, b) :: at_ (a + 1) r

/-- A key record of one firmware key; the key is such that the digest of the header of `imageRun` is both halves of a signature over it. -/
def keyRun : List Byte :=
  [0x01, 0x00, 0x53, 0x4B, 0x01, 0x00, 0x00, 0x00] ++
  List.replicate 0x8 0xFF ++
  [0x37, 0x5E, 0xEB, 0x56, 0x76, 0xBD, 0xCC, 0x18, 0x17, 0x8C, 0xB9, 0xEF, 0x5B, 0x43, 0x61, 0x0B] ++
  [0x31, 0xF2, 0xE8, 0x14, 0xD6, 0x49, 0x33, 0xC6, 0xA2, 0xE2, 0x60, 0xC9, 0x67, 0xC8, 0xBB, 0x59] ++
  [0x79, 0xB1, 0x6F, 0x2F, 0xF8, 0x84, 0xEB, 0x07, 0x70, 0xE3, 0x8E, 0x8A, 0x9F, 0xDB, 0xB6, 0x4D] ++
  [0x2F, 0x88, 0x76, 0x40, 0x5E, 0x5E, 0x74, 0xE9, 0x58, 0x0E, 0x5D, 0xA5, 0x06, 0x85, 0xA5, 0x42] ++
  [0xCB, 0x1D, 0x4F, 0xF8, 0x78, 0x86, 0x8F, 0xFC, 0x97, 0xEE, 0x4B, 0x08, 0xB2, 0xBA, 0xFE, 0xB2] ++
  [0x31, 0x24, 0x88, 0x51, 0x8B, 0x92, 0xF6, 0x3E, 0x8C, 0x0E, 0xDE, 0x41, 0xD5, 0xC5, 0x44, 0x99] ++
  List.replicate 0x120 0xFF ++
  [0xF7, 0x02, 0x89, 0xE5]

/-- The header and the 16 bytes of 0xFF of an image with version 0. -/
def imageRun : List Byte :=
  [0x00, 0x10, 0x1A, 0xC5, 0x00, 0x02, 0x00, 0x00, 0x00, 0x00, 0x00, 0x00, 0x10, 0x00, 0x00, 0x00] ++
  [0x00, 0x00, 0x00, 0x00, 0x00, 0x01, 0x00, 0x00, 0x00, 0x00, 0x00, 0x00, 0x00, 0x00, 0x00, 0x00] ++
  [0x98, 0xA7, 0x58, 0xD1, 0xFA, 0x66, 0x8E, 0xFB, 0xBD, 0xC4, 0x8E, 0x2E, 0x24, 0xAD, 0x89, 0x50] ++
  [0x20, 0x4C, 0xF5, 0x18, 0xCE, 0xD3, 0x24, 0x73, 0x8D, 0x31, 0x24, 0xEA, 0x0F, 0x32, 0x15, 0x4A] ++
  [0xE5, 0xAD, 0x20, 0x5E, 0xD2, 0xA5, 0x44, 0xF4, 0xF0, 0x03, 0xE0, 0x6A, 0x33, 0x7D, 0x29, 0x56] ++
  List.replicate 0x150 0xFF ++
  [0x85, 0x3C, 0xBD, 0x82, 0x68, 0xD6, 0x1F, 0xC8, 0xF5, 0x2B, 0x28, 0xD3, 0x1F, 0xAB, 0xDA, 0xFD] ++
  [0x95, 0x93, 0xDB, 0x1E, 0x4F, 0x10, 0xCF, 0x84, 0x63, 0x4C, 0x50, 0x79, 0xE0, 0x1F, 0x9E, 0xDD] ++
  [0x75, 0x1D, 0x7B, 0x26, 0x97, 0x93, 0xCB, 0xDD, 0xFA, 0xB1, 0x94, 0x66, 0xA7, 0x53, 0x8A, 0x1A] ++
  [0x85, 0x3C, 0xBD, 0x82, 0x68, 0xD6, 0x1F, 0xC8, 0xF5, 0x2B, 0x28, 0xD3, 0x1F, 0xAB, 0xDA, 0xFD] ++
  [0x95, 0x93, 0xDB, 0x1E, 0x4F, 0x10, 0xCF, 0x84, 0x63, 0x4C, 0x50, 0x79, 0xE0, 0x1F, 0x9E, 0xDD] ++
  [0x75, 0x1D, 0x7B, 0x26, 0x97, 0x93, 0xCB, 0xDD, 0xFA, 0xB1, 0x94, 0x66, 0xA7, 0x53, 0x8A, 0x1A] ++
  List.replicate 0x10 0xFF

/-- The memory with the key record in its first copy and the image in slot 0. -/
def imageMem : Mem := { cells := at_ 0 keyRun ++ at_ 0x10000 imageRun }

theorem smGet_at (d : Byte) (k : Nat) (rest : List Host.Cell) (l : List Byte) (a : Nat) :
    smGet d (at_ a l ++ rest) k = if k < a then smGet d rest k else match l[k - a]? with | some b => b | none => smGet d rest k := by
  induction l generalizing a with
  | nil => simp [at_]
  | cons b r ih =>
    rw [at_, List.cons_append, smGet, ih]
    rcases Nat.lt_trichotomy k a with h | h | h
    · rw [if_neg (by omega), if_pos (by omega), if_pos h]
    · subst h; simp
    · obtain ⟨j, rfl⟩ : ∃ j, k = a + 1 + j := ⟨k - (a + 1), by omega⟩
      rw [if_neg (by omega), if_neg (by omega), if_neg (by omega), show a + 1 + j - (a + 1) = j by omega, show a + 1 + j - a = j + 1 by omega,
        List.getElem?_cons_succ]

set_option maxRecDepth 100000 in
theorem keyRun_length : keyRun.length = 0x194 := by decide +kernel

set_option maxRecDepth 100000 in
theorem imageRun_length : imageRun.length = 0x210 := by decide +kernel

theorem imageMem_key (k : Nat) (h : k < 0x194) : rdByte imageMem k = keyRun[k]'(keyRun_length ▸ h) := by
  unfold rdByte imageMem
  rw [smGet_at, if_neg (by omega), Nat.sub_zero, List.getElem?_eq_getElem (keyRun_length ▸ h)]

theorem imageMem_none (k : Nat) (h : 0x194 ≤ k) (h2 : k < 0x10000) : rdByte imageMem k = 0xFF := by
  have e := smGet_at (memDflt [] k) k [] imageRun 0x10000
  rw [List.append_nil, if_pos h2] at e
  unfold rdByte imageMem
  rw [smGet_at, if_neg (by omega), Nat.sub_zero, List.getElem?_eq_none (keyRun_length ▸ h)]
  have d : memDflt [] k = 0xFF := if_pos (by omega)
  exact e.trans d

theorem imageMem_image (k : Nat) (h : k < 0x210) : rdByte imageMem (0x10000 + k) = imageRun[k]'(imageRun_length ▸ h) := by
  have e := smGet_at (memDflt [] (0x10000 + k)) (0x10000 + k) [] imageRun 0x10000
  rw [List.append_nil, if_neg (by omega), Nat.add_sub_cancel_left, List.getElem?_eq_getElem (imageRun_length ▸ h)] at e
  unfold rdByte imageMem
  rw [smGet_at, if_neg (by omega), Nat.sub_zero, List.getElem?_eq_none (by rw [keyRun_length]; omega)]
  exact e

theorem slice (f : Nat → Byte) (l : List Byte) (o n : Nat) (h : o + n ≤ l.length) (e : ∀ k (h : k < l.length), f k = l[k]) :
    (List.range n).map (fun i => f (o + i)) = (l.drop o).take n := by
  refine List.ext_getElem (by simp; omega) (fun i h1 _ => ?_)
  simp only [List.length_map, List.length_range] at h1
  simp only [List.getElem_map, List.getElem_range, List.getElem_take, List.getElem_drop]
  exact e _ _

theorem imageMem_keyBytes (o n : Nat) (h : o + n ≤ 0x194) : rdBytes imageMem o n = (keyRun.drop o).take n :=
  slice _ _ _ _ (by rw [keyRun_length]; exact h) (fun k h => imageMem_key k (keyRun_length ▸ h))

theorem imageMem_imageBytes (o n : Nat) (h : o + n ≤ 0x210) : rdBytes imageMem (0x10000 + o) n = (imageRun.drop o).take n := by
  rw [← slice (fun k => rdByte imageMem (0x10000 + k)) _ o n (by rw [imageRun_length]; exact h)
    (fun k h => imageMem_image k (imageRun_length ▸ h))]
  simp only [rdBytes, Nat.add_assoc]

theorem rdMem_bytes (m : Mem) (a n : Nat) : rdMem m a n = leNat (rdBytes m a n) := by
  induction n generalizing a with
  | zero => rfl
  | succ n ih =>
    simp only [rdMem, ih, rdBytes, List.range_succ_eq_map, List.map_cons, List.map_map, leNat, Nat.add_zero, Function.comp_def]
    simp only [Nat.add_succ, Nat.succ_add, Nat.add_zero]

theorem imageMem_record (a : Nat) (h : 0x194 ≤ a) (h2 : a + 4 ≤ 0x10000) : rdMem imageMem a 4 = 0xFFFFFFFF := by
  simp only [rdMem, imageMem_none a h (by omega), imageMem_none (a + 1) (by omega) (by omega), imageMem_none (a + 1 + 1) (by omega) (by omega),
    imageMem_none (a + 1 + 1 + 1) (by omega) (by omega)]
  decide

set_option maxRecDepth 100000 in
theorem keyRun_magic : leNat ((keyRun.drop 0).take 4) = 0x4B530001 := by decide +kernel

set_option maxRecDepth 100000 in
theorem keyRun_crc : leNat ((keyRun.drop 0x190).take 4) = crc32 ((keyRun.drop 0).take 0x190) := by decide +kernel

/-- A record whose first copy alone is valid. -/
theorem nvRecord_first (m : Mem) (a b magic c lo hi : Nat) (h1 : rdMem m a 4 = magic)
    (h2 : rdMem m (a + c) 4 = crc32 (rdBytes m (a + lo) (hi - lo))) (h3 : rdMem m b 4 ≠ magic) : nvRecord m a b magic c lo hi = some a := by
  simp [nvRecord, h1, h2, h3]

/-- A record neither copy of which is valid. -/
theorem nvRecord_none (m : Mem) (a b magic c lo hi : Nat) (h1 : rdMem m a 4 ≠ magic) (h3 : rdMem m b 4 ≠ magic) :
    nvRecord m a b magic c lo hi = none := by
  simp [nvRecord, h1, h3]

theorem imageMem_keyRecord : keyRecord imageMem = some 0 :=
  nvRecord_first _ _ _ _ _ _ _ (by rw [rdMem_bytes, imageMem_keyBytes _ _ (by decide)]; exact keyRun_magic)
    (by rw [rdMem_bytes, imageMem_keyBytes _ _ (by decide), imageMem_keyBytes _ _ (by decide)]; exact keyRun_crc)
    (by rw [imageMem_record _ (by decide) (by decide)]; decide)

theorem imageMem_bootRecord : bootRecord imageMem = none :=
  nvRecord_none _ _ _ _ _ _ _ (by rw [imageMem_record _ (by decide) (by decide)]; decide)
    (by rw [imageMem_record _ (by decide) (by decide)]; decide)

set_option maxRecDepth 100000 in
theorem imageRun_digest : sha384 (imageRun.drop 0x200) = (imageRun.drop 0x20).take 48 := by decide +kernel

set_option maxRecDepth 100000 in
theorem imageRun_signature : ecdsaOk (sha384 (imageRun.take 0x1A0)) ((keyRun.drop 0x10).take 96) ((imageRun.drop 0x1A0).take 96) = true := by
  decide +kernel

set_option maxRecDepth 100000 in
theorem imageRun_fields : leNat (imageRun.take 4) = 0xC51A1000 ∧ leNat ((imageRun.drop 4).take 4) = 0x200 ∧ leNat ((imageRun.drop 0x0C).take 4) = 16 ∧
    leNat ((imageRun.drop 0x10).take 4) = 0 ∧ ((imageRun.drop 0x16).take 10).all (fun x => decide (x = 0)) = true := by decide +kernel

set_option maxRecDepth 100000 in
theorem imageRun_slots : imageRun[0x14]? = some 0 ∧ imageRun[0x15]? = some 1 ∧ (imageRun.drop 0x200).take 16 = imageRun.drop 0x200 := by decide +kernel

theorem imageMem_byte (k : Nat) (h : k < 0x210) (x : Byte) (e : imageRun[k]? = some x) : rdByte imageMem (0x10000 + k) = x := by
  rw [imageMem_image k h]; rw [List.getElem?_eq_getElem (imageRun_length ▸ h)] at e; exact Option.some.inj e

/-- The checks that an image passes. -/
theorem verifyImage_ok (m : Mem) (s b len : Nat) (k : List Byte) (hb : slotBase s = b) (hk : fwk m = some k) (hl : rdMem m (b + 0x0C) 4 = len)
    (n1 : ¬ (rdMem m (b + 0) 4 ≠ 0xC51A1000 ∨ rdMem m (b + 4) 4 ≠ 0x200 ∨ ((rdBytes m (b + 0x16) 10).all (fun x => decide (x = 0))) = false))
    (n2 : ¬ (((rdByte m (b + 0x14)).toNat ≠ 0 ∧ (rdByte m (b + 0x14)).toNat ≠ 1) ∨ 4 ≤ (rdByte m (b + 0x15)).toNat ∨
      ((rdByte m (b + 0x15)).toNat).testBit s = false))
    (n3 : ¬ (len % 16 ≠ 0 ∨ len < 16 ∨ 0x7EFE00 < len ∨ rdMem m (b + 0x10) 4 % 2 ≠ 0 ∨ len ≤ rdMem m (b + 0x10) 4))
    (n4 : ¬ rdMem m (b + 8) 4 < minVer m)
    (n5 : sha384 (rdBytes m (b + 0x200) len) = rdBytes m (b + 0x20) 48)
    (s1 : ecdsaOk (sha384 (rdBytes m b 0x1A0)) k (rdBytes m (b + 0x1A0) 96) = true) : verifyImage m s = rOK := by
  subst hb hl
  unfold verifyImage
  rw [hk]
  exact (if_neg n1).trans ((if_neg n2).trans ((if_neg n3).trans ((if_neg n4).trans ((if_neg (fun h => h n5)).trans (if_pos s1)))))

theorem imageMem_verify : verifyImage imageMem 0 = rOK := by
  have w (o : Nat) (h : o + 4 ≤ 0x210) : rdMem imageMem (0x10000 + o) 4 = leNat ((imageRun.drop o).take 4) := by
    rw [rdMem_bytes, imageMem_imageBytes _ _ h]
  have b0 : rdBytes imageMem 0x10000 0x1A0 = imageRun.take 0x1A0 := by
    have e := imageMem_imageBytes 0 0x1A0 (by decide); rwa [Nat.add_zero, List.drop_zero] at e
  have w0 : rdMem imageMem (0x10000 + 0) 4 = leNat (imageRun.take 4) := by
    have e := w 0 (by decide); rwa [List.drop_zero] at e
  have key : rdBytes imageMem (0 + 0x10) 96 = (keyRun.drop 0x10).take 96 := by
    rw [Nat.zero_add]; exact imageMem_keyBytes 0x10 96 (by decide)
  have body : rdBytes imageMem (0x10000 + 0x200) 16 = imageRun.drop 0x200 := by
    rw [imageMem_imageBytes _ _ (by decide), imageRun_slots.2.2]
  have mv : minVer imageMem = 0 := by rw [minVer, imageMem_bootRecord]
  have k : fwk imageMem = some ((keyRun.drop 0x10).take 96) := by rw [fwk, imageMem_keyRecord, Option.map_some, key]
  obtain ⟨f0, f4, fC, f10, f16⟩ := imageRun_fields
  refine verifyImage_ok _ _ 0x10000 16 _ rfl k ((w 0x0C (by decide)).trans fC) ?_ ?_ ?_ ?_ ?_ ?_
  · rw [w0, f0, w 4 (by decide), f4, imageMem_imageBytes 0x16 10 (by decide), f16]; decide
  · rw [imageMem_byte 0x14 (by decide) _ imageRun_slots.1, imageMem_byte 0x15 (by decide) _ imageRun_slots.2.1]; decide
  · rw [w 0x10 (by decide), f10]; decide
  · rw [mv]; exact Nat.not_lt_zero _
  · rw [body, imageMem_imageBytes 0x20 48 (by decide)]; exact imageRun_digest
  · rw [b0, imageMem_imageBytes 0x1A0 96 (by decide)]; exact imageRun_signature

/-- An image that passes R547 exists, and a store that holds none. -/
theorem wit_ImagePasses : (bootPick imageMem).1 = some 0 ∧ (bootPick {}).1 = none := by
  refine ⟨?_, by decide +kernel⟩
  have p : bootPref imageMem = 0 := by rw [bootPref, imageMem_bootRecord]
  simp only [bootPick, p, imageMem_verify, if_true]

/-- Every die in mode `d`, 100 ms of hold time by the straps. -/
def dies (d : DieMode) (t : Nat) : State :=
  mk (fun h => { h with straps := 6, now := t, feeds := (List.range 4).map (fun g => (g, { supply := .on, mode := d })) })

theorem wit_ImageAndOutputHold :
    State.reset.m.hw.rst.verify = true ∧
    (outState (dies .hold 95000).m.hw = 1 ∧ (dies .hold 95000).m.hw.rst.holdAt + holdTime (dies .hold 95000).m.hw * 95 / 100 ≤ 95000) ∧
    (anyFallback State.reset.m.hw = false ∧ (dies .hold 94999).m.hw.now < (dies .hold 94999).m.hw.rst.holdAt + holdTime (dies .hold 94999).m.hw * 95 / 100) ∧
    (let h := (dies .fallback 5000000).m.hw
     h.rst.flashAt + flashLen h * 95 / 100 ≤ h.now ∧ (dies .fallback 0).m.hw.now < h.rst.flashAt + flashLen h * 95 / 100) ∧
    (anyFallback (dies .fallback 0).m.hw = true ∧ fbMode (dies .fallback 0).m.hw 3 = 2 ∧ (feed (dies .fallback 0).m.hw (hswGroup 3)).mode = .fallback) ∧
    ((dies .hold 0).writes .debug 1 0 0x098 = true ∧ mayWrite 1 0 0x098 ∧ outState (dies .fallback 0).m.hw = 2 ∧ outState State.reset.m.hw = 0) := by
  decide

/-! ## Access (chapter 18) -/

/-- The front end with slot 7 enrolled: token 5, key all zero, all its uses. -/
def accS (a : Acc) (l c : List (Nat × Word) := []) : State :=
  mkR l c (fun h => { h with acc := { a with slots := [(7, { en := true, immo := true, btn := true, tid := 5, cnt := 9, key := List.replicate 16 0 })] } })

/-- A poll whose challenge is out, one slot after slot 6. -/
def pollS (p : Poll) (c : List (Nat × Word) := []) : State := accS { poll := some p } [] c

theorem wit_AccessPolls :
    (mayWrite 0x40 0 0x044 ∧ accBusy State.reset.m.hw = false ∧ accBusy (accS { learn := some [] }).m.hw = true ∧
      (List.range 8).filter (fun k => (0x80 : Byte).getLsbD k && (slot (accS {}).m.hw k).en) = [7] ∧
      (List.range 8).filter (fun k => (0x7F : Byte).getLsbD k && (slot (accS {}).m.hw k).en) = []) ∧
    (let h := (accS {} [(pg 0x40 0 + 0x07C, 0x80)]).m.hw
     domOn h 42 = true ∧ accBusy h = false ∧ bit (rd h 0x40 0 0x07C) 7 = true ∧ (∀ k, k < 7 → bit (rd h 0x40 0 0x07C) k = false) ∧
       (List.range 8).filter (fun k => bit (cfg h 0x40 0 0x40C) (16 + k) && (slot h k).en) = [7]) ∧
    (pollS { cause := 1, cap := 0, ant := 1, slots := [7] }).m.hw.acc.poll = some { cause := 1, cap := 0, ant := 1, slots := [7] } ∧
    (let p : Poll := { cause := 1, cap := 0, ant := 1, slots := [7, 6], chal := some (List.replicate 8 0), faults := 1 }
     (pollS p).m.hw.acc.poll = some p ∧ p.slots = 7 :: [6] ∧ (pollS p).m.hw.now < p.txEnd + 14000 ∧ p.txEnd + 14000 ≤ (accS { poll := some p }).m.hw.now + 14000 ∧ Nat.land p.ant p.faults = p.ant ∧ p.tries < min 3 (fld (cfg (pollS p).m.hw 0x40 0 0x408) 0 2) ∧
       bit (cfg (pollS p).m.hw 0x40 0 0x408) 4 = false ∧ bit (cfg (pollS p [(pg 0x40 0 + 0x408, 0x10)]).m.hw 0x40 0 0x408) 4 = true ∧
       min 3 (fld (cfg (pollS p [(pg 0x40 0 + 0x408, 0x10)]).m.hw 0x40 0 0x408) 0 2) ≤ p.tries) ∧
    (let g : Telegram := { type := 0x51, tid := 5, flags := 0, aux := 0, cnt := 0, mac := [] }
     let chal : List Byte := List.replicate 8 0
     let h := (accS {}).m.hw
     answerReason h 7 chal 1 { g with mac := answerMac (slot h 7).key chal 1 g } = 0 ∧ answerReason h 7 chal 1 { g with type := 0x50 } ≠ 0) := by
  decide +kernel

theorem wit_AccessReceiver :
    (let p : Poll := { cause := 1, cap := 0, ant := 0x80, slots := [7], chal := some [], txEnd := 1 }
     (pollS p).m.hw.acc.poll = some p ∧ lfTx (pollS p).m.hw = true ∧ p.ant.testBit 7 = true ∧ lfTx State.reset.m.hw = false) ∧
    (let h := (accS { ul := true }).m.hw
     let g : Telegram := { type := 0x52, tid := 5, flags := 0, aux := 0, cnt := 10, mac := [] }
     inWindow h = false ∧ listens h = true ∧ buttonSlot h g = some 7 ∧ (slot h 7).btn = true ∧
       (buttonMac (slot h 7).key g).take 8 = buttonMac (slot h 7).key g ∧ ([] : List Byte).take 8 ≠ buttonMac (slot h 7).key g ∧
       (slot h 7).cnt < g.cnt.toNat ∧ g.cnt.toNat ≤ (slot h 7).cnt + max 1 (fld (cfg h 0x40 0 0x408) 8 12)) ∧
    (let h := (accS {} [] [(pg 0x40 0 + 0x418, 0x80250000)]).m.hw
     bit (cfg h 0x40 0 0x418) 31 = true ∧ listens h = false ∧ inWindow h = false) ∧
    ((accS { ul := true }).m.hw.now < (accS { ul := true }).m.hw.acc.ulAt + 200000 ∧
      (let h := { (accS { ul := true }).m.hw with now := 200000 }
       h.acc.ulAt + 200000 ≤ h.now)) := by decide +kernel

theorem wit_LearningAndRelay :
    (mayWrite 0x40 0 0x060 ∧ mayWrite 0x40 0 0x06C ∧ learnTicket State.reset.m = none ∧
      learnTicket (accS { learn := some [0] }).m = some [0] ∧ learnTicket (accS { learn := some [], learnBad := true }).m = some [] ∧
      (accS { learn := some [] }).writes .debug 0x40 0 0x060 = true ∧ accBusy (accS { learn := some [] }).m.hw = true) ∧
    (let s := accS { authEnd := 1 } [(pg 0x40 0 + 0x070, 3)]
     bit (rd s.m.hw 0x40 0 0x070) 1 = true ∧ bit (rd s.m.hw 0x40 0 0x070) 0 = true ∧ s.m.hw.now < s.m.hw.acc.authEnd ∧
       s.writes .debug 0x40 0 0x06C = true) ∧
    bit (rd State.reset.m.hw 0x40 0 0x070) 1 = false ∧ State.reset.m.hw.acc.authEnd ≤ State.reset.m.hw.now := by decide

/-! ## Crypto engine (chapter 19) -/

/-- The engine with operation `o` in progress. -/
def cryS (o : CryOp) : State := mk (fun h => { h with cry := { run := some o } })

theorem wit_CryptoEngine :
    (mayWrite 0x41 0 0x040 ∧ State.reset.m.hw.cry.run = none ∧ domOn (mk (domIs 44 .off)).m.hw 44 = false ∧
      needsNvStore ⟨8, 0x20000000, 16, 0x10000, 0⟩ = true ∧ needsNvStore ⟨2, 0x20000000, 0, 0, 0⟩ = false ∧
      (0x7A000001 : Word).toNat / 2 ^ 24 ≠ 0x7B ∧ (0x7B000001 : Word).toNat / 2 ^ 24 = 0x7B ∧
      (cryS ⟨1, 0, 0, 0, 0⟩).writes .debug 0x41 0 0x040 = true ∧ (cryS ⟨1, 0, 0, 0, 0⟩).m.hw.cry.run.isSome = true) ∧
    (cryOpen State.reset.m.hw ⟨8, 0x20000000, 16, 0x10000, 0⟩ = true ∧ cryOpen (mk (domIs 44 .off)).m.hw ⟨7, 0, 0x10000, 0x10000, 0⟩ = false) ∧
    (slotRange State.reset.m.hw 0x10000 0x7F0000 = 1 ∧ slotRange State.reset.m.hw 0x800000 0x10000 = 1 ∧ 0x800000 % 0x10000 = 0 ∧ 0x7F0000 % 0x10000 = 0 ∧
      0x201FFFD0 + 48 ≤ 0x20200000 ∧ 0x00FE0000 + 0x10000 ≤ 0x00FF0000) ∧
    (rdByte State.reset.m.mem 0x10000 = 0xFF ∧ rdByte { cells := [(0x10000, 0)] } 0x10000 ≠ 0xFF) := by decide

/-! ## Bond link (chapter 20) -/

/-- Address 9 on an enabled Bond link at port 1, whose link is up, in pair mode with partner 8. -/
def bondS (b : Bond) (l : List (Nat × Word) := []) (c : List (Nat × Word) := []) : State :=
  mkR ((pg 0x22 1 + 0x040, 1) :: l) ([(pg 0x22 1 + 0x400, 2), (pg 0x50 0 + 0x400, 0x03000401), (pg 0x50 0 + 0x408, 0x80000008)] ++ c)
    (fun h => { h with straps := 0x20, bond := b, eth := [(1, { tc := 0, link := true })] })

theorem wit_BondTime :
    (bondHears (bondS { lead := 9 }).m.hw = true ∧ bondHears State.reset.m.hw = false ∧ bondAddr (bondS {}).m.hw = 9) ∧
    ((bondS { heard := [(8, 3)] }).m.hw.bond.heard.find? (fun e => decide (e.1 = 8)) = some (8, 3) ∧ lossN (bondS {}).m.hw ≤ 3 ∧ 2 < lossN (bondS {}).m.hw ∧
      bondOn (bondS {}).m.hw = true) ∧
    ((bondS { lead := 8, ts := 1, syncs := 1, pdelay := true }).m.hw.bond.lead ≠ bondAddr (bondS {}).m.hw ∧
      (bondS { ts := 1, syncs := 2, lead := 8 }).m.hw.bond.syncs = 2) ∧
    (let h := { (bondS { ts := 5, syncAt := 0 }).m.hw with now := 125000 }
     h.bond.ts = 5 ∧ h.bond.syncAt + 125000 ≤ h.now ∧ (bondS { ts := 2 }).m.hw.now < (bondS { ts := 2 }).m.hw.bond.syncAt + 125000) := by decide

/-- Whatever the module's own TAG, another one exists. -/
theorem wit_BondTime_tag : ∃ tag : Word, tag.toNat ≠ ownTag := by
  by_cases h : ownTag = 0
  · exact ⟨1, by rw [h]; decide⟩
  · exact ⟨0, fun e => h e.symm⟩

theorem wit_BondRemote :
    (mayWrite 0x50 0 0x07C ∧ (bondS { heard := [(8, 0)] }).writes .debug 0x50 0 0x07C = true ∧ bondLive (bondS { heard := [(8, 0)] }).m.hw = true ∧
      (∃ e ∈ (bondS { heard := [(8, 0)] }).m.hw.bond.heard, e.1 = 8) ∧ bondLive State.reset.m.hw = false ∧
      (bondS { rq := some (1, true) }).m.hw.bond.rq = some (1, true) ∧ bondPort (bondS {}).m.hw = some 1 ∧ domOn (bondS {}).m.hw 30 = true ∧
      (bondS { rq := some (1, true), rqAt := 1 }).m.hw.now < 1 + 1900 ∧ 0 + 1900 ≤ { (bondS { rq := some (1, true) }).m.hw with now := 1900 }.now) ∧
    bondHears (bondS {} [] [(pg 0x50 0 + 0x430, 0x2000006C)]).m.hw = true ∧
    (let h := (bondS {} [] [(pg 0x50 0 + 0x430, 0x2000006C)]).m.hw
     domOpen h 18 = true ∧ (addrDomain 0x20000FFC).isSome = true ∧ targetOpen h 0x20000FFC = true ∧ rwinAllows h 0x20000FFC false = true ∧
       rwinAllows h 0x20000FFC true = true ∧ rwinAllows h 0x20001000 false = false ∧ h.hung.any (fun e => decide (e.ini = .bond)) = false) ∧
    (mk (fun h => { h with hung := [⟨.bond, 0x20000000, 4, false, 0⟩] })).m.hw.hung.any (fun e => decide (e.ini = .bond)) = true ∧
    (let s := fun (c : Word) => mkR [(pg 0x22 1 + 0x040, 1)] [(pg 0x22 1 + 0x400, 2), (pg 0x32 0 + 0x400, 0x80000000), (pg 0x50 0 + 0x400, 0x03000401), (pg 0x50 0 + 0x420, c), (pg 0x50 0 + 0x424, 1)] (fun h => { h with
       pages := [(9, { own := .queue 0 })], queues := [(0, [⟨9, 0, 256, 0⟩])], eth := [(1, { tc := 0, link := true })] })
     let h := (s 0x80000000).m.hw
     bondHears h = true ∧ bondPort h = some 1 ∧ domOn h 17 = true ∧ bit (cfg h 0x50 0 0x420) 31 = true ∧ softQueue h 0 = true ∧ fld (qcfg h 0) 28 2 = 0 ∧
       queue h 0 = ⟨9, 0, 256, 0⟩ :: [] ∧ (apage h 9).next = none ∧ (apage h 9).own = .queue 0 ∧
       (headerOf State.reset.m.mem 9).getD 2 0 % 4096 = 0 ∧ (headerOf { cells := [(0x21000908, 224)] } 9).getD 2 0 % 4096 = 224 ∧
       bit (cfg h 0x50 0 0x424) 0 = true ∧ bit (cfg h 0x50 0 0x424) 1 = false ∧ freeCount h ≠ 0 ∧ rsvOf h < freeCount h ∧ qFull h 0 (filling h 0) = false) := by
  decide +kernel

theorem wit_BondPair :
    (let h := (bondS { pst := 2 }).m.hw
     pairOn h = true ∧ bondHears h = true ∧ ringQueue h 0x50 0 = none ∧ partner h = 8 ∧ h.timebase ≤ h.frameStart + 200 ∧ h.bond.own = none ∧
       h.bond.mirNow = false ∧ (bondS { mirNow := true }).m.hw.bond.mirNow = true ∧ min 255 (0 + 1) < lossN h ∧ lossN h ≤ min 255 (2 + 1)) ∧
    (let h := { (bondS { mirOpen := true, own := some ⟨7, []⟩ }).m.hw with timebase := 200 }
     h.bond.mirOpen = true ∧ h.frameStart + 200 ≤ h.timebase ∧ h.bond.own = some ⟨7, []⟩ ∧ ¬ { h with timebase := 201 }.timebase ≤ h.frameStart + 200) ∧
    (aligned (bondS { ts := 4 }).m.hw = true ∧ aligned (bondS { ts := 2 }).m.hw = false ∧ isJunior State.reset.m.hw = false ∧
      isJunior (mk (fun h => { h with straps := 1 })).m.hw = true) ∧
    (mayWrite 0x50 0 0x06C ∧ mayWrite 0x50 0 0x070 ∧ domOn State.reset.m.hw 30 = true) ∧
    (let h := (mk (fun h => { h with straps := 1, bond := { pst := 1, delay := true, qAlive := true }, now := 2000000 })).m.hw
     h.bond.qAlive = true ∧ h.bond.qAt + max 2 (fld (cfg h 0x50 0 0x40C) 8 8) * 950 ≤ h.now ∧ h.bond.pst = 1 ∧ h.bond.delay = true ∧
       isJunior h = true ∧ h.bond.delayAt + min 200 (max 5 (fld (cfg h 0x50 0 0x408) 22 8)) * 10000 ≤ h.now ∧
       State.reset.m.hw.now < h.bond.delayAt + min 200 (max 5 (fld (cfg h 0x50 0 0x408) 22 8)) * 10000) ∧
    ((bondS { pst := 5, present := true }).m.hw.bond.pst = 5 ∧ (bondS { pst := 5, present := true }).writes .debug 0x50 0 0x070 = true) := by
  decide +kernel

/-! ## Ill-formed commands -/

theorem test_ill_formed :
    (Instr.registerWrite .debug 0x20000000 0 0x100).wf = false ∧ (Instr.evSet .debug 0x10 96 0).wf = false ∧
    (Instr.commitBoundary .debug 0x00 0).wf = false ∧ (Instr.commitImmediate .debug 0x11 24).wf = false ∧ (Instr.commitCancel .debug 0x22 2).wf = false ∧
    (Instr.commitReload .debug 0x51 0).wf = false ∧ (Instr.commitArm .debug 0x31 64).wf = false ∧ (Instr.commitBadcode .debug 0x10 0 5).wf = false ∧
    (Instr.commitBadcode .debug 0x12 4 6).wf = false ∧ (Instr.plinthWake 9).wf = false ∧ (Instr.measResult 0 0 8388608).wf = false ∧
    (Instr.pwmPeriodMean 0 0 (-8388609)).wf = false ∧ (Instr.hbrCmdReserved .debug 0 3 0).wf = false ∧ (Instr.swiSample 0 []).wf = false ∧
    (Instr.parkPoll []).wf = false := by decide

theorem test_ill_formed_late :
    (Instr.mov 0 ⟨2, 0, false⟩ [.imm 0, .imm 0, .imm 0, .imm 0]).wf = false ∧ (Instr.ctxCmdRefused .debug 3 0).wf = false ∧
    (Instr.dmaCmdRefused .debug 0 0).wf = false ∧ (Instr.dmaCmdRefused .debug 0 3).wf = false ∧ (Instr.canFrameReceived 0 ⟨7, false, false, 0, 0, [], 0, false, 0, 0⟩).wf = false ∧
    (CanFrame.mk 0 false false 0 16 [] 0 false 0 0).wf = false ∧ (Instr.linResponseTimeout 0 (List.replicate 9 0)).wf = false ∧
    (Instr.linEntryComplete 0 (List.replicate 9 0) 0 false false).wf = false ∧
    (Instr.responseWindowEnd [⟨0, 0, 0, 0, 0, []⟩] false).wf = false ∧ (Instr.buttonTelegram ⟨0, 0, 0, 0, 0, List.replicate 9 0⟩).wf = false ∧
    (Instr.badop .debug 12).wf = false ∧ (Instr.capSample 0 []).wf = false ∧ (Instr.capConfirmSample 0 []).wf = false := by decide

theorem test_no_word_is_a_command : decodeTableWord 32 0 = none ∧ State.reset.withFetchWord 32 0 = State.reset := by decide

/-! ## The manual's worked examples, and the test vectors of the standards it names -/

/-- The example after R66: two stages of the calibration. -/
theorem test_calibration_example : calStage 200000 1051197 (-120) = 200379 ∧ calStage 200379 1047527 30 = 200208 := by decide

/-- The example of the page address of HSW[17] in chapter 00. -/
theorem test_page_address : pg 0x10 17 = 0x41011000 := by decide

/-- The example after R474: PD18 comes back after 117 964 800 cycles of a slow CK_LPO. -/
theorem test_timebase_example :
    timeBack (mk (fun h => { h with
      regs := [(pg 3 0 + 0x044, 0x80000000 + 8008000)]
      pwr := { h.pwr with t0 := 1820000310, c0 := 1000, rtc := 117965800 } })).m.hw = 5423600310 := by decide

/-- The machine code example after R251: the old W5 is read, the late write of the MOV lands last. -/
theorem test_late_write_lands_last :
    (match step { (coreS { late := [⟨1, 0x1003FC50, 16, 0x40, none⟩] } [(0x1003FC50, 7)]) with
        pending := [.add 0 ⟨4, 0, false⟩ [.direct 5 0, .direct 5 0, .imm 1]] } with
      | .next t => rdMem t.m.mem 0x1003FC50 16
      | _ => 0) = 0x40 := by decide

/-- The PROBE example: identifier 0x123 in bucket 54. -/
theorem test_probe_example :
    (match probe 0 0x20007FF0 0x000000001FFFFFFF0000010620008000 0x123 (coreS {} [(0x20008360, 0x56), (0x20008361, 4),
        (0x20008364, 1), (0x20008368, 0x23), (0x20008369, 1), (0x2000836C, 7)]).m with
      | .found v far _ => some (v, far)
      | _ => none) = some (7, true) := by decide

/-- The largest number whose `e`-th power is at most `v`, below 2^68: its bits from the highest down. -/
def rootOf (e v : Nat) : Nat := (List.range 68).foldr (fun i r => if (r + 2 ^ i) ^ e ≤ v then r + 2 ^ i else r) 0

/-- The first eighty primes. -/
def shaPrimes : List Nat := (List.range 410).filter (fun n => decide (2 ≤ n) && (List.range n).all (fun d => decide (d < 2 ∨ n % d ≠ 0)))

/-- FIPS 180-4: the constants are the first 64 bits of the fractional parts of the cube roots of the first eighty primes, and of the square
roots of the ninth to the sixteenth. -/
theorem test_sha_constants : shaK = shaPrimes.map (fun p => rootOf 3 (p * 2 ^ 192) % 2 ^ 64) ∧
    shaH = ((shaPrimes.drop 8).take 8).map (fun p => rootOf 2 (p * 2 ^ 128) % 2 ^ 64) := by decide +kernel

/-- FIPS 180-4: the first and last bytes of SHA-384 of "abc". -/
theorem test_sha384_abc : (sha384 [0x61, 0x62, 0x63]).take 4 = [0xCB, 0x00, 0x75, 0x3F] ∧ (sha384 [0x61, 0x62, 0x63]).drop 44 = [0x34, 0xC8, 0x25, 0xA7] := by
  decide +kernel

/-- FIPS 197, appendix C.1. -/
theorem test_aes128 :
    aesEnc ((List.range 16).map (BitVec.ofNat 8)) ((List.range 16).map (fun k => BitVec.ofNat 8 (17 * k))) =
      [0x69, 0xC4, 0xE0, 0xD8, 0x6A, 0x7B, 0x04, 0x30, 0xD8, 0xCD, 0xB7, 0x80, 0x70, 0xB4, 0xC5, 0x5A] := by decide +kernel

/-- NIST SP 800-38B, AES-128 example 2: the MAC of one whole block. -/
theorem test_cmac :
    cmac16 [0x2B, 0x7E, 0x15, 0x16, 0x28, 0xAE, 0xD2, 0xA6, 0xAB, 0xF7, 0x15, 0x88, 0x09, 0xCF, 0x4F, 0x3C]
      [0x6B, 0xC1, 0xBE, 0xE2, 0x2E, 0x40, 0x9F, 0x96, 0xE9, 0x3D, 0x7E, 0x11, 0x73, 0x93, 0x17, 0x2A] =
      [0x07, 0x0A, 0x16, 0xB4, 0x6B, 0x4D, 0x41, 0x44, 0xF7, 0x9B, 0xDD, 0x9D, 0xD0, 0x4A, 0x28, 0x7C] := by decide +kernel

/-- The check value of the IEEE 802.3 CRC-32, over "123456789". -/
theorem test_crc32 : crc32 ((List.range 9).map (fun k => BitVec.ofNat 8 (0x31 + k))) = 0xCBF43926 := by decide +kernel

/-- ISO 17987: the protected identifiers of 0x3C and 0x3D are 0x3C and 0x7D. -/
theorem test_lin_pid : linPid 0x3C = 0x3C ∧ linPid 0x3D = 0x7D ∧ linPid 0x10 = 0x50 ∧ linPid 0x11 = 0x11 := by decide

end Sys2Proof.Tests
end

/-! ## Level sources: what bringing them up to date leaves alone -/

namespace Sys2Proof.Machine

/-- From `h` to `h'` only stored registers change. -/
def OnlyRegs (h h' : Hw) : Prop := h' = { h with regs := h'.regs }

namespace OnlyRegs

theorem refl (h : Hw) : OnlyRegs h h := rfl

theorem trans {h x y : Hw} (e : OnlyRegs h x) (e' : OnlyRegs x y) : OnlyRegs h y := by
  unfold OnlyRegs at *
  rw [e', e]

theorem pwr {h x : Hw} (e : OnlyRegs h x) : x.pwr = h.pwr := by rw [e]

theorem ite {h x y : Hw} {c : Prop} [Decidable c] (ex : OnlyRegs h x) (ey : OnlyRegs h y) : OnlyRegs h (if c then x else y) := by
  split
  · exact ex
  · exact ey

theorem wr {h x : Hw} {ty i off : Nat} {v : Word} (e : OnlyRegs h x) : OnlyRegs h (wr x ty i off v) := e.trans rfl

theorem pulse {h x : Hw} {ty i n : Nat} (e : OnlyRegs h x) : OnlyRegs h (pulse x ty i n) := e.wr.ite e

theorem level {h x : Hw} {ty i n : Nat} {b : Bool} (e : OnlyRegs h x) : OnlyRegs h (level x ty i n b) :=
  ite (ite e.wr.pulse e.wr) e

theorem forN {f : Nat → Hw → Hw} {n : Nat} {h : Hw} (hf : ∀ i x, OnlyRegs x (f i x)) : OnlyRegs h (forN n f h) := by
  unfold Machine.forN
  generalize List.range n = l
  induction l generalizing h with
  | nil => exact refl h
  | cons i l ih => exact (hf i h).trans ih

end OnlyRegs

theorem hswLevels_onlyRegs (n : Nat) (h : Hw) : OnlyRegs h (hswLevels n h) := (OnlyRegs.refl h).level.level.level.level.level.level.level
theorem hbrLevels_onlyRegs (n : Nat) (h : Hw) : OnlyRegs h (hbrLevels n h) := (OnlyRegs.refl h).level.level.level.level.level
theorem solLevels_onlyRegs (g : Nat) (h : Hw) : OnlyRegs h (solLevels g h) :=
  (OnlyRegs.forN fun _ x => (OnlyRegs.refl x).level.level).level.level.level.level
theorem parkLevels_onlyRegs (h : Hw) : OnlyRegs h (parkLevels h) := (OnlyRegs.refl h).level.level.level.level
theorem measLevels_onlyRegs (g : Nat) (h : Hw) : OnlyRegs h (measLevels g h) := (OnlyRegs.refl h).level.level.level
theorem canLevels_onlyRegs (n : Nat) (h : Hw) : OnlyRegs h (canLevels n h) := (OnlyRegs.refl h).level.level.level.level
theorem linLevels_onlyRegs (n : Nat) (h : Hw) : OnlyRegs h (linLevels n h) := (OnlyRegs.refl h).level.level
theorem ethLevels_onlyRegs (n : Nat) (h : Hw) : OnlyRegs h (ethLevels n h) := (OnlyRegs.refl h).level.level.level.level
theorem nscLevels_onlyRegs (h : Hw) : OnlyRegs h (nscLevels h) := (OnlyRegs.refl h).level.level.level.level
theorem stopLevel_onlyRegs (h : Hw) : OnlyRegs h (stopLevel h) := (OnlyRegs.refl h).level
theorem msgLevels_onlyRegs (h : Hw) : OnlyRegs h (msgLevels h) := (OnlyRegs.refl h).level.level
theorem accLevels_onlyRegs (h : Hw) : OnlyRegs h (accLevels h) := (OnlyRegs.refl h).level.level.level
theorem cryLevels_onlyRegs (h : Hw) : OnlyRegs h (cryLevels h) := (OnlyRegs.refl h).level
theorem bondLevels_onlyRegs (h : Hw) : OnlyRegs h (bondLevels h) := (OnlyRegs.refl h).level.level.level.level.level.level

/-- Bringing the level sources of a page up to date changes nothing but stored registers. -/
theorem relevel_onlyRegs (ty i : Nat) (h : Hw) : OnlyRegs h (relevel ty i h) := by
  have he : OnlyRegs h (errLevel h ty i) := (OnlyRegs.refl h).level
  unfold relevel
  generalize errLevel h ty i = x at he
  refine .ite he.level.level ?_
  refine .ite he.level.level ?_
  refine .ite (he.trans (hswLevels_onlyRegs i x)) ?_
  refine .ite (he.trans (hbrLevels_onlyRegs i x)) ?_
  refine .ite (he.trans (solLevels_onlyRegs i x)) ?_
  refine .ite ?_ ?_
  · split
    · exact he.level.trans (parkLevels_onlyRegs _)
    · exact he.level
  refine .ite (he.trans (measLevels_onlyRegs i x)) ?_
  refine .ite (he.trans (canLevels_onlyRegs i x)) ?_
  refine .ite (he.trans (linLevels_onlyRegs i x)) ?_
  refine .ite (he.trans (ethLevels_onlyRegs i x)) ?_
  refine .ite (he.trans (nscLevels_onlyRegs x)) ?_
  refine .ite (he.trans (stopLevel_onlyRegs x)) ?_
  refine .ite (he.trans (msgLevels_onlyRegs x)) ?_
  refine .ite (he.trans (accLevels_onlyRegs x)) ?_
  refine .ite (he.trans (cryLevels_onlyRegs x)) ?_
  exact .ite (he.trans (bondLevels_onlyRegs x)) he

/-! ## REGISTER_WRITE at a register of a page -/

theorem toNat_pageAddr {ty i off : Nat} (ht : ty < 0x100) (hi : i < 0x100) (ho : off < 0x1000) :
    (BitVec.ofNat 32 (pg ty i + off)).toNat = pg ty i + off := by
  have := pg_lt ht hi ho
  simp only [BitVec.toNat_ofNat]
  omega

/-- The parts of an access that finds its way, taken for one register of a page. -/
theorem reach_iff {h : Hw} {ini : Initiator} {ty i off : Nat} {wr : Bool} :
    reach h ini ty i off wr = true ↔ (pageDomain ty i).isSome = true ∧ iniLive h ini = true ∧ ungranted h ini (pg ty i + off) 4 wr = false ∧
      domOpen h 18 = true ∧ accessOpen h ini (pg ty i + off) = true := by
  simp [reach, and_assoc]

/-- The grants that cover an aligned 32-bit access cover every narrower one there. -/
theorem ungranted_narrow {h : Hw} {ini : Initiator} {a n : Nat} {wr : Bool} (h4 : a % 4 = 0) (hg : ungranted h ini a 4 wr = false) :
    ungranted h ini a n wr = false := by
  cases ini with
  | core c =>
    simp only [ungranted, h4, decide_true, Bool.true_and] at hg ⊢
    rw [hg, Bool.and_false]
  | _ => rfl

/-- A write of `n` bytes that finds its way is the write on the bus. -/
theorem access_write_reach {ini : Initiator} {ty i off n v : Nat} {m m1 : Mach} (hr : reach m.hw ini ty i off true = true) (h4 : off % 4 = 0)
    (hb : busWrite ini (pg ty i + off) n v m = .ok 0 m1) : access true ini (pg ty i + off) n v m = m1 := by
  obtain ⟨-, hl, hg, -, -⟩ := reach_iff.1 hr
  have ha : (pg ty i + off) % 4 = 0 := by unfold pg; omega
  simp [access, hl, ungranted_narrow ha hg, hb]

/-- Whether an access ends in a bus error depends on its width through the alignment alone (R32). -/
theorem busKind_narrow {a n k : Nat} {w : Bool} (h : busKind a k w = none) (hn : a % n = 0) : busKind a n w = none := by
  unfold busKind at *
  dsimp only at *
  split_ifs at h with h0 h1 h2 h3
  simp only [h0, h1, h3, hn, ne_eq, not_true_eq_false, if_false, Bool.false_eq_true]

/-- A bus write of at most 4 aligned bytes that finds its way to a page: one of all 4 writes the register, a narrower one is ignored and
sets WIDTH, and UNMAPPED where no register is (R33, R36). -/
theorem busWrite_page {ini : Initiator} {ty i off n v : Nat} {m : Mach} (ht : ty < 0x100) (hi : i < 0x100) (ho : off < 0x1000)
    (h4 : off % 4 = 0) (hn : n = 1 ∨ n = 2 ∨ n = 4) (hr : reach m.hw ini ty i off true = true) :
    busWrite ini (pg ty i + off) n v m = .ok 0 (if n = 4 then pageWrite ini ty i off (BitVec.ofNat 32 v) m
      else m.onHw (fun h => err (if (findReg ty i off).isNone then err h ty i 0 else h) ty i 1)) := by
  obtain ⟨hp, -, -, h18, ha⟩ := reach_iff.1 hr
  have hge : ¬ pg ty i + off < 0x40000000 := by have := pg_ge ty i off; omega
  have hk : busKind (pg ty i + off) n true = none := by
    refine busKind_narrow (busKind_pg true hp ht hi ho h4) ?_
    have ha : (pg ty i + off) % 4 = 0 := by unfold pg; omega
    rcases hn with rfl | rfl | rfl <;> omega
  have h4' : off / 4 * 4 = off := by omega
  rcases hn with rfl | rfl | rfl <;>
    simp [busWrite, h18, hk, splitWords, ha, hge, pageWrites, pg_type hi ho, pg_inst hi ho, pg_off ho, h4']

/-- REGISTER_WRITE of up to 4 bytes that finds its way to a page gives the change `f` that its bus write makes, where `f` leaves the
sequencer's change in progress alone. -/
theorem gives_registerWrite {ini : Initiator} {ty i off : Nat} {k : Fin 5} {v : Quad} {s : State} {f : Hw → Hw} (ht : ty < 0x100)
    (hi : i < 0x100) (ho : off < 0x1000) (h4 : off % 4 = 0) (hr : s.arrives ini ty i off = true)
    (hb : busWrite ini (pg ty i + off) (2 ^ k.val) v.toNat s.m = .ok 0 (s.m.onHw f)) (hf : (f s.m.hw).pwr = s.m.hw.pwr) :
    Gives (.registerWrite ini (BitVec.ofNat 32 (pg ty i + off)) k v) s f := by
  simp only [State.arrives, Bool.and_eq_true] at hr
  obtain ⟨hal, hr⟩ := hr
  have hx : exec (.registerWrite ini (BitVec.ofNat 32 (pg ty i + off)) k v) s =
      .next (s.run (access true ini (BitVec.ofNat 32 (pg ty i + off)).toNat (2 ^ k.val) v.toNat)) := rfl
  rw [Gives, hx, State.run_alive _ hal, toNat_pageAddr ht hi ho, access_write_reach hr h4 hb, proceed_same (by simp [hf])]
  rfl

/-- A write of all 32 bits: what it gives is what the page does with the word. -/
theorem gives_registerWrite_word {ini : Initiator} {ty i off : Nat} {v : Quad} {s : State} {f : Hw → Hw} (ht : ty < 0x100)
    (hi : i < 0x100) (ho : off < 0x1000) (h4 : off % 4 = 0) (hr : s.arrives ini ty i off = true)
    (hp : pageWrite ini ty i off (BitVec.ofNat 32 v.toNat) s.m = s.m.onHw f) (hf : (f s.m.hw).pwr = s.m.hw.pwr) :
    Gives (.registerWrite ini (BitVec.ofNat 32 (pg ty i + off)) 2 v) s f := by
  refine gives_registerWrite ht hi ho h4 hr ?_ hf
  simp only [State.arrives, Bool.and_eq_true] at hr
  rw [busWrite_page ht hi ho h4 (by decide) hr.2, ← hp]
  rfl

theorem plainWrite_pwr (ty i off : Nat) (r : Reg) (w : Word) (h : Hw) : (plainWrite ty i off r w h).pwr = h.pwr :=
  ((OnlyRegs.refl h).wr.trans (relevel_onlyRegs ty i _)).pwr

/-- Settles O5: the three clauses are the three outcomes of a bus write at a page (`busWrite_page`, `pageWrite`). -/
theorem registerWriteByAccessType : Obligations.RegisterWriteByAccessType := by
  refine ⟨?stored, ?unmapped, ?narrow⟩
  case stored =>
    intro ini ty i off r v s ht hi ho h4 hw hr hact
    obtain ⟨harr, hlock⟩ := Bool.and_eq_true_iff.1 hw
    exact gives_registerWrite_word ht hi ho h4 harr (pageWrite_plain hr hlock hact) (plainWrite_pwr ..)
  case unmapped =>
    intro ini ty i off v s ht hi ho h4 harr hr
    exact gives_registerWrite_word ht hi ho h4 harr (by simp [pageWrite, hr]) (err_pwr ..)
  case narrow =>
    intro ini ty i off k v r s ht hi ho h4 harr hr
    refine gives_registerWrite ht hi ho h4 harr ?_ (err_pwr ..)
    obtain ⟨-, hreach⟩ := Bool.and_eq_true_iff.1 harr
    have hk : 2 ^ k.val = 1 ∨ 2 ^ k.val = 2 := by
      revert k
      decide
    rw [Fin.val_castLE, busWrite_page ht hi ho h4 (by omega) hreach, if_neg (by omega)]
    simp [hr]

/-! ## The read commands of the counters -/

/-- A read of a register with RC bits answers its value and clears them (R5, R46); no such register lies below 0x048. -/
theorem pageRead_rc {ini : Initiator} {ty i off : Nat} {mask : Word} {m : Mach} (hf : (findReg ty i off).map Reg.rc = some mask)
    (hm : mask ≠ 0) (hlo : 0x048 ≤ off) :
    pageRead ini ty i off m = ((pageVal m ty i off).getD (rd m.hw ty i off).toNat,
      m.onHw (fun h => relevel ty i (wr h ty i off (rd h ty i off &&& ~~~mask)))) := by
  obtain ⟨r, hr, rfl⟩ := Option.map_eq_some_iff.1 hf
  have ht : off ≠ 0x044 := by omega
  have hev : ¬ (off = oRAW ∨ off = oSTAT) := by simp only [oRAW, oSTAT]; omega
  simp only [pageRead, hr, ht, hev, and_false, if_false, if_neg hm]

/-! The registers of an array of counters, and FEED_STAT, which lead pages alone have: their RC bits, and what a read of them finds beside the
stored bits. -/

theorem rc_refuseCnt : ∀ d : Fin 45, (findReg 2 0 (0x900 + 4 * d.val)).map Reg.rc = some 0xFFFF := by decide
theorem rc_crst : ∀ c : Fin 12, (findReg 1 0 (0x0A0 + 4 * c.val)).map Reg.rc = some 0xFF00 := by decide
theorem rc_feedStat : ∀ g : Fin 4, (findReg 0x10 (12 * g.val) 0x058).map Reg.rc = some 0xFFFF0000 := by decide
theorem rc_res (i : Nat) : ∀ k : Fin 48, (findReg 0x14 i (0x100 + 4 * k.val)).map Reg.rc = some 0x80000000 :=
  show ∀ k : Fin 48, (findReg 0x14 0 (0x100 + 4 * k.val)).map Reg.rc = some 0x80000000 by decide
theorem rc_qstat : ∀ q : Fin 64, (findReg 0x32 0 (0x800 + 4 * q.val)).map Reg.rc = some 0xFFFF0000 := by decide

theorem pageVal_refuseCnt (m : Mach) (d : Fin 45) : pageVal m 2 0 (0x900 + 4 * d.val) = none := by
  simp (disch := omega) [pageVal, pwrVal, if_neg, oPWR]
theorem pageVal_crst (m : Mach) (c : Fin 12) : pageVal m 1 0 (0x0A0 + 4 * c.val) = none := by
  simp (disch := omega) [pageVal, sysVal, if_neg, oPWR]
theorem pageVal_res (m : Mach) (i : Nat) (k : Fin 48) : pageVal m 0x14 i (0x100 + 4 * k.val) = none := by
  simp (disch := omega) [pageVal, measVal, if_neg, oPWR]
theorem pageVal_qstat (m : Mach) (q : Fin 64) :
    pageVal m 0x32 0 (0x800 + 4 * q.val) = some ((rd m.hw 0x32 0 (0x800 + 4 * q.val)).toNat + fill m.hw q.val) := by
  simp (disch := omega) [pageVal, msgVal, if_neg, oPWR]
  omega

theorem pageVal_feedStat (m : Mach) (g : Fin 4) :
    pageVal m 0x10 (12 * g.val) 0x058 = some ((rd m.hw 0x10 (12 * g.val) 0x058).toNat + feedStat m.hw g.val) := by
  simp [pageVal, hswVal]

/-- A read command of a register with RC bits gives `rcRead` of its value. -/
theorem gives_rcRead {c : Instr} {s : State} {ini : Initiator} {ty i off v : Nat} {mask : Word}
    (hx : exec c s = .next (s.run (pageGet ini ty i off))) (hr : s.reads ini ty i off = true)
    (hf : (findReg ty i off).map Reg.rc = some mask) (hv : (pageVal s.m ty i off).getD (rd s.m.hw ty i off).toNat = v)
    (hm : mask ≠ 0 := by decide) (ht : ty < 0x100 := by omega) (hi : i < 0x100 := by omega) (hlo : 0x048 ≤ off := by omega)
    (ho : off < 0x1000 := by omega) (h4 : off % 4 = 0 := by omega) : Gives c s (rcRead ty i off mask v) := by
  have hk : OnlyRegs s.m.hw (relevel ty i (wr s.m.hw ty i off (rd s.m.hw ty i off &&& ~~~mask))) :=
    (OnlyRegs.refl _).wr.trans (relevel_onlyRegs ty i _)
  rw [Gives, hx, run_read hr ht hi ho h4, pageRead_rc hf hm hlo, hv, proceed_same (by simp [hk.pwr])]
  rfl

/-- Settles O10: every one of the commands is a read of a register with RC bits, which gives `rcRead` of the value found there. -/
theorem countersClearOnRead : Obligations.CountersClearOnRead := by
  refine ⟨fun ini s => ⟨?refuseCnt, ?crst, ?_, ?_, ?_, ?feedStat, ?res, ?_, ?_, ?_, ?qstat⟩, fun ini s => ⟨?_, ?_, ?_, ?_, ?_, ?_, ?_, ?_, ?_, ?_⟩⟩
  case refuseCnt => exact fun d h => gives_rcRead rfl h (rc_refuseCnt d) (by rw [pageVal_refuseCnt]; rfl)
  case crst => exact fun c h => gives_rcRead rfl h (rc_crst c) (by rw [pageVal_crst]; rfl)
  case feedStat => exact fun g h => gives_rcRead rfl h (rc_feedStat g) (by rw [pageVal_feedStat]; rfl)
  case res => exact fun g k h => gives_rcRead rfl h (rc_res g k) (by rw [pageVal_res]; rfl)
  case qstat => exact fun q h => gives_rcRead rfl h (rc_qstat q) (by rw [pageVal_qstat]; rfl)
  -- The others lie at fixed offsets, where the register map and `pageVal` compute.
  all_goals
    intros
    exact gives_rcRead rfl (by assumption) rfl rfl

/-! ## The state after reset -/

theorem devRev_major : devRev / 256 % 256 = 1 := by
  have := Config.devMinor.isLt
  unfold devRev
  omega

/-- Settles O4: right after reset every map of the state is empty, so that each register and record reads its default. -/
theorem resetState : Obligations.ResetState := by
  have heth : ∀ n, n < 2 → ethMode State.reset.m.hw n = 0 ∧ (eth State.reset.m.hw n).tc = 2 := by decide
  refine ⟨rfl, rfl, rfl, rfl, rfl, rfl, ?domains, ?cores, ?registers, rfl, devRev_major, ?hsw, ?hbr, ?valves, ?can, ?lin, heth, rfl, rfl, ?contexts,
    ?dma, rfl, rfl⟩
  case domains => exact fun _ _ => ⟨rfl, rfl⟩
  case cores => exact fun _ _ => ⟨rfl, rfl⟩
  case registers => exact fun _ _ _ => rfl
  case hsw => exact fun _ _ => ⟨rfl, rfl⟩
  case hbr => exact fun _ _ => rfl
  case valves => exact fun _ _ _ _ => rfl
  case can => exact fun _ _ => ⟨rfl, rfl⟩
  case lin => exact fun _ _ => ⟨rfl, rfl⟩
  case contexts => exact fun _ _ => rfl
  case dma => exact fun _ _ => rfl

end Sys2Proof.Machine

/-! ## A step of the block as a whole -/

namespace Sys2Proof.Machine

/-- POWER_ON_RESET is the one command that also acts on a module without supply (R491, log entry 1). -/
theorem exec_powerOnReset (straps : Byte) (rail trimOk : Bool) (s : State) :
    exec (.powerOnReset straps rail trimOk) s = .next { s with m := powerReset straps rail trimOk s.m } := rfl

/-- Every command but POWER_ON_RESET is a change of the module lifted to the state, the same change in every state. -/
theorem exec_onM (c : Instr) (hc : ∀ straps rail trimOk, c ≠ .powerOnReset straps rail trimOk) :
    ∃ f : Mach → Mach, ∀ s, exec c s = .next (s.onM f) := by
  cases c with
  | powerOnReset straps rail trimOk => exact absurd rfl (hc straps rail trimOk)
  | _ => exact ⟨_, fun _ => rfl⟩

theorem State.onM_pending (f : Mach → Mach) (s : State) : (s.onM f).pending = s.pending := rfl

/-- Nothing acts on a module without supply (R633). -/
theorem State.onM_not_alive {s : State} (f : Mach → Mach) (h : s.alive = false) : s.onM f = s := by
  have hoff : s.m.hw.rst.off = true := by simpa [State.alive] using h
  simp [State.onM, hoff]

/-- Every command answers a next state whose queue of waiting commands is that of the state before. -/
theorem exec_keeps_pending (c : Instr) (s : State) : Answers c s (fun t => t.pending = s.pending) := by
  by_cases hc : ∃ straps rail trimOk, c = .powerOnReset straps rail trimOk
  · obtain ⟨straps, rail, trimOk, rfl⟩ := hc
    exact ⟨_, exec_powerOnReset straps rail trimOk s, rfl⟩
  · push Not at hc
    obtain ⟨f, hf⟩ := exec_onM c hc
    exact ⟨_, hf s, State.onM_pending f s⟩

theorem exec_not_alive {c : Instr} {s : State} (h : s.alive = false) (hc : ∀ straps rail trimOk, c ≠ .powerOnReset straps rail trimOk) :
    exec c s = .next s := by
  obtain ⟨f, hf⟩ := exec_onM c hc
  rw [hf, State.onM_not_alive f h]

theorem step_empty {s : State} (h : s.pending = []) : step s = .next (idle s) := by
  rw [step, h]

theorem idle_alive {s : State} (h : s.alive = true) : idle s = s.withHw (advance 1) := State.onHw_alive _ h

/-- What one microsecond changes in the blocks, with the state of PD18 written out (R13, R472, R456). -/
theorem advance_one (h : Hw) :
    advance 1 h = { h with
      now := h.now + 1
      timebase := if (dom h 18).state = .on then (h.timebase + 1) % 2 ^ 64 else h.timebase
      tbCopy := (h.tbCopy + 1) % 2 ^ 64
      pwr := { h.pwr with
        rtcFrac := (h.pwr.rtcFrac + 32768) % 1000000
        rtc := (h.pwr.rtc + (h.pwr.rtcFrac + 32768) / 1000000) % 2 ^ 48 } } := by
  simp only [advance, domOn, decide_eq_true_eq, Nat.one_mul]

/-- Settles O2: every command but POWER_ON_RESET is a lifted change of the module (`exec_onM`), which keeps the queue and leaves a module
without supply alone; the idle step is `advance 1`. -/
theorem blockSteps : Obligations.BlockSteps := by
  refine ⟨exec_keeps_pending, fun s hempty halive => ?idle, fun _ _ hdead hc => exec_not_alive hdead hc⟩
  case idle =>
    rw [step_empty hempty, idle_alive halive]
    simp only [State.withHw, advance_one]

end Sys2Proof.Machine

/-! ## The canonical form of the memory over every step -/

namespace Sys2Proof.Machine

/-- A command that changes the module by `f` answers a memory in canonical form where `f` does. -/
theorem Answers.memOk {c : Instr} {s : State} {f : Mach → Mach} (hx : exec c s = .next (s.onM f)) (hf : (f s.m).memOk = true)
    (h : s.m.memOk = true) : Answers c s (fun t => t.m.memOk = true) := by
  refine ⟨_, hx, ?_⟩
  unfold State.onM
  dsimp only
  split
  · exact h
  · exact hf

/-- The same of a command whose change `f` is a bus event that may count in the received-message digest (R582). -/
theorem Answers.memOk_digested {c : Instr} {s : State} {idx ty n : Nat} {f : Mach → Mach}
    (hx : exec c s = .next (s.run (busEvent (digested idx ty n f)))) (hf : (f s.m).memOk = true) (h : s.m.memOk = true) :
    Answers c s (fun t => t.m.memOk = true) :=
  .memOk hx (proceed_ok _ (busEvent_ok _ (digested_ok _ _ _ _ hf))) h

/-- What a bus event adds to its change leaves the memory alone. -/
theorem busEvent_memOk (f : Mach → Mach) (m : Mach) : (busEvent f m).memOk = (f m).memOk := Mach.onHw_memOk fsUpdate (f m)

/-- Every command keeps the canonical form: the operation of its row does, by its lemma of `MemOkA` … `MemOkC`. -/
theorem exec_memOk (c : Instr) {s : State} (h : s.m.memOk = true) : Answers c s (fun t => t.m.memOk = true) := by
  cases c with
  | powerOnReset straps rail trimOk => exact ⟨_, exec_powerOnReset straps rail trimOk s, powerReset_ok _ _ _ h⟩
  | canFrameReceived n f => exact .memOk_digested rfl (canReceive_ok _ _ h) h
  | linHeader n pid => exact .memOk_digested rfl (linHeader_ok _ _ h) h
  | linResponseTimeout n l => exact .memOk_digested rfl (linTimeout_ok _ _ h) h
  | linEntryComplete n l sum bitErr framing => exact .memOk_digested rfl (linComplete_ok _ _ _ _ _ h) h
  | linSyncFramingError f => exact .memOk_digested rfl (linSyncError_ok _ _ h) h
  | txdto n => exact .memOk_digested rfl (linTxdto_ok _ h) h
  | ethFrameReceived n l fcsOk full ns => exact .memOk_digested rfl (ethReceive_ok _ _ _ _ _ h) h
  | ethTxEnd n ns => exact .memOk_digested rfl (ethTxEnd_ok _ _ h) h
  | _ => exact .memOk rfl (by simp [busEvent_memOk, h]) h

theorem idle_memOk (s : State) : (idle s).m.memOk = s.m.memOk := by
  unfold idle State.onHw State.onM
  dsimp only
  split
  · rfl
  · exact Mach.onHw_memOk _ _

/-- Settles O3: a step is the idle microsecond, which leaves the memory alone, or the command in front, whose row keeps the form. -/
theorem memoryFormKept : Obligations.MemoryFormKept := by
  intro s t h ht
  cases hp : s.pending with
  | nil =>
    rw [step_empty hp] at ht
    cases ht
    rwa [idle_memOk]
  | cons c r =>
    obtain ⟨u, hu, hok⟩ := exec_memOk c (s := { s with pending := r }) h
    rw [step, hp] at ht
    cases hu.symm.trans ht
    exact hok

end Sys2Proof.Machine

/-! ## The calibration arithmetic (R62, R63) -/

namespace Sys2Proof.Machine

/-- A gain of 2^20 without offset leaves a value of the signed 24-bit range as it is. -/
theorem calStage_unity {v : Int} (hlo : -8388608 ≤ v) (hhi : v ≤ 8388607) : calStage v 1048576 0 = v := by
  unfold calStage sat24 clampInt
  split_ifs <;> omega

/-- The 24-bit field holds a value of the signed 24-bit range. -/
theorem sext_field24 {v : Int} (hlo : -8388608 ≤ v) (hhi : v ≤ 8388607) : sext 24 (field24 v) = v := by
  have hf : field24 v = if v < 0 then (v + 16777216).toNat else v.toNat := by
    unfold field24
    split <;> omega
  rw [hf]
  unfold sext
  dsimp only
  split_ifs <;> omega

/-- Settles O11: `calStage` is the saturated stage, with the floor division by 2^20 as its shift, and `overlay` two of them; the last clause is
`calStage_unity` twice and `sext_field24`. -/
theorem calibrationArithmetic : Obligations.CalibrationArithmetic := by
  refine ⟨fun _ _ _ _ _ => rfl, fun _ _ _ => rfl, fun v hlo hhi => ⟨?_, sext_field24 hlo hhi⟩⟩
  rw [overlay, calStage_unity hlo hhi, calStage_unity hlo hhi]

end Sys2Proof.Machine

/-! ## Page locks (R60) -/

namespace Sys2Proof.Machine

/-- PG_LOCK covers offset `off` of a page: the header's control registers, the staging area, and the live area where a task or
supervisor lock extends to it. -/
theorem lockCovers_iff {h : Hw} {ty i off : Nat} :
    lockCovers h ty i off = true ↔ off ∈ [oPWR, oCOMMIT, oEN, oSET, oROUTE, oLOCK] ∨ 0x400 ≤ off ∧ off < 0x800 ∨
      0x040 ≤ off ∧ off < 0x400 ∧ bit (rd h ty i oLOCK) 4 = true ∧ (fld (rd h ty i oLOCK) 0 2 = 1 ∨ fld (rd h ty i oLOCK) 0 2 = 2) := by
  simp [lockCovers, and_assoc, or_assoc]

/-- The initiator writes with the supervisor's right (R60). -/
def bySupervisor (h : Hw) (ini : Initiator) : Prop :=
  match ini with | .core c => (olk h c.val).sup = true | .debug => True | _ => False

/-- The initiator is task-mode code of the page's OWNER (R60). -/
def byOwner (h : Hw) (ini : Initiator) (ty i : Nat) : Prop :=
  match ini with
  | .core c => (olk h c.val).sup = false ∧ (olk h c.val).ctx = some (fld (rd h ty i oLOCK) 8 8)
  | _ => False

/-- The lock's mode accepts a write of offset `off` by the initiator (R60). -/
def modeAccepts (h : Hw) (ini : Initiator) (ty i off : Nat) : Prop :=
  fld (rd h ty i oLOCK) 0 2 = 0 ∨ fld (rd h ty i oLOCK) 0 2 = 1 ∧ bySupervisor h ini ∨
    fld (rd h ty i oLOCK) 0 2 = 2 ∧ (bySupervisor h ini ∨ byOwner h ini ty i ∧ off ≠ oLOCK)

theorem taskCtx_owner_iff {h : Hw} {ini : Initiator} {ty i : Nat} :
    taskCtx h ini = some (fld (rd h ty i oLOCK) 8 8) ↔ byOwner h ini ty i := by
  cases ini with
  | core c => cases hs : (olk h c.val).sup <;> simp [taskCtx, byOwner, hs]
  | _ => simp [taskCtx, byOwner]

/-- The supervisor's right as the lock computes it. -/
def supRight (h : Hw) (ini : Initiator) : Bool := match ini with | .core c => (olk h c.val).sup | .debug => true | _ => false

theorem supRight_iff {h : Hw} {ini : Initiator} : supRight h ini = true ↔ bySupervisor h ini := by
  cases ini <;> simp [supRight, bySupervisor]

theorem lockAllows_eq (h : Hw) (ini : Initiator) (ty i off : Nat) :
    lockAllows h ini ty i off =
      if lockCovers h ty i off then
        match fld (rd h ty i oLOCK) 0 2 with
        | 0 => true
        | 1 => supRight h ini
        | 2 => supRight h ini || (decide (off ≠ oLOCK) && decide (taskCtx h ini = some (fld (rd h ty i oLOCK) 8 8)))
        | _ => false
      else true := rfl

/-- The lock lets a write pass where it does not cover the register or its mode accepts the writer. -/
theorem lockAllows_iff {h : Hw} {ini : Initiator} {ty i off : Nat} :
    lockAllows h ini ty i off = true ↔ (lockCovers h ty i off = true → modeAccepts h ini ty i off) := by
  rw [lockAllows_eq, modeAccepts, ← taskCtx_owner_iff, ← supRight_iff]
  cases lockCovers h ty i off with
  | false => simp
  | true =>
    have hlt := fld_lt (rd h ty i oLOCK) 0 2
    generalize fld (rd h ty i oLOCK) 0 2 = mode at hlt
    match mode, hlt with
    | 0, _ => simp
    | 1, _ => simp
    | 2, _ => simp [and_comm]
    | 3, _ => simp

/-- Settles O6: a refused write sets LOCKED (`pageWrite`), an accepted one of a plain register stores (`pageWrite_plain`), and which of the two it
is, `lockAllows_iff` says. -/
theorem pageLocks : Obligations.PageLocks := by
  intro ini ty i off r v s ht hi ho h4 harr hr
  dsimp only
  refine ⟨fun hcov hno => ?refused, fun hacc => ?accepted⟩
  case refused =>
    have hlock : lockAllows s.m.hw ini ty i off = false :=
      Bool.eq_false_iff.2 fun hl => hno (lockAllows_iff.1 hl (lockCovers_iff.2 hcov))
    exact gives_registerWrite_word ht hi ho h4 harr (by simp [pageWrite, hr, hlock]) (err_pwr ..)
  case accepted =>
    have hlock : lockAllows s.m.hw ini ty i off = true := lockAllows_iff.2 fun hl => hacc (lockCovers_iff.1 hl)
    exact ⟨by simp [State.writes, harr, hlock],
      fun hact => gives_registerWrite_word ht hi ho h4 harr (pageWrite_plain hr hlock hact) (plainWrite_pwr ..)⟩

end Sys2Proof.Machine

/-! ## Sparse maps: parts of a map by their keys -/

namespace Sys2Proof.Machine

section
variable {α : Type}

theorem smGet_append (d : α) (l r : List (Nat × α)) (k : Nat) : smGet d (l ++ r) k = smGet (smGet d r k) l k := by
  induction l with
  | nil => rfl
  | cons e l ih =>
    obtain ⟨j, v⟩ := e
    by_cases hj : j = k <;> simp [smGet, hj, ih]

theorem smGet_filter_key (d : α) (p : Nat → Prop) [DecidablePred p] (m : List (Nat × α)) (k : Nat) :
    smGet d (m.filter (fun e => decide (p e.1))) k = if p k then smGet d m k else d := by
  induction m with
  | nil => simp [smGet]
  | cons e m ih =>
    obtain ⟨j, v⟩ := e
    by_cases hj : j = k
    · subst hj
      by_cases hp : p j <;> simp [hp, smGet, ih]
    · by_cases hp : p j <;> simp [hp, smGet, ih, hj]

/-- After a copy of the keys `lo ≤ k < hi` those read as in the source, the others as before. -/
theorem smGet_smCopyRange (d : α) {lo hi : Nat} (h : lo ≤ hi) (src dst : List (Nat × α)) (k : Nat) :
    smGet d (smCopyRange lo hi src dst) k = if lo ≤ k ∧ k < hi then smGet d src k else smGet d dst k := by
  simp only [smCopyRange, smGet_append, smGet_filter_key _ (· < lo), smGet_filter_key _ (fun k => lo ≤ k ∧ k < hi),
    smGet_filter_key _ (hi ≤ ·)]
  by_cases hl : k < lo
  · simp [hl, show ¬ lo ≤ k by omega, show ¬ hi ≤ k by omega]
  · by_cases hh : k < hi
    · simp [hl, hh, show lo ≤ k by omega, show ¬ hi ≤ k by omega]
    · simp [hl, hh, show hi ≤ k by omega]

theorem filter_smIns (p : Nat → Prop) [DecidablePred p] {k : Nat} (hk : ¬ p k) (v : α) (m : List (Nat × α)) :
    (smIns k v m).filter (fun e => decide (p e.1)) = m.filter (fun e => decide (p e.1)) := by
  induction m with
  | nil => simp [smIns, hk]
  | cons e m ih =>
    obtain ⟨j, w⟩ := e
    simp only [smIns]
    split_ifs with hlt hj
    · simp [List.filter_cons, hk]
    · simp [hk, hj]
    · simp [List.filter_cons, ih]

/-- A write leaves every part of the map alone that its key is not in. -/
theorem filter_smPut [DecidableEq α] (p : Nat → Prop) [DecidablePred p] {k : Nat} (hk : ¬ p k) (d v : α) (m : List (Nat × α)) :
    (smPut d k v m).filter (fun e => decide (p e.1)) = m.filter (fun e => decide (p e.1)) := by
  unfold smPut
  split
  · rw [smErase, List.filter_filter]
    refine List.filter_congr fun e _ => ?_
    by_cases he : e.1 = k <;> simp [he, hk]
  · exact filter_smIns p hk v m

end

end Sys2Proof.Machine

/-! ## Level sources: which registers they touch -/

namespace Sys2Proof.Machine

theorem pgOff_pg (ty i off : Nat) : (pg ty i + off) % 0x1000 = off % 0x1000 := by
  unfold pg
  omega

theorem rdA_wr {h : Hw} {ty i off a : Nat} {v : Word} (ha : a % 0x1000 ≠ off % 0x1000) : rdA (wr h ty i off v) a = rdA h a :=
  rdA_wrA_ne h v fun e => ha (by rw [e, pgOff_pg])

theorem rdA_pulse {h : Hw} {ty i n a : Nat} (hstat : a % 0x1000 ≠ oSTAT) : rdA (pulse h ty i n) a = rdA h a := by
  unfold pulse
  split
  · exact rdA_wr hstat
  · rfl

theorem rdA_level {h : Hw} {ty i n a : Nat} {b : Bool} (hraw : a % 0x1000 ≠ oRAW) (hstat : a % 0x1000 ≠ oSTAT) :
    rdA (level h ty i n b) a = rdA h a := by
  unfold level
  dsimp only
  split
  · split
    · rw [rdA_pulse hstat, rdA_wr hraw]
    · exact rdA_wr hraw
  · rfl

/-- From `h` to `h'` event sources take levels, one after another. -/
inductive Leveled (h : Hw) : Hw → Prop where
  | refl : Leveled h h
  | level {x : Hw} (ty i n : Nat) (b : Bool) (e : Leveled h x) : Leveled h (level x ty i n b)

namespace Leveled

theorem ite {h x y : Hw} {c : Prop} [Decidable c] (ex : Leveled h x) (ey : Leveled h y) : Leveled h (if c then x else y) := by
  split
  · exact ex
  · exact ey

theorem trans {h x y : Hw} (e : Leveled h x) (e' : Leveled x y) : Leveled h y := by
  induction e' with
  | refl => exact e
  | level ty i n b _ ih => exact ih.level ty i n b

theorem forN {f : Nat → Hw → Hw} {n : Nat} {h : Hw} (hf : ∀ i x, Leveled x (f i x)) : Leveled h (forN n f h) := by
  unfold Machine.forN
  generalize List.range n = l
  induction l generalizing h with
  | nil => exact refl
  | cons i l ih => exact (hf i h).trans ih

/-- No register changes but EV_RAW and EV_STAT of pages. -/
theorem rdA {h x : Hw} (e : Leveled h x) {a : Nat} (hraw : a % 0x1000 ≠ oRAW) (hstat : a % 0x1000 ≠ oSTAT) :
    Machine.rdA x a = Machine.rdA h a := by
  induction e with
  | refl => rfl
  | level ty i n b _ ih => rw [rdA_level hraw hstat, ih]

theorem onlyRegs {h x : Hw} (e : Leveled h x) : OnlyRegs h x := by
  induction e with
  | refl => exact OnlyRegs.refl h
  | level _ _ _ _ _ ih => exact ih.level

end Leveled

theorem msgLevels_leveled (h : Hw) : Leveled h (msgLevels h) := Leveled.refl.level .. |>.level ..
theorem stopLevel_leveled (h : Hw) : Leveled h (stopLevel h) := Leveled.refl.level ..
theorem linLevels_leveled (n : Nat) (h : Hw) : Leveled h (linLevels n h) := Leveled.refl.level .. |>.level ..
theorem nscLevels_leveled (h : Hw) : Leveled h (nscLevels h) := Leveled.refl.level .. |>.level .. |>.level .. |>.level ..
theorem bondLevels_leveled (h : Hw) : Leveled h (bondLevels h) :=
  Leveled.refl.level .. |>.level .. |>.level .. |>.level .. |>.level .. |>.level ..

/-- Bringing the level sources of a page up to date gives event sources levels and does nothing else. -/
theorem relevel_leveled (ty i : Nat) (h : Hw) : Leveled h (relevel ty i h) := by
  have he : Leveled h (errLevel h ty i) := Leveled.refl.level ..
  unfold relevel
  generalize errLevel h ty i = x at he
  refine .ite (he.level .. |>.level ..) ?_
  refine .ite (he.level .. |>.level ..) ?_
  refine .ite (he.level .. |>.level .. |>.level .. |>.level .. |>.level .. |>.level .. |>.level ..) ?_
  refine .ite (he.level .. |>.level .. |>.level .. |>.level .. |>.level ..) ?_
  refine .ite ((he.trans (.forN fun _ _ => Leveled.refl.level .. |>.level ..)).level .. |>.level .. |>.level .. |>.level ..) ?_
  refine .ite ?park ?_
  case park =>
    split
    · exact he.level .. |>.level .. |>.level .. |>.level .. |>.level ..
    · exact he.level ..
  refine .ite (he.level .. |>.level .. |>.level ..) ?_
  refine .ite (he.level .. |>.level .. |>.level .. |>.level ..) ?_
  refine .ite (he.trans (linLevels_leveled i x)) ?_
  refine .ite (he.level .. |>.level .. |>.level .. |>.level ..) ?_
  refine .ite (he.trans (nscLevels_leveled x)) ?_
  refine .ite (he.trans (stopLevel_leveled x)) ?_
  refine .ite (he.trans (msgLevels_leveled x)) ?_
  refine .ite (he.level .. |>.level .. |>.level ..) ?_
  refine .ite (he.level ..) ?_
  exact .ite (he.trans (bondLevels_leveled x)) he

end Sys2Proof.Machine

/-! ## What the hooks of a commit leave alone -/

namespace Sys2Proof.Machine

/-- From `h` to `h'` the applied configuration, the straps, the sequencer and the PG_COMMIT registers stay. -/
structure CommitKept (h h' : Hw) : Prop where
  applied : h'.applied = h.applied
  straps : h'.straps = h.straps
  pwr : h'.pwr = h.pwr
  commit : ∀ a, a % 0x1000 = oCOMMIT → rdA h' a = rdA h a

namespace CommitKept

/-- A change of records beside the registers, the applied configuration, the straps and the sequencer. -/
theorem record {h h' : Hw} (ha : h'.applied = h.applied := by rfl) (hs : h'.straps = h.straps := by rfl) (hp : h'.pwr = h.pwr := by rfl)
    (hr : h'.regs = h.regs := by rfl) : CommitKept h h' :=
  ⟨ha, hs, hp, fun a _ => by simp only [rdA, hr, hs]⟩

theorem refl (h : Hw) : CommitKept h h := record

theorem trans {h x y : Hw} (e : CommitKept h x) (e' : CommitKept x y) : CommitKept h y :=
  ⟨e'.applied.trans e.applied, e'.straps.trans e.straps, e'.pwr.trans e.pwr, fun a ha => (e'.commit a ha).trans (e.commit a ha)⟩

theorem ite {h x y : Hw} {c : Prop} [Decidable c] (ex : CommitKept h x) (ey : CommitKept h y) : CommitKept h (if c then x else y) := by
  split
  · exact ex
  · exact ey

theorem forN {f : Nat → Hw → Hw} {n : Nat} {h : Hw} (hf : ∀ i x, CommitKept x (f i x)) : CommitKept h (forN n f h) := by
  unfold Machine.forN
  generalize List.range n = l
  induction l generalizing h with
  | nil => exact refl h
  | cons i l ih => exact (hf i h).trans ih

theorem wr (h : Hw) (ty i off : Nat) (v : Word) (ho : off % 0x1000 ≠ oCOMMIT := by decide) : CommitKept h (wr h ty i off v) :=
  ⟨wr_applied .., wr_straps .., wr_pwr .., fun _ ha => rdA_wr (ha.trans_ne ho.symm)⟩

theorem pulse (h : Hw) (ty i n : Nat) : CommitKept h (pulse h ty i n) := ite (wr ..) (refl h)

theorem leveled {h x : Hw} (e : Leveled h x) : CommitKept h x := by
  have hr := e.onlyRegs
  refine ⟨?_, ?_, hr.pwr, fun a ha => e.rdA (by rw [ha]; decide) (by rw [ha]; decide)⟩ <;> rw [hr]

theorem setCtx (h : Hw) (n : Nat) (r : Ctx) : CommitKept h (setCtx h n r) := trans record (leveled (stopLevel_leveled _))
theorem setLin (h : Hw) (n : Nat) (r : LinCh) : CommitKept h (setLin h n r) := trans record (leveled (linLevels_leveled ..))
theorem setNsc (h : Hw) (r : Nsc) : CommitKept h (setNsc h r) := trans record (leveled (nscLevels_leveled _))
theorem setBond (h : Hw) (b : Bond) : CommitKept h (setBond h b) := trans record (leveled (bondLevels_leveled _))
theorem freeOwned (own : Owner) (h : Hw) : CommitKept h (freeOwned own h) := trans record (leveled (msgLevels_leveled _))

theorem fsUpdate (h : Hw) : CommitKept h (fsUpdate h) := by
  refine ite ?_ record
  split
  · exact refl h
  · exact record

theorem nscCommit (h : Hw) : CommitKept h (nscCommit h) := ite (ite ((wr ..).trans (setNsc ..)) (refl h)) (setNsc ..)

theorem idleCauses (n : Nat) (h : Hw) : CommitKept h (idleCauses n h) := by
  refine ite ?_ (refl h)
  unfold nextAct
  dsimp only
  split
  · exact setCtx ..
  · exact refl h

theorem markStill (h : Hw) : CommitKept h (markStill h) := by
  unfold Machine.markStill
  split
  · exact ite record (refl h)
  · exact refl h

theorem winDisabled (g : Nat) (h : Hw) : CommitKept h (winDisabled g h) := by
  unfold Machine.winDisabled
  split
  · refine ite ?_ (refl h)
    unfold winAbort
    dsimp only
    split
    · exact record
    · exact (record (h' := setMeas ..)).trans ((wr ..).trans (pulse ..))
    · exact refl h
  · exact refl h

theorem capCommit (h : Hw) : CommitKept h (capCommit h) := forN fun _ x => ite (refl x) record

theorem relead (h : Hw) : CommitKept h (relead h) :=
  ite (setBond ..) ((ite (wr ..) (refl h)).trans ((setBond ..).trans (pulse ..)))

theorem aloneSplit (h : Hw) : CommitKept h (aloneSplit h) := ite ((setBond ..).trans (pulse ..)) (refl h)

theorem bondCommit (old h : Hw) : CommitKept h (bondCommit old h) := by
  unfold Machine.bondCommit
  extract_lets en enWas b0 h1 pen penWas b1 b
  have hlink : CommitKept h h1 :=
    ite (trans (wr h 0x50 0 0x04C 0) (setBond ..)) (ite (trans (wr h 0x50 0 0x04C 0) (setBond ..)) (relead h))
  clear_value h1
  refine hlink.trans (ite (ite ?_ ((setBond ..).trans (aloneSplit _))) (ite (setBond ..) (refl _)))
  exact trans record (setBond ..)

/-- What the blocks do at a commit of their page touches neither the applied configuration nor a PG_COMMIT register. -/
theorem commitHook (ty i : Nat) (imm : Bool) (old h : Hw) : CommitKept h (commitHook ty i imm old h) := by
  unfold Machine.commitHook
  refine ite (forN fun _ x => ite record (refl x)) ?_
  refine ite (capCommit h) ?_
  refine ite (ite ((ite (refl h) (markStill h)).trans (forN idleCauses)) (refl h)) ?_
  refine ite (ite (winDisabled i h) (refl h)) ?_
  refine ite (setLin ..) ?_
  refine ite ((nscCommit h).trans (fsUpdate _)) ?_
  refine ite ?msg ?_
  case msg =>
    have hq : CommitKept h (Machine.forN 64 (fun q x => if qEn old q && !qEn x q then setQueue (Machine.freeOwned (.queue q) x) q [] else x) h) :=
      forN fun q x => ite ((freeOwned (.queue q) x).trans record) (refl x)
    exact ite (hq.trans (forN idleCauses)) hq
  exact ite (bondCommit old h) (refl h)

theorem holdSet (ty i : Nat) (l : Option (List (Nat × Word))) (h : Hw) : CommitKept h (holdSet ty i l h) :=
  ite record (ite record (refl h))

theorem relevel (ty i : Nat) (h : Hw) : CommitKept h (relevel ty i h) := leveled (relevel_leveled ty i h)

theorem cfgA {h x : Hw} (e : CommitKept h x) (a : Nat) : Machine.cfgA x a = Machine.cfgA h a := by
  rw [Machine.cfgA, Machine.cfgA, e.applied, e.straps]

theorem rd {h x : Hw} (e : CommitKept h x) (ty i : Nat) : rd x ty i oCOMMIT = rd h ty i oCOMMIT :=
  e.commit _ (pgOff_pg ty i oCOMMIT)

end CommitKept

end Sys2Proof.Machine

/-! ## Applying the staging area of a page (R49 … R51) -/

namespace Sys2Proof.Machine

theorem rd_wrF_same (h : Hw) (ty i off lo n v : Nat) : rd (wrF h ty i off lo n v) ty i off = setFld (rd h ty i off) lo n v :=
  rd_wr_same ..

/-- The staged set holds what the stored registers of the staging area hold. -/
theorem smGet_stagedSet (h : Hw) (d : Word) {ty i a : Nat} (ha : pg ty i + 0x400 ≤ a ∧ a < pg ty i + 0x800) :
    smGet d (stagedSet h ty i) a = smGet d h.regs a := by
  rw [stagedSet, smGet_filter_key d (fun a => pg ty i + 0x400 ≤ a ∧ a < pg ty i + 0x800), if_pos ha]

/-- A write below the staging area stages nothing. -/
theorem stagedSet_wr (h : Hw) {ty i off : Nat} (v : Word) (ho : off < 0x400) : stagedSet (wr h ty i off v) ty i = stagedSet h ty i :=
  filter_smPut (fun a => pg ty i + 0x400 ≤ a ∧ a < pg ty i + 0x800) (by omega) ..

/-- PEND of the page clears, and with an immediate commit ARMED (R49). -/
def clearMarks (ty i : Nat) (imm : Bool) (h : Hw) : Hw :=
  if imm then wrF (wrF h ty i oCOMMIT 8 1 0) ty i oCOMMIT 9 1 0 else wrF h ty i oCOMMIT 8 1 0

section
variable (ty i : Nat) (imm : Bool) (h : Hw)

theorem stagedSet_clearMarks : stagedSet (clearMarks ty i imm h) ty i = stagedSet h ty i := by
  unfold clearMarks
  split <;> simp only [wrF, stagedSet_wr _ _ (show oCOMMIT < 0x400 by decide)]

theorem cfgA_clearMarks (a : Nat) : cfgA (clearMarks ty i imm h) a = cfgA h a := by
  unfold clearMarks
  split <;> simp [cfgA]

theorem clearMarks_straps : (clearMarks ty i imm h).straps = h.straps := by
  unfold clearMarks
  split <;> simp

theorem clearMarks_pwr : (clearMarks ty i imm h).pwr = h.pwr := by
  unfold clearMarks
  split <;> simp

theorem bit_pend_clearMarks : bit (rd (clearMarks ty i imm h) ty i oCOMMIT) 8 = false := by
  have hpend : bit (setFld (rd h ty i oCOMMIT) 8 1 0) 8 = false := bit_setBit_same _ false (by decide)
  unfold clearMarks
  split
  · rw [rd_wrF_same, rd_wrF_same, bit_setFld_ne _ (by decide), hpend]
  · rw [rd_wrF_same, hpend]

theorem fld_ccount_clearMarks : fld (rd (clearMarks ty i imm h) ty i oCOMMIT) 16 8 = fld (rd h ty i oCOMMIT) 16 8 := by
  unfold clearMarks
  split <;> simp only [rd_wrF_same, fld_setFld_ne _ _ (show 16 + 8 ≤ 8 ∨ 8 + 1 ≤ 16 by decide),
    fld_setFld_ne _ _ (show 16 + 8 ≤ 9 ∨ 9 + 1 ≤ 16 by decide)]

/-- A commit that waits clears the marks and keeps the staged set. -/
theorem applyPage_waits (hw : commitWaits ty i h = true) :
    applyPage ty i imm h = holdSet ty i (some (stagedSet h ty i)) (clearMarks ty i imm h) := by
  rw [← stagedSet_clearMarks ty i imm h]
  exact if_pos hw

/-- A commit that does not wait clears the marks and makes the staged set the applied configuration; the rest is what `CommitKept` lets change. -/
theorem applyPage_applies (hw : commitWaits ty i h = false) :
    CommitKept (applySet ty i (stagedSet h ty i) (clearMarks ty i imm h)) (applyPage ty i imm h) := by
  have he : applyPage ty i imm h = relevel ty i (commitHook ty i imm h (holdSet ty i none
      (applySet ty i (stagedSet (clearMarks ty i imm h) ty i) (clearMarks ty i imm h)))) := if_neg (by simp [hw])
  rw [he, stagedSet_clearMarks]
  exact (CommitKept.holdSet ..).trans ((CommitKept.commitHook ..).trans (CommitKept.relevel ..))

theorem applyPage_pwr : (applyPage ty i imm h).pwr = h.pwr := by
  cases hw : commitWaits ty i h with
  | true => rw [applyPage_waits ty i imm h hw, (CommitKept.holdSet ..).pwr, clearMarks_pwr]
  | false => rw [(applyPage_applies ty i imm h hw).pwr, applySet, incWrap_pwr, clearMarks_pwr]

end

/-- The applied configuration after a set is applied: the set's values in the page's staging area, the old ones elsewhere. -/
theorem cfgA_applySet (ty i : Nat) (l : List (Nat × Word)) (h : Hw) (a : Nat) :
    cfgA (applySet ty i l h) a =
      if pg ty i + 0x400 ≤ a ∧ a < pg ty i + 0x800 then smGet (regReset h.straps a) l a else cfgA h a := by
  simp only [applySet, cfgA, incWrap_applied, incWrap_straps, smGet_smCopyRange _ (show pg ty i + 0x400 ≤ pg ty i + 0x800 by omega)]

/-- PG_COMMIT after a set is applied: CCOUNT alone advances (R50). -/
theorem rd_commit_applySet (ty i : Nat) (l : List (Nat × Word)) (h : Hw) :
    rd (applySet ty i l h) ty i oCOMMIT = setFld (rd h ty i oCOMMIT) 16 8 (fld (rd h ty i oCOMMIT) 16 8 + 1) := rd_wrF_same ..

/-- PEND clears, whether the commit waits or not. -/
theorem bit_pend_applyPage (ty i : Nat) (imm : Bool) (h : Hw) : bit (rd (applyPage ty i imm h) ty i oCOMMIT) 8 = false := by
  cases hw : commitWaits ty i h with
  | true => rw [applyPage_waits ty i imm h hw, (CommitKept.holdSet ..).rd, bit_pend_clearMarks]
  | false =>
    rw [(applyPage_applies ty i imm h hw).rd, rd_commit_applySet, bit_setFld_ne _ (by decide), bit_pend_clearMarks]

theorem cfg_applyPage {ty i : Nat} {h : Hw} (imm : Bool) (hw : commitWaits ty i h = false) {off : Nat} (hlo : 0x400 ≤ off)
    (hhi : off < 0x800) : cfg (applyPage ty i imm h) ty i off = rd h ty i off := by
  have ha : pg ty i + 0x400 ≤ pg ty i + off ∧ pg ty i + off < pg ty i + 0x800 := by omega
  rw [cfg, (applyPage_applies ty i imm h hw).cfgA, cfgA_applySet, if_pos ha, smGet_stagedSet h _ ha, clearMarks_straps]
  rfl

theorem cfgA_applyPage_out {ty i : Nat} {h : Hw} (imm : Bool) (hw : commitWaits ty i h = false) {a : Nat}
    (ha : a < pg ty i + 0x400 ∨ pg ty i + 0x800 ≤ a) : cfgA (applyPage ty i imm h) a = cfgA h a := by
  rw [(applyPage_applies ty i imm h hw).cfgA, cfgA_applySet, if_neg (by omega), cfgA_clearMarks]

theorem fld_ccount_applyPage {ty i : Nat} {h : Hw} (imm : Bool) (hw : commitWaits ty i h = false) :
    fld (rd (applyPage ty i imm h) ty i oCOMMIT) 16 8 = (fld (rd h ty i oCOMMIT) 16 8 + 1) % 256 := by
  rw [(applyPage_applies ty i imm h hw).rd, rd_commit_applySet, fld_setFld_same _ _ (by decide), fld_ccount_clearMarks]
  rfl

/-! ## GROUP_COMMIT (R53) -/

/-- One page of a group commit: where it is armed and its domain ON, ARMED becomes PEND. -/
def promote (p : Nat × Nat) (h : Hw) : Hw :=
  if bit (rd h p.1 p.2 oCOMMIT) 9 && pageOn h p.1 p.2 then wrF h p.1 p.2 oCOMMIT 8 2 1 else h

/-- PG_COMMIT of page (`ty`, `i`) after a group commit. -/
def promoted (h : Hw) (ty i : Nat) : Word :=
  if bit (rd h ty i oCOMMIT) 9 = true ∧ pageOn h ty i = true then setFld (rd h ty i oCOMMIT) 8 2 1 else rd h ty i oCOMMIT

/-- Every populated page. -/
def pageList : List (Nat × Nat) := pageTypes.flatMap (fun e => (List.range e.2).map (fun i => (e.1, i)))

theorem mem_pageList {ty i : Nat} : (ty, i) ∈ pageList ↔ ∃ e ∈ pageTypes, i < e.2 ∧ ty = e.1 := by
  simp [pageList]

theorem inst_lt_of_mem {q : Nat × Nat} (hq : q ∈ pageList) : q.2 < 0x100 := by
  have hcount : ∀ e ∈ pageTypes, e.2 ≤ 0x100 := by decide
  obtain ⟨e, he, hi, -⟩ := mem_pageList.1 hq
  exact lt_of_lt_of_le hi (hcount e he)

theorem groupCommit_eq (h : Hw) : groupCommit h = pageList.foldl (fun x p => promote p x) h := by
  simp only [groupCommit, forPages, forL, forN, pageList, List.foldl_flatMap, List.foldl_map]
  rfl

theorem promote_onlyRegs (p : Nat × Nat) (h : Hw) : OnlyRegs h (promote p h) := OnlyRegs.ite (OnlyRegs.refl h).wr (OnlyRegs.refl h)

theorem pageOn_promote (p : Nat × Nat) (h : Hw) (ty i : Nat) : pageOn (promote p h) ty i = pageOn h ty i :=
  pageOn_congr ty i (by rw [promote_onlyRegs p h])

theorem rd_promote_same (ty i : Nat) (h : Hw) : rd (promote (ty, i) h) ty i oCOMMIT = promoted h ty i := by
  unfold promote promoted
  simp only [Bool.and_eq_true]
  split
  · exact rd_wrF_same ..
  · rfl

theorem rdA_promote_ne (p : Nat × Nat) (h : Hw) {a : Nat} (ha : a ≠ pg p.1 p.2 + oCOMMIT) : rdA (promote p h) a = rdA h a := by
  unfold promote
  split
  · exact rdA_wrA_ne h _ ha
  · rfl

theorem bit_armed_pended (w : Word) : bit (setFld w 8 2 1) 9 = false := by
  rw [bit, getLsbD_setFld, if_pos (by decide)]
  rfl

/-- A page that was promoted is armed no more, so that it would not be promoted again. -/
theorem promoted_promote (ty i : Nat) (h : Hw) : promoted (promote (ty, i) h) ty i = promoted h ty i := by
  rw [promoted, rd_promote_same, pageOn_promote]
  by_cases harm : bit (rd h ty i oCOMMIT) 9 = true ∧ pageOn h ty i = true
  · simp [promoted, harm, bit_armed_pended]
  · simp [promoted, harm]

theorem pg_inj {ty i ty' i' off : Nat} (hi : i < 0x100) (hi' : i' < 0x100) (h : pg ty i + off = pg ty' i' + off) : (ty, i) = (ty', i') := by
  unfold pg at h
  rw [Prod.mk.injEq]
  omega

/-- The pages of a list are promoted each on its own: none shares its PG_COMMIT with another. -/
theorem rd_foldl_promote {l : List (Nat × Nat)} (hl : ∀ q ∈ l, q.2 < 0x100) {ty i : Nat} (hi : i < 0x100) (h : Hw) :
    rd (l.foldl (fun x p => promote p x) h) ty i oCOMMIT = if (ty, i) ∈ l then promoted h ty i else rd h ty i oCOMMIT := by
  induction l generalizing h with
  | nil => simp
  | cons q l ih =>
    rw [List.foldl_cons, ih fun p hp => hl p (List.mem_cons_of_mem _ hp)]
    by_cases hq : (ty, i) = q
    · subst hq
      simp [promoted_promote, rd_promote_same]
    · have hne : pg ty i + oCOMMIT ≠ pg q.1 q.2 + oCOMMIT := fun e => hq (pg_inj hi (hl q List.mem_cons_self) e)
      have hrd : rd (promote q h) ty i oCOMMIT = rd h ty i oCOMMIT := rdA_promote_ne q h hne
      simp only [promoted, hrd, pageOn_promote, List.mem_cons, hq, false_or]

theorem rdA_foldl_promote_ne {l : List (Nat × Nat)} {a : Nat} (ha : ∀ q ∈ l, a ≠ pg q.1 q.2 + oCOMMIT) (h : Hw) :
    rdA (l.foldl (fun x p => promote p x) h) a = rdA h a := by
  induction l generalizing h with
  | nil => rfl
  | cons q l ih =>
    rw [List.foldl_cons, ih fun p hp => ha p (List.mem_cons_of_mem _ hp), rdA_promote_ne q h (ha q List.mem_cons_self)]

theorem groupCommit_onlyRegs (h : Hw) : OnlyRegs h (groupCommit h) := by
  rw [groupCommit_eq]
  generalize pageList = l
  induction l generalizing h with
  | nil => exact OnlyRegs.refl h
  | cons q l ih => exact (promote_onlyRegs q h).trans (ih _)

/-- GROUP_COMMIT promotes every populated page. -/
theorem rd_groupCommit (h : Hw) {ty i : Nat} (hp : (ty, i) ∈ pageList) : rd (groupCommit h) ty i oCOMMIT = promoted h ty i := by
  rw [groupCommit_eq, rd_foldl_promote (fun _ => inst_lt_of_mem) (inst_lt_of_mem hp), if_pos hp]

theorem rdA_groupCommit_ne (h : Hw) {a : Nat} (ha : ∀ q ∈ pageList, a ≠ pg q.1 q.2 + oCOMMIT) : rdA (groupCommit h) a = rdA h a := by
  rw [groupCommit_eq, rdA_foldl_promote_ne ha]

/-! ## The commands of the commit register and of the event sources -/

/-- A write command of PG_COMMIT gives what its code does, where that leaves the sequencer alone. -/
theorem gives_commitCode {c : Instr} {s : State} {ini : Initiator} {ty inst : Byte} {w : Word} {f : Hw → Hw}
    (hx : exec c s = .next (s.run (pageCmd ini ty.toNat inst.toNat oCOMMIT w)))
    (hw : s.writes ini ty.toNat inst.toNat oCOMMIT = true)
    (hc : commitCode ty.toNat inst.toNat (fld w 0 3) s.m.hw = f s.m.hw) (hp : (f s.m.hw).pwr = s.m.hw.pwr) : Gives c s f :=
  gives_write hx hw rfl (by rw [hc, hp]) hc ty.isLt inst.isLt

/-- The pages on which an immediate commit acts as a boundary commit (R52). -/
theorem driver_toNat_iff {ty : Byte} : (ty.toNat = 0x10 ∨ ty.toNat = 0x11 ∨ ty.toNat = 0x12) ↔ (ty = 0x10 ∨ ty = 0x11 ∨ ty = 0x12) := by
  simp [BitVec.toNat_eq]

theorem gives_commitBoundary {ini : Initiator} {ty inst : Byte} {s : State} (hw : s.writes ini ty.toNat inst.toNat oCOMMIT = true) :
    Gives (.commitBoundary ini ty inst) s (fun h => wrF h ty.toNat inst.toNat oCOMMIT 8 1 1) :=
  gives_commitCode rfl hw rfl (wrF_pwr ..)

/-- Settles O9: the commit codes 0b001 and 0b010 of a driver page. -/
theorem immediateCommitDeferred : Obligations.ImmediateCommitDeferred := fun ini ty inst s hty hw =>
  ⟨gives_commitBoundary hw, gives_commitCode rfl hw (if_pos (driver_toNat_iff.2 hty)) (by rw [err_pwr, wrF_pwr])⟩

theorem commitCode_reserved (ty i : Nat) (h : Hw) {code : BitVec 3} (hc : 6 ≤ code.toNat) :
    commitCode ty i (fld (BitVec.ofNat 32 code.toNat) 0 3) h = err h ty i 3 := by
  have hcode : code = 6 ∨ code = 7 := by bv_omega
  rcases hcode with rfl | rfl <;> rfl

theorem evSet_gives {ini : Initiator} {ty inst : Byte} (w : Word) {s : State} (hw : s.writes ini ty.toNat inst.toNat oSET = true) :
    Gives (.evSet ini ty inst w) s (fun h =>
      wr h ty.toNat inst.toNat oSTAT (rd h ty.toNat inst.toNat oSTAT ||| (w &&& evDefined ty.toNat))) :=
  gives_write rfl hw rfl (congrArg Pwr.cur (wr_pwr ..)) rfl ty.isLt inst.isLt

theorem groupCommitGo_gives {ini : Initiator} {s : State} (hw : s.writes ini 1 0 0x070 = true) :
    Gives (.groupCommitGo ini) s groupCommit :=
  gives_write rfl hw rfl (congrArg Pwr.cur (groupCommit_onlyRegs _).pwr) rfl

/-- Settles O8: the codes are the arms of `commitCode`; what an application changes, `applyPage_applies` and `applyPage_waits` say. -/
theorem commitsAndSources : Obligations.CommitsAndSources := by
  refine ⟨fun ini ty inst s hw => ⟨gives_commitBoundary hw, ?cancel, ?arm, ?reload, ?immediate, ?reserved⟩,
    fun ty i imm h _ => ⟨bit_pend_applyPage ty i imm h, ?applied, ?waits⟩, ?group, fun _ _ _ w _ hw => evSet_gives w hw⟩
  case cancel => exact gives_commitCode rfl hw rfl (wrF_pwr ..)
  case arm => exact gives_commitCode rfl hw rfl (wrF_pwr ..)
  case reload => exact gives_commitCode rfl hw rfl rfl
  case immediate => exact fun hty => gives_commitCode rfl hw (if_neg (driver_toNat_iff.not.2 hty)) (applyPage_pwr ..)
  case reserved => exact fun code hc => gives_commitCode rfl hw (commitCode_reserved _ _ _ hc) (err_pwr ..)
  case applied =>
    exact fun hw => ⟨fun _ => cfg_applyPage imm hw, fun _ => cfgA_applyPage_out imm hw, fld_ccount_applyPage imm hw⟩
  case waits =>
    intro hw
    have hk := CommitKept.holdSet ty i (some (stagedSet h ty i)) (clearMarks ty i imm h)
    rw [applyPage_waits ty i imm h hw]
    refine ⟨fun a => by rw [hk.cfgA, cfgA_clearMarks], by rw [hk.rd, fld_ccount_clearMarks], ?can, ?lin⟩
    case can =>
      rintro rfl
      simp [holdSet, can]
    case lin =>
      rintro rfl
      simp [holdSet, lin]
  case group =>
    intro ini s hw
    refine ⟨_, groupCommitGo_gives hw, ?_, fun e he i hi => ?_, fun a ha => ?_⟩
    · exact congrArg (fun h => { s with m := { s.m with hw := h } }) (groupCommit_onlyRegs s.m.hw)
    · exact rd_groupCommit s.m.hw (mem_pageList.2 ⟨e, he, hi, rfl⟩)
    · exact rdA_groupCommit_ne s.m.hw fun q hq =>
        let ⟨e, he, hi, ht⟩ := mem_pageList.1 hq
        ht ▸ ha e he q.2 hi

end Sys2Proof.Machine

/-! ## Results of the measurement channels (R69 … R74) -/

namespace Sys2Proof.Machine

/-- A decimator output beyond the measuring range saturates at the range end of its sign (R70). -/
theorem saturate_eq (lo hi d x : Int) :
    (if lo ≤ d ∧ d ≤ hi then x else clampInt lo hi d) = if d < lo then lo else if hi < d then hi else x := by
  unfold clampInt
  by_cases hlo : d < lo
  · simp [hlo]
  · by_cases hhi : hi < d
    · simp [hlo, hhi]
    · simp [hlo, hhi, not_lt.1 hlo, not_lt.1 hhi]

/-- A channel is in operation: ON, with no window of its own, settled and, for a current, supplied (R82, R83, R91). -/
theorem measLive_iff {h : Hw} {g i : Nat} : measLive h g i = true ↔
    domOn h (31 + g) = true ∧ (meas h g).win.map Prod.fst ≠ some i ∧ settled h g i = true ∧ (34 ≤ i ∨ (feed h g).supply = .on) := by
  simp [measLive, and_assoc]

theorem measResult_plain {h : Hw} {g i : Nat} (d : Int) (hl : measLive h g i = true) (hm : usesMean h g i = false) :
    measResult g i d h = measStore g i d h := by simp [measResult, hl, hm]

theorem measResult_mean {h : Hw} {g i : Nat} (d : Int) (hm : usesMean h g i = true) : measResult g i d h = h := by
  simp [measResult, hm]

theorem measResult_not_live {h : Hw} {g i : Nat} (d : Int) (hl : measLive h g i = false) : measResult g i d h = h := by
  simp [measResult, hl]

theorem measMean_mean {h : Hw} {g i : Nat} (d : Int) (hl : measLive h g i = true) (hm : usesMean h g i = true) :
    measMean g i d h = measStore g i d h := by simp [measMean, hl, hm]

theorem measMean_plain {h : Hw} {g i : Nat} (d : Int) (hm : usesMean h g i = false) : measMean g i d h = h := by
  simp [measMean, hm]

theorem measMean_not_live {h : Hw} {g i : Nat} (d : Int) (hl : measLive h g i = false) : measMean g i d h = h := by
  simp [measMean, hl]

/-- Settles O12: both commands store the output (`measStore`) or leave the blocks as they are, as the channel's operation and PMEAN say. -/
theorem measurementResult : Obligations.MeasurementResult := by
  refine ⟨fun g k d s ha hl => ?stored, fun g k d s ha => ⟨fun hout => ?outOfOperation, fun hm => ?noMean⟩⟩
  case stored =>
    intro res
    have hres : measStore g.val k.val d s.m.hw = res s.m.hw := by
      simp only [res, measStore, flagBit, decide_eq_true_eq, saturate_eq, ite_or]
    exact ⟨fun hm => gives_hw rfl ha ((measResult_plain d hl hm).trans hres), fun hm =>
      ⟨gives_hw rfl ha ((measMean_mean d hl hm).trans hres), gives_hw rfl ha (measResult_mean d hm)⟩⟩
  case outOfOperation =>
    have hl : measLive s.m.hw g.val k.val = false := by
      refine Bool.eq_false_iff.2 fun hlive => ?_
      obtain ⟨hon, hwin, hset, hfeed⟩ := measLive_iff.1 hlive
      rcases hout with hoff | hin | hnot | ⟨hcur, hdead⟩
      · simp [hon] at hoff
      · exact hwin hin
      · simp [hset] at hnot
      · exact hfeed.elim (by omega) hdead
    exact ⟨gives_hw rfl ha (measResult_not_live d hl), gives_hw rfl ha (measMean_not_live d hl)⟩
  case noMean => exact gives_hw rfl ha (measMean_plain d hm)

end Sys2Proof.Machine

/-! ## Injection windows (R81 … R85, R88) -/

namespace Sys2Proof.Machine

theorem measIdle_iff {h : Hw} {g i lsb : Nat} : measIdle h g i lsb = true ↔
    34 ≤ i ∨ ((feed h g).supply = .on ∧ measOff h g i = true ∧ lsb * 100 < measNominal i) := by
  simp [measIdle, and_assoc]

section
variable {g : Nat} {h : Hw}

/-- The rounds of a group run: its domain takes new work, no window or request stands in the way, and CAL_EN is 1 (R87, R88). -/
theorem winStart_runs (lsb : Nat) (ho : domOpen h (31 + g) = true) (hwin : (meas h g).win = none) (hreq : (meas h g).reqWait = none)
    (hen : cfgF h 0x14 g 0x400 0 1 = 1) :
    winStart g lsb h = if measIdle h g (meas h g).idx lsb then setMeas h g { meas h g with win := some ((meas h g).idx, false) }
      else setMeas h g (roundNext (meas h g)) := by
  simp only [winStart, ho, hwin, hreq, hen, and_self, if_true]

/-- The window of channel `i` ends, the channel settles, and a window of the rounds moves the round on (R82, R88). -/
def winLeft (g i : Nat) (isReq : Bool) (h : Hw) : Hw :=
  let r := settleFrom h i { meas h g with win := none }
  setMeas h g (if isReq then r else roundNext r)

/-- A window that ends reports a request that it served (R88), and the level sources follow. -/
def winReport (g : Nat) (isReq : Bool) (res : Nat) (h : Hw) : Hw := measLevels g (if isReq then calDone g res h else h)

variable {i gain : Nat} {ofs : Int} {isReq : Bool} (hwin : (meas h g).win = some (i, isReq))
include hwin

theorem winOver_meas : winOver h (meas h g) = settleFrom h i { meas h g with win := none } := by
  simp only [winOver, hwin]

theorem winEnd_accepted (href : bit (rd h 0x14 g 0x040) 1 = true) (hok : calOk h g i gain ofs = true) :
    winEnd g gain ofs h = winReport g isReq 1 (wr (wr (wr (winLeft g i isReq h) 0x14 g (0xB00 + 4 * i) (BitVec.ofNat 32 gain))
      0x14 g (0xC00 + 4 * i) (BitVec.ofNat 32 (field24 ofs))) 0x14 g (0xD00 + 4 * i) 0) := by
  simp [winEnd, hwin, href, hok, winOver_meas hwin, winLeft, winReport]

theorem winEnd_rejected (href : bit (rd h 0x14 g 0x040) 1 = true) (hok : calOk h g i gain ofs = false) :
    winEnd g gain ofs h = winReport g isReq 3 (flagBit (winLeft g i isReq h) g 0x058 i 2) := by
  simp [winEnd, hwin, href, hok, winOver_meas hwin, winLeft, winReport]

theorem winEnd_noRef (href : bit (rd h 0x14 g 0x040) 1 = false) :
    winEnd g gain ofs h = winReport g isReq 3 (winLeft g i isReq h) := by
  simp [winEnd, hwin, href, winOver_meas hwin, winLeft, winReport]

end

end Sys2Proof.Machine

/-! ## The end of a calibration round (R85, R86) -/

namespace Sys2Proof.Machine

theorem forN_succ (n : Nat) (f : Nat → Hw → Hw) (h : Hw) : forN (n + 1) f h = f n (forN n f h) := by
  simp [forN, List.range_succ]

theorem rdA_pulse_ne {h : Hw} {ty i n a : Nat} (hstat : a ≠ pg ty i + oSTAT) : rdA (pulse h ty i n) a = rdA h a := by
  unfold pulse
  split
  · exact rdA_wrA_ne h _ hstat
  · rfl

/-- A level changes the two registers of its own page's sources alone. -/
theorem rdA_level_ne {h : Hw} {ty i n a : Nat} {b : Bool} (hraw : a ≠ pg ty i + oRAW) (hstat : a ≠ pg ty i + oSTAT) :
    rdA (level h ty i n b) a = rdA h a := by
  unfold level
  dsimp only
  split
  · split
    · rw [rdA_pulse_ne hstat]
      exact rdA_wrA_ne h _ hraw
    · exact rdA_wrA_ne h _ hraw
  · rfl

theorem rdA_measLevels_ne (g : Nat) (h : Hw) {a : Nat} (hraw : a ≠ pg 0x14 g + oRAW) (hstat : a ≠ pg 0x14 g + oSTAT) :
    rdA (measLevels g h) a = rdA h a := by
  simp only [measLevels, rdA_level_ne hraw hstat]

theorem rd_measLevels_off (g : Nat) (h : Hw) {o : Nat} (hraw : o ≠ oRAW) (hstat : o ≠ oSTAT) :
    rd (measLevels g h) 0x14 g o = rd h 0x14 g o := rdA_measLevels_ne g h (by omega) (by omega)

/-- CAL_AGE one round later: the count stops at 0xFFFE, and 0xFFFF, never calibrated, stays (R86). -/
def aged (a : Nat) : Nat := if a = 0xFFFF then 0xFFFF else min 0xFFFE (a + 1)

/-- One round more for channel `i` of group `g`, where it has been calibrated (R86). -/
def ageOne (g i : Nat) (h : Hw) : Hw :=
  let a := fld (rd h 0x14 g (0xD00 + 4 * i)) 0 16
  if a = 0xFFFF then h else wr h 0x14 g (0xD00 + 4 * i) (BitVec.ofNat 32 (min 0xFFFE (a + 1)))

theorem roundEnd_on {g : Nat} {h : Hw} (refOk : Bool) (hon : domOn h (31 + g) = true) :
    roundEnd g refOk h = measLevels g (forN 46 (ageOne g) (wrF h 0x14 g 0x040 1 1 refOk.toNat)) := if_pos hon

theorem ageOne_onlyRegs (g i : Nat) (h : Hw) : OnlyRegs h (ageOne g i h) := OnlyRegs.ite (OnlyRegs.refl h) (OnlyRegs.refl h).wr

theorem rdA_ageOne_ne (g i : Nat) (h : Hw) {a : Nat} (ha : a ≠ pg 0x14 g + (0xD00 + 4 * i)) : rdA (ageOne g i h) a = rdA h a := by
  unfold ageOne
  dsimp only
  split
  · rfl
  · exact rdA_wrA_ne h _ ha

theorem fld_ageOne_same (g i : Nat) (h : Hw) : fld (rd (ageOne g i h) 0x14 g (0xD00 + 4 * i)) 0 16 =
    aged (fld (rd h 0x14 g (0xD00 + 4 * i)) 0 16) := by
  unfold ageOne aged
  dsimp only
  split
  case isTrue hnever => exact hnever
  case isFalse =>
    rw [rd_wr_same, fld, BitVec.toNat_ofNat]
    omega

theorem rdA_ages_ne (g n : Nat) (h : Hw) {a : Nat} (ha : ∀ i < n, a ≠ pg 0x14 g + (0xD00 + 4 * i)) :
    rdA (forN n (ageOne g) h) a = rdA h a := by
  induction n with
  | zero => rfl
  | succ n ih => rw [forN_succ, rdA_ageOne_ne _ _ _ (ha n n.lt_succ_self), ih fun i hi => ha i (Nat.lt_succ_of_lt hi)]

/-- Each channel's age counts on its own: no other channel's count touches it. -/
theorem fld_ages (g : Nat) {n i : Nat} (hi : i < n) (h : Hw) : fld (rd (forN n (ageOne g) h) 0x14 g (0xD00 + 4 * i)) 0 16 =
    aged (fld (rd h 0x14 g (0xD00 + 4 * i)) 0 16) := by
  induction n with
  | zero => omega
  | succ n ih =>
    rw [forN_succ]
    by_cases hin : i = n
    · subst hin
      have hold : rd (forN i (ageOne g) h) 0x14 g (0xD00 + 4 * i) = rd h 0x14 g (0xD00 + 4 * i) := rdA_ages_ne g i h fun j hj => by omega
      rw [fld_ageOne_same, hold]
    · rw [← ih (by omega)]
      exact congrArg (fld · 0 16) (rdA_ageOne_ne _ _ _ (by omega))

/-- The registers that the end of a round writes: STATUS, the level sources, and the ages of the channels 0 … 45. -/
def roundRegs (g : Nat) : List Nat :=
  [pg 0x14 g + 0x040, pg 0x14 g + oRAW, pg 0x14 g + oSTAT] ++ (List.range 46).map (fun i => pg 0x14 g + (0xD00 + 4 * i))

section
variable {g : Nat} {h : Hw} (refOk : Bool) (hon : domOn h (31 + g) = true)
include hon

theorem roundEnd_onlyRegs : OnlyRegs h (roundEnd g refOk h) := by
  rw [roundEnd_on refOk hon]
  exact (OnlyRegs.refl h).wr.trans ((OnlyRegs.forN (ageOne_onlyRegs g)).trans (measLevels_onlyRegs g _))

theorem roundEnd_sameRegsBut : sameRegsBut h (roundEnd g refOk h) (roundRegs g) := by
  intro a ha
  simp only [roundRegs, List.cons_append, List.nil_append, List.mem_cons, List.mem_map, List.mem_range, not_or, not_exists, not_and] at ha
  obtain ⟨hstatus, hraw, hstat, hage⟩ := ha
  rw [roundEnd_on refOk hon, rdA_measLevels_ne g _ hraw hstat, rdA_ages_ne g 46 _ fun i hi he => hage i hi he.symm]
  exact rdA_wrA_ne h _ hstatus

theorem refOk_roundEnd : bit (rd (roundEnd g refOk h) 0x14 g 0x040) 1 = refOk := by
  have hstatus : rd (roundEnd g refOk h) 0x14 g 0x040 = setBit (rd h 0x14 g 0x040) 1 refOk := by
    rw [roundEnd_on refOk hon, rd_measLevels_off g _ (by decide) (by decide), rd, rdA_ages_ne g 46 _ fun i _ => by omega]
    exact rd_wrF_same ..
  rw [hstatus, bit_setBit_same _ _ (by decide)]

theorem age_roundEnd {i : Nat} (hi : i < 46) : fld (rd (roundEnd g refOk h) 0x14 g (0xD00 + 4 * i)) 0 16 =
    aged (fld (rd h 0x14 g (0xD00 + 4 * i)) 0 16) := by
  have hlevels (x : Hw) : rd (measLevels g x) 0x14 g (0xD00 + 4 * i) = rd x 0x14 g (0xD00 + 4 * i) :=
    rd_measLevels_off g x (show 0xD00 + 4 * i ≠ 0x010 by omega) (show 0xD00 + 4 * i ≠ 0x014 by omega)
  have hstatus (w : Word) : rd (wr h 0x14 g 0x040 w) 0x14 g (0xD00 + 4 * i) = rd h 0x14 g (0xD00 + 4 * i) := rd_wr_off _ _ _ _ (by omega)
  rw [roundEnd_on refOk hon, hlevels, fld_ages g hi, wrF, hstatus]

end

end Sys2Proof.Machine

/-! ## Calibration on request (R88) -/

namespace Sys2Proof.Machine

/-- The word of CAL_REQ with GO: IDX below, GO on top. -/
theorem calReqWord_fields (idx : BitVec 6) :
    fld (BitVec.ofNat 32 (0x80000000 + idx.toNat)) 0 6 = idx.toNat ∧ bit (BitVec.ofNat 32 (0x80000000 + idx.toNat)) 31 = true := by
  revert idx
  decide

theorem calIdle_runs {g lsb i : Nat} {h : Hw} (hreq : (meas h g).reqWait = some i) (ho : domOpen h (31 + g) = true)
    (hidle : measIdle h g i lsb = true) (hwin : (meas h g).win = none) :
    calIdle g lsb h = setMeas h g { meas h g with win := some (i, true), reqWait := none } := by
  simp [calIdle, hreq, ho, hidle, hwin]

/-- Settles O13: the lemmas on `winStart`, `winEnd`, `roundEnd`, `calIdle` and `calTimeout` say each command's part. -/
theorem calibrationRound : Obligations.CalibrationRound := by
  refine ⟨fun g lsb s ha ho hwin hreq hen => ?start, fun g gain ofs i isReq s ha hwin => ?stop, fun g refOk s ha hon => ?round,
    fun g s => ⟨fun ini idx hw => ?go, fun lsb i ha hreq ho hidle hwin => ?idle, fun ha hreq => ?timeout⟩⟩
  case start =>
    have hstart := winStart_runs lsb ho hwin hreq hen
    exact ⟨fun hidle => gives_hw rfl ha (hstart.trans (if_pos (measIdle_iff.2 hidle))),
      fun hbusy => gives_hw rfl ha (hstart.trans (if_neg (mt measIdle_iff.1 hbusy)))⟩
  case stop =>
    exact ⟨fun href hok => gives_hw rfl ha (winEnd_accepted hwin href hok), fun href hok => gives_hw rfl ha (winEnd_rejected hwin href hok),
      fun href => gives_hw rfl ha (winEnd_noRef hwin href)⟩
  case round =>
    refine ⟨s.withHw (roundEnd g.val refOk), gives_hw rfl ha rfl, refOk_roundEnd refOk hon, fun i hi => age_roundEnd refOk hon hi, ?_,
      roundEnd_sameRegsBut refOk hon⟩
    exact congrArg (fun h => { s with m := { s.m with hw := h } }) (roundEnd_onlyRegs refOk hon)
  case go =>
    obtain ⟨hidx, hgo⟩ := calReqWord_fields idx
    exact gives_write rfl hw rfl (by simp [hgo, calGo, setMeas]) (by simp [hidx, hgo, calGo]) (hi := by omega)
  case idle => exact gives_hw rfl ha (calIdle_runs hreq ho hidle hwin)
  case timeout => exact gives_hw rfl ha (if_pos hreq)

end Sys2Proof.Machine

/-! ## Reserved commands of the drivers (R101, R171) -/

namespace Sys2Proof.Machine

theorem err_onlyRegs (ty i n : Nat) (h : Hw) : OnlyRegs h (err h ty i n) :=
  ((OnlyRegs.refl h).wr.trans (OnlyRegs.refl _).level).ite (OnlyRegs.refl h)

theorem rdA_err_ne {h : Hw} {ty i n a : Nat} (herr : a ≠ pg ty i + oERR) (hraw : a ≠ pg ty i + oRAW) (hstat : a ≠ pg ty i + oSTAT) :
    rdA (err h ty i n) a = rdA h a := by
  unfold err errLevel
  split
  · rw [rdA_level_ne hraw hstat]
    exact rdA_wrA_ne h _ herr
  · rfl

/-- A change of registers alone leaves the state as it is but for them. -/
theorem State.withHw_onlyRegs {s : State} {f : Hw → Hw} (e : OnlyRegs s.m.hw (f s.m.hw)) :
    s.withHw f = s.withHw (fun h => { h with regs := (f s.m.hw).regs }) :=
  congrArg (fun h => { s with m := { s.m with hw := h } }) e

/-- No register page lies in the near memory of a core. -/
theorem isNear_page {c a : Nat} (hc : c < 12) (ha : 0x40000000 ≤ a) : isNear c a = false := by
  refine decide_eq_false fun h => ?_
  unfold nearBase at h
  omega

/-- A write beyond the header that finds its way to a page finds the page's domain ON. -/
theorem pageOn_of_writes {s : State} {ini : Initiator} {ty i off : Nat} (hw : s.writes ini ty i off = true) (hi : i < 0x100)
    (hlo : 0x040 ≤ off) (ho : off < 0x1000) : pageOn s.m.hw ty i = true := by
  simp only [State.writes, State.arrives, Bool.and_eq_true] at hw
  obtain ⟨⟨-, hreach⟩, -⟩ := hw
  obtain ⟨hdom, -, -, -, hopen⟩ := reach_iff.1 hreach
  obtain ⟨d, hd⟩ := Option.isSome_iff_exists.1 hdom
  have hge : 0x40000000 ≤ pg ty i + off := by have := pg_ge ty i off; omega
  have hnear : ownNear ini (pg ty i + off) = false := by
    cases ini with
    | core c => simp [ownNear, isNear_page c.isLt hge]
    | _ => rfl
  simp only [accessOpen, hnear, Bool.false_or, targetOpen, hge, if_true, pg_type hi ho, pg_inst hi ho, hd, Bool.and_eq_true,
    Bool.or_eq_true, decide_eq_true_eq, pg_off ho] at hopen
  obtain ⟨-, hlow | hdopen⟩ := hopen
  · simp only [oTYPE, oPWR] at hlow
    omega
  · simp only [domOpen, Bool.and_eq_true] at hdopen
    simp only [pageOn, hd, hdopen.1]

/-- The answer to a write that an error flag refuses: the flag, and nothing else but the error level of the page. -/
theorem answers_err {c : Instr} {s : State} {ty i n off : Nat} (hg : Gives c s (fun h => err h ty i n)) (hon : pageOn s.m.hw ty i = true)
    (hn : n < 32) (ho : 0x040 ≤ off) : Answers c s (fun t =>
      bit (rd t.m.hw ty i oERR) n = true ∧ rd t.m.hw ty i off = rd s.m.hw ty i off ∧
      t = s.withHw (fun h => { h with regs := t.m.hw.regs }) ∧
      sameRegsBut s.m.hw t.m.hw [pg ty i + oERR, pg ty i + oRAW, pg ty i + oSTAT]) := by
  have hoff : off ≠ oSTAT ∧ off ≠ oRAW ∧ off ≠ oERR := by
    simp only [oSTAT, oRAW, oERR]
    omega
  obtain ⟨hstat, hraw, herr⟩ := hoff
  refine ⟨_, hg, bit_err hon hn, rd_err_off _ _ _ _ hstat hraw herr, State.withHw_onlyRegs (err_onlyRegs ..), fun a ha => ?_⟩
  simp only [List.mem_cons, List.not_mem_nil, or_false, not_or] at ha
  obtain ⟨haerr, haraw, hastat⟩ := ha
  exact rdA_err_ne haerr haraw hastat

/-- A word of CTL: the DUTY field above, the command below. -/
theorem fld_command (duty : Nat) {code : Nat} (hc : code < 4) : fld (BitVec.ofNat 32 (duty * 0x10000 + code)) 0 2 = code := by
  rw [fld, BitVec.toNat_ofNat]
  omega

/-- A write of CTL[v] of a SOL page. -/
theorem pageAct_solCtl (ini : Initiator) (g : Nat) (v : Fin 4) (w : Word) (m : Mach) :
    pageAct ini 0x12 g (0x040 + 4 * v.val) w m = m.page (solCtl g v.val w) := by
  have hv : 0x040 + 4 * v.val < 0x050 := by omega
  simp (disch := omega) [pageAct, solAct, hv, oPWR, oCOMMIT, oSET, if_neg]

theorem findReg_solCtl (g : Nat) : ∀ v : Fin 4, (findReg 0x12 g (0x040 + 4 * v.val)).isSome = true :=
  show ∀ v : Fin 4, (findReg 0x12 0 (0x040 + 4 * v.val)).isSome = true by decide

theorem hswCtl_reserved {n : Nat} {w : Word} {h : Hw} (hw : fld w 0 2 = 3) : hswCtl n w h = err h 0x10 n 16 := if_pos hw

theorem solCtl_reserved {g v : Nat} {w : Word} {h : Hw} (hw : 2 ≤ fld w 0 2) : solCtl g v w h = err h 0x12 g 16 := if_pos hw

/-- Settles O14: both writes are the error alone (`hswCtl`, `solCtl`), whose effect `answers_err` says. -/
theorem reservedCommandsIgnored : Obligations.ReservedCommandsIgnored := by
  refine ⟨fun ini n duty s hw => ?hsw, fun ini g v code s hw => ?sol⟩
  case hsw =>
    have hctl : ∀ h, hswCtl n.val (BitVec.ofNat 32 (duty.toNat * 0x10000 + 3)) h = err h 0x10 n.val 16 :=
      fun h => hswCtl_reserved (fld_command _ (by decide))
    have hg : Gives (.hswCmdReserved ini n duty) s (fun h => err h 0x10 n.val 16) :=
      gives_write rfl hw rfl (by rw [hctl, err_pwr]) (hctl _) (hi := by omega)
    exact answers_err hg (pageOn_of_writes hw (by omega) (by decide) (by decide)) (by decide) (by decide)
  case sol =>
    have hcode : fld (BitVec.ofNat 32 (2 + code.val)) 0 2 = 2 + code.val := by
      rw [fld, BitVec.toNat_ofNat]
      omega
    have hctl : ∀ h, solCtl g.val v.val (BitVec.ofNat 32 (2 + code.val)) h = err h 0x12 g.val 16 :=
      fun h => solCtl_reserved (by omega)
    have hg : Gives (.solCmdReserved ini g v code) s (fun h => err h 0x12 g.val 16) :=
      gives_write rfl hw (pageAct_solCtl ..) (by rw [hctl, err_pwr]) (hctl _) (hi := by omega) (ho := by omega) (h4 := by omega)
        (hf := findReg_solCtl g.val v)
    exact answers_err hg (pageOn_of_writes hw (by omega) (by omega) (by omega)) (by decide) (by omega)

end Sys2Proof.Machine

/-! ## High-side channels: their records and the registers of their pages -/

namespace Sys2Proof.Machine

@[simp] theorem hswLevels_hsw (n : Nat) (h : Hw) : (hswLevels n h).hsw = h.hsw := by rw [hswLevels_onlyRegs n h]

@[simp] theorem hsw_setHsw_same (h : Hw) (n : Nat) (r : HswCh) : hsw (setHsw h n r) n = r := by simp [hsw, setHsw]

@[simp] theorem hsw_pulse (h : Hw) (ty i k n : Nat) : hsw (pulse h ty i k) n = hsw h n := by simp [hsw]

theorem dieF_congr {h h' : Hw} (hd : h'.dieCfg = h.dieCfg) (hs : h'.straps = h.straps) (ty i off lo n : Nat) :
    dieF h' ty i off lo n = dieF h ty i off lo n := by
  rw [dieF, die, hd, hs]
  rfl

/-- From `h` to `h'` only stored registers and the records and timers of high-side channels change. -/
def OnlyHsw (h h' : Hw) : Prop := h' = { h with regs := h'.regs, hsw := h'.hsw, hswT := h'.hswT }

namespace OnlyHsw

theorem refl (h : Hw) : OnlyHsw h h := rfl

theorem trans {h x y : Hw} (e : OnlyHsw h x) (e' : OnlyHsw x y) : OnlyHsw h y := by
  unfold OnlyHsw at *
  rw [e', e]

theorem now {h x : Hw} (e : OnlyHsw h x) : x.now = h.now := by rw [e]

theorem feeds {h x : Hw} (e : OnlyHsw h x) : x.feeds = h.feeds := by rw [e]

theorem pageOn {h x : Hw} (e : OnlyHsw h x) (ty i : Nat) : pageOn x ty i = Machine.pageOn h ty i := pageOn_congr ty i (by rw [e])

theorem dieF {h x : Hw} (e : OnlyHsw h x) (ty i off lo n : Nat) : dieF x ty i off lo n = Machine.dieF h ty i off lo n :=
  dieF_congr (by rw [e]) (by rw [e]) ..

end OnlyHsw

/-- From `h` to `h'` only the record of high-side channel `n`, timers, and of the registers those at EV_RAW, EV_STAT and the offsets `l` of
its page change. -/
structure ChannelKept (n : Nat) (l : List Nat) (h h' : Hw) : Prop where
  frame : OnlyHsw h h'
  others : ∀ k, k ≠ n → hsw h' k = hsw h k
  regs : sameRegsBut h h' ((oRAW :: oSTAT :: l).map (fun o => pg 0x10 n + o))

namespace ChannelKept

variable {n : Nat} {l : List Nat}

theorem refl (h : Hw) : ChannelKept n l h h := ⟨OnlyHsw.refl h, fun _ _ => rfl, fun _ _ => rfl⟩

theorem trans {h x y : Hw} (e : ChannelKept n l h x) (e' : ChannelKept n l x y) : ChannelKept n l h y :=
  ⟨e.frame.trans e'.frame, fun k hk => (e'.others k hk).trans (e.others k hk), fun a ha => (e'.regs a ha).trans (e.regs a ha)⟩

theorem ite {h x y : Hw} {c : Prop} [Decidable c] (ex : ChannelKept n l h x) (ey : ChannelKept n l h y) :
    ChannelKept n l h (if c then x else y) := by
  split
  · exact ex
  · exact ey

/-- A new record of the channel, whatever its timers. -/
theorem record (h : Hw) (r : HswCh) (t : List (Nat × HswTime)) : ChannelKept n l h { h with hsw := smPut {} n r h.hsw, hswT := t } :=
  ⟨rfl, fun _ hk => smGet_smPut_ne _ _ _ hk _, fun _ _ => rfl⟩

theorem wr {h x : Hw} (e : ChannelKept n l h x) {off : Nat} (v : Word) (ho : off ∈ oRAW :: oSTAT :: l) :
    ChannelKept n l h (wr x 0x10 n off v) :=
  e.trans ⟨rfl, fun _ _ => rfl, fun _ ha => rdA_wrA_ne x v fun he => ha (he ▸ List.mem_map_of_mem ho)⟩

theorem pulse {h x : Hw} (e : ChannelKept n l h x) {k : Nat} : ChannelKept n l h (pulse x 0x10 n k) := (e.wr _ (by simp)).ite e

theorem level {h x : Hw} (e : ChannelKept n l h x) {k : Nat} {b : Bool} : ChannelKept n l h (level x 0x10 n k b) :=
  ite (ite (e.wr _ (by simp)).pulse (e.wr _ (by simp))) e

theorem hswLevels {h x : Hw} (e : ChannelKept n l h x) : ChannelKept n l h (hswLevels n x) := e.level.level.level.level.level.level.level

theorem setHsw {h x : Hw} (e : ChannelKept n l h x) (r : HswCh) : ChannelKept n l h (setHsw x n r) := (e.trans (record x r _)).hswLevels

theorem hswKept {s : State} {y : Hw} (e : ChannelKept n l s.m.hw y) : hswKept s (s.withHw fun _ => y) n (oRAW :: oSTAT :: l) :=
  ⟨congrArg (fun h => { s with m := { s.m with hw := h } }) e.frame, e.others, e.regs⟩

end ChannelKept

/-- A command that changes the blocks of a supplied module to `y` answers what holds of the state with the blocks `y`. -/
theorem answers_hw {c : Instr} {s : State} {f : Hw → Hw} {y : Hw} {P : State → Prop} (hx : exec c s = .next (s.onHw f))
    (ha : s.alive = true) (hf : f s.m.hw = y) (hp : P (s.withHw fun _ => y)) : Answers c s P := ⟨_, gives_hw hx ha hf, hp⟩

/-- A command that replaces the record of a channel, after changes that keep all else. -/
theorem answers_setHsw_from {c : Instr} {s : State} {f : Hw → Hw} {n : Nat} {x : Hw} {r : HswCh} (hx : exec c s = .next (s.onHw f))
    (ha : s.alive = true) (hk : ChannelKept n [] s.m.hw x) (hf : f s.m.hw = setHsw x n r) :
    Answers c s (fun t => hsw t.m.hw n = r ∧ hswKept s t n [oRAW, oSTAT]) :=
  answers_hw hx ha hf ⟨hsw_setHsw_same .., (hk.setHsw r).hswKept⟩

theorem answers_setHsw {c : Instr} {s : State} {f : Hw → Hw} {n : Nat} {r : HswCh} (hx : exec c s = .next (s.onHw f))
    (ha : s.alive = true) (hf : f s.m.hw = setHsw s.m.hw n r) :
    Answers c s (fun t => hsw t.m.hw n = r ∧ hswKept s t n [oRAW, oSTAT]) :=
  answers_setHsw_from hx ha (ChannelKept.refl _) hf

/-! ## High-side channels: their event sources -/

/-- A source that is set stays set while others pulse. -/
theorem bit_stat_pulse_keeps {h : Hw} {ty i k m : Nat} (hm : m < 32) (hb : bit (rd h ty i oSTAT) m = true) :
    bit (rd (pulse h ty i k) ty i oSTAT) m = true := by
  unfold pulse
  split
  · rw [rd_wr_same]
    by_cases hk : m = k
    · subst hk
      exact bit_setBit_same _ _ hm
    · rwa [bit_setBit_ne _ _ hk]
  · exact hb

theorem bit_stat_level_keeps {h : Hw} {ty i k m : Nat} {b : Bool} (hm : m < 32) (hb : bit (rd h ty i oSTAT) m = true) :
    bit (rd (level h ty i k b) ty i oSTAT) m = true := by
  have hraw (w : Word) : bit (rd (wr h ty i oRAW w) ty i oSTAT) m = true := by rwa [rd_wr_off _ _ _ _ (by decide)]
  unfold level
  dsimp only
  split
  · split
    · exact bit_stat_pulse_keeps hm (hraw _)
    · exact hraw _
  · exact hb

/-- A level stands in EV_RAW of a page that is ON. -/
theorem bit_raw_level_same {h : Hw} {ty i k : Nat} (b : Bool) (hon : pageOn h ty i = true) (hk : k < 32) :
    bit (rd (level h ty i k b) ty i oRAW) k = b := by
  simp only [level, hon, if_true]
  split
  · rw [rd_pulse_off _ _ _ _ (by decide), rd_wr_same, bit_setBit_same _ _ hk]
  · rw [rd_wr_same, bit_setBit_same _ _ hk]

theorem bit_raw_level_ne {h : Hw} {ty i k m : Nat} {b : Bool} (hm : m ≠ k) :
    bit (rd (level h ty i k b) ty i oRAW) m = bit (rd h ty i oRAW) m := by
  unfold level
  dsimp only
  split
  · split
    · rw [rd_pulse_off _ _ _ _ (by decide), rd_wr_same, bit_setBit_ne _ _ hm]
    · rw [rd_wr_same, bit_setBit_ne _ _ hm]
  · rfl

section
variable {h : Hw} {n m : Nat}

theorem bit_stat_setHsw (r : HswCh) (hm : m < 32) (hb : bit (rd h 0x10 n oSTAT) m = true) :
    bit (rd (setHsw h n r) 0x10 n oSTAT) m = true := by
  iterate 7 refine bit_stat_level_keeps hm ?_
  exact hb

/-- EV_RAW[0] of a channel's page shows LIMIT. -/
theorem bit_raw_setHsw (r : HswCh) (hon : pageOn h 0x10 n = true) :
    bit (rd (setHsw h n r) 0x10 n oRAW) 0 = decide (r.st = .limit) := by
  simp only [setHsw, hswLevels]
  iterate 6 rw [bit_raw_level_ne (by decide)]
  rw [bit_raw_level_same _ (by exact hon) (by decide)]
  simp [hsw]

/-- A source that pulses before the channel's record changes is set after it. -/
theorem evSeen_setHsw (r : HswCh) (hm : m < 32) : evSeen (setHsw (pulse h 0x10 n m) n r) 0x10 n m := fun hon => by
  rw [(ChannelKept.setHsw (l := []) (ChannelKept.refl _).pulse r).frame.pageOn] at hon
  exact bit_stat_setHsw r hm (bit_stat_pulse hon hm)

theorem evSeen_setHsw_if {b : Bool} (r : HswCh) (hm : m < 32) (hb : b = true) :
    evSeen (setHsw (if b = true then pulse h 0x10 n m else h) n r) 0x10 n m := by
  rw [if_pos hb]
  exact evSeen_setHsw r hm

end

end Sys2Proof.Machine

/-! ## Switching of high-side channels (R100 … R113) -/

namespace Sys2Proof.Machine

/-- A CTL word with the command `code` of R100 is stored as it is. -/
theorem hswCtl_stores (n : Nat) (duty : BitVec 16) {code : Nat} (hc : code < 3) (h : Hw) :
    hswCtl n (BitVec.ofNat 32 (duty.toNat * 0x10000 + code)) h = wr h 0x10 n 0x040 (BitVec.ofNat 32 (duty.toNat * 0x10000 + code)) := by
  have hmask : BitVec.ofNat 32 (duty.toNat * 0x10000 + code) &&& 0xFFFF0003 = BitVec.ofNat 32 (duty.toNat * 0x10000 + code) := by
    have hstored : ∀ i : Fin 32, (0xFFFF0003 : Word).getLsbD i.val = decide (i.val < 2 ∨ 16 ≤ i.val) := by decide
    refine BitVec.eq_of_getLsbD_eq fun i hi => ?_
    have hcode : code < 2 ^ 16 := by omega
    rw [BitVec.getLsbD_and, hstored ⟨i, hi⟩, BitVec.getLsbD_ofNat, mul_comm, Nat.testBit_two_pow_mul_add _ hcode]
    by_cases hlow : i < 2
    · simp [hlow]
    · by_cases hhigh : 16 ≤ i
      · simp [hhigh]
      · have hzero : code.testBit i = false :=
          Nat.testBit_lt_two_pow ((show code < 2 ^ 2 by omega).trans_le (Nat.pow_le_pow_right (by decide) (by omega)))
        simp [hlow, hhigh, hzero, show i < 16 by omega]
  rw [hswCtl, fld_command _ (by omega), if_neg (by omega), hmask]

theorem gives_hswCtl {c : Instr} {ini : Initiator} {n : Fin 96} {duty : BitVec 16} {code : Nat} {s : State} (hc : code < 3)
    (hx : exec c s = .next (s.run (pageCmd ini 0x10 n.val 0x040 (BitVec.ofNat 32 (duty.toNat * 0x10000 + code)))))
    (hw : s.writes ini 0x10 n.val 0x040 = true) :
    Gives c s (fun h => wr h 0x10 n.val 0x040 (BitVec.ofNat 32 (duty.toNat * 0x10000 + code))) :=
  gives_write hx hw rfl (by rw [hswCtl_stores _ _ hc, wr_pwr]) (hswCtl_stores _ _ hc _) (hi := by omega)

/-- Time moves up to an edge that is `k` µs away. -/
def atEdge (k : Nat) (h : Hw) : Hw := if k = 0 then h else advance k h

section
variable (k : Nat) (h : Hw)

@[simp] theorem atEdge_now : (atEdge k h).now = h.now + k := by
  unfold atEdge
  split
  · omega
  · rfl

@[simp] theorem atEdge_hsw : (atEdge k h).hsw = h.hsw := by unfold atEdge; split <;> rfl
@[simp] theorem atEdge_regs : (atEdge k h).regs = h.regs := by unfold atEdge; split <;> rfl
@[simp] theorem atEdge_straps : (atEdge k h).straps = h.straps := by unfold atEdge; split <;> rfl
@[simp] theorem atEdge_dieCfg : (atEdge k h).dieCfg = h.dieCfg := by unfold atEdge; split <;> rfl

@[simp] theorem hsw_atEdge (n : Nat) : hsw (atEdge k h) n = hsw h n := by simp [hsw]
@[simp] theorem dieF_atEdge (ty i off lo n : Nat) : dieF (atEdge k h) ty i off lo n = dieF h ty i off lo n :=
  dieF_congr (by simp) (by simp) ..

end

theorem hswEdge_eq {n k : Nat} {h : Hw} (hp : (hsw h n).pend = true) (he : edgeIn h n = some k) :
    hswEdge n h = hswEdgeGo n (atEdge k h) := by
  cases k <;> simp [hswEdge, hp, he, atEdge]

/-- At the instant of an edge the channel's record becomes what the gate drive makes of it; every other channel and register stays. -/
theorem answers_edge {n : Fin 96} {k : Nat} {r : HswCh} {s : State} (ha : s.alive = true) (hp : (hsw s.m.hw n.val).pend = true)
    (he : edgeIn s.m.hw n.val = some k) (hgo : hswEdgeGo n.val (atEdge k s.m.hw) = setHsw (atEdge k s.m.hw) n.val r) :
    Answers (.hswEdgeStart n) s (fun t => hsw t.m.hw n.val = r ∧ t.m.hw.now = s.m.hw.now + k ∧
      (∀ j, j ≠ n.val → hsw t.m.hw j = hsw s.m.hw j) ∧ sameRegsBut s.m.hw t.m.hw [pg 0x10 n.val + oRAW, pg 0x10 n.val + oSTAT] ∧
      sameMem s t) := by
  have hk : ChannelKept n.val [] (atEdge k s.m.hw) (setHsw (atEdge k s.m.hw) n.val r) := (ChannelKept.refl _).setHsw r
  refine ⟨s.withHw (fun h => setHsw (atEdge k h) n.val r), gives_hw rfl ha ((hswEdge_eq hp he).trans hgo), hsw_setHsw_same ..,
    hk.frame.now.trans (atEdge_now ..), fun j hj => ?_, fun a ha => (hk.regs a ha).trans ?_, fun _ => rfl⟩
  · exact (hk.others j hj).trans (hsw_atEdge ..)
  · simp [rdA]

theorem hswEdgeGo_off {n : Nat} {h : Hw} (hc : (hsw h n).cmd = 0) : hswEdgeGo n h = setHsw h n { hswCut (hsw h n) with st := .off } :=
  if_pos hc

/-- The channel's record after its gate drive under the command ON (R109, R111). -/
def drivenOn (h : Hw) (n : Nat) (r : HswCh) : HswCh :=
  { r with
    st := if r.st = .off then .on else r.st, pend := false, out := !r.flashOff, fresh := r.fresh && r.flashOff, pwmOld := false
    ran := r.ran || r.out
    inrush := if r.fresh && !r.flashOff then decide (dieF h 0x10 n 0x40C 8 8 ≠ 0) else r.inrush }

theorem hswEdgeGo_on {n : Nat} {h : Hw} (hc : (hsw h n).cmd = 1) : hswEdgeGo n h = setHsw h n (drivenOn h n (hsw h n)) := by
  simp [hswEdgeGo, hc, drivenOn]

theorem drivenOn_atEdge (k n : Nat) (h : Hw) (r : HswCh) : drivenOn (atEdge k h) n r = drivenOn h n r := by simp [drivenOn]

/-- A period whose start lies at or after every instant that could move it starts at its instant of the schedule, with the duty applied. -/
theorem pwmStart_onTime {per off e m tOa : Nat} {p : Pwm} (hper : 0 < per) (hon : p.onAt + min tOa 64 ≤ e + off % per + m * per)
    (hduty : p.dutyAt + min tOa 64 ≤ e + off % per + m * per) (hend : p.perEnd ≤ e + off % per + m * per) :
    pwmStart per off e m tOa true p =
      some ⟨{ p with perEnd := e + off % per + m * per + per, moved := false }, per * p.duty / 65535, per - per * p.duty / 65535⟩ := by
  have hstart : max (e + off % per + m * per) (p.onAt + min tOa 64) = e + off % per + m * per := max_eq_left hon
  have hruns : ¬ (e + off % per + m * per < p.perEnd ∨ e + off % per + m * per + per ≤ e + off % per + m * per) := by omega
  simp only [pwmStart, hstart, if_neg hruns, hduty]
  simp

/-- The channel's record after a period start that gave `q`, of which `go` says whether its on-phase switches (R105 … R111). -/
def periodStarted (h : Hw) (n : Nat) (q : PwmHit) (go clipOff : Bool) (r : HswCh) : HswCh :=
  { r with
    out := go, ran := r.ran || r.out, pwm := { q.p with stay := go && (clipOff || decide (q.offT = 0)) }, fresh := r.fresh && !go
    inrush := if r.fresh && go then decide (dieF h 0x10 n 0x40C 8 8 ≠ 0) else r.inrush
    st := if go then r.st else .on }

theorem hswPeriod_runs {n k tOa : Nat} {h : Hw} {q : PwmHit}
    (hcmd : (hsw h n).cmd = 2 ∨ (hsw h n).pend = true ∧ (hsw h n).pwmOld = true)
    (hst : (hsw h n).st = .on ∨ (hsw h n).st = .limit)
    (hq : pwmStart (hswPer h n) (64 * dieF h 0x10 n 0x404 0 16) (epochOf h (dieF h 0x10 n 0x404 16 4) (hsw h n).pwm.epoch) k tOa
      (decide ((hsw h n).cmd = 2)) (hsw h n).pwm = some q) :
    let slew := dieF h 0x10 n 0x408 0 2
    let go := decide (q.onT ≠ 0) && !tooShort slew q.onT
    hswPeriod n k tOa h = setHsw (if tooShort slew q.onT || (go && tooShort slew q.offT) then pulse h 0x10 n 9 else h) n
      (periodStarted h n q go (tooShort slew q.offT) (hsw h n)) := by
  simp only [hswPeriod, hcmd, hst, hq]
  rfl

/-- Settles O15: each command stores its word or replaces the record of one channel (`hswEdgeGo_off`, `hswEdgeGo_on`, `hswPeriod_runs` and the
guards of the current limit), and `answers_edge` and `answers_setHsw` say what that leaves. -/
theorem hswSwitching : Obligations.HswSwitching := by
  refine ⟨fun ini n duty s hw => ⟨?ctlOff, gives_hswCtl (code := 1) (by decide) rfl hw, gives_hswCtl (code := 2) (by decide) rfl hw⟩,
    fun n k s ha hp he => ⟨fun hc => ?off, fun hc => ?on⟩,
    ⟨fun per off e m tOa p hper hon hduty hend => pwmStart_onTime hper hon hduty hend, fun n s ha => ?pwm⟩, fun n s ha => ?limit⟩
  case ctlOff =>
    have hg : Gives (.hswCmdOff ini n duty) s (fun h => wr h 0x10 n.val 0x040 (BitVec.ofNat 32 (duty.toNat * 0x10000 + 0))) :=
      gives_hswCtl (code := 0) (by decide) rfl hw
    rwa [Nat.add_zero] at hg
  case off =>
    exact answers_edge ha hp he (by rw [hswEdgeGo_off (by rwa [hsw_atEdge]), hsw_atEdge])
  case on =>
    have hgo := hswEdgeGo_on (n := n.val) (h := atEdge k s.m.hw) (by rwa [hsw_atEdge])
    rw [hsw_atEdge, drivenOn_atEdge] at hgo
    exact answers_edge ha hp he hgo
  case pwm =>
    intro r slew hcmd
    refine ⟨fun k tOa q hst hq => ?start, fun hout hoff => answers_setHsw rfl ha ?stop⟩
    case stop => exact if_pos ⟨hcmd, hout, hoff⟩
    case start =>
      intro go
      refine answers_hw rfl ha (hswPeriod_runs hcmd hst hq) ⟨hsw_setHsw_same .., ChannelKept.hswKept ?_, evSeen_setHsw_if _ (by decide)⟩
      exact ((ChannelKept.refl _).pulse.ite (ChannelKept.refl _)).setHsw _
  case limit =>
    intro r
    refine ⟨fun mA hst hout hmA => ?entry, fun hst => answers_setHsw rfl ha (if_pos hst),
      fun hin hlate => answers_setHsw rfl ha (if_pos ⟨hin, hlate⟩), fun hst hfree => answers_setHsw rfl ha (if_pos ⟨hst, hfree⟩)⟩
    case entry =>
      have hf : hswLimEntry n.val mA s.m.hw = setHsw s.m.hw n.val { r with st := .limit, acc := true } := if_pos ⟨hst, hout, hmA⟩
      refine answers_hw rfl ha hf ⟨hsw_setHsw_same .., ((ChannelKept.refl _).setHsw _).hswKept, fun hon => ?_⟩
      exact (bit_raw_setHsw _ hon).trans (decide_eq_true rfl)

end Sys2Proof.Machine

/-! ## Trips of high-side channels (R112 … R116, R124, R638) -/

namespace Sys2Proof.Machine

section
variable {h : Hw} {n : Nat}

/-- Another register of a channel's page than EV_RAW and EV_STAT keeps its value while the channel's record changes. -/
theorem rd_setHsw (r : HswCh) {off : Nat} (hraw : off ≠ oRAW) (hstat : off ≠ oSTAT) : rd (setHsw h n r) 0x10 n off = rd h 0x10 n off :=
  ((ChannelKept.refl h).setHsw (l := []) r).regs _ (by simp [hraw, hstat])

/-- TRIP_CNT counts where the trip comes from ON or LIMIT and the page is ON. -/
def tripCounted (h : Hw) (n : Nat) : Hw :=
  if ((hsw h n).st = .on ∨ (hsw h n).st = .limit) ∧ pageOn h 0x10 n = true then incSat h 0x10 n 0x04C 0 16 1 else h

theorem hswTrip_eq (st : HswSt) : hswTrip h n st = setHsw (tripCounted h n) n { hswCut (hsw h n) with st := st } := rfl

@[simp] theorem hsw_hswTrip (st : HswSt) : hsw (hswTrip h n st) n = { hswCut (hsw h n) with st := st } := by
  rw [hswTrip_eq, hsw_setHsw_same]

namespace ChannelKept

theorem hswTrip {h x : Hw} (e : ChannelKept n [0x04C] h x) (st : HswSt) : ChannelKept n [0x04C] h (hswTrip x n st) :=
  ((e.wr _ (by simp)).ite e).setHsw _

end ChannelKept

theorem fld_tripCnt_hswTrip (st : HswSt) (hst : (hsw h n).st = .on ∨ (hsw h n).st = .limit) (hon : pageOn h 0x10 n = true) :
    fld (rd (hswTrip h n st) 0x10 n 0x04C) 0 16 = min 0xFFFF (fld (rd h 0x10 n 0x04C) 0 16 + 1) := by
  rw [hswTrip_eq, rd_setHsw _ (by decide) (by decide), tripCounted, if_pos ⟨hst, hon⟩, incSat, rd_wrF_same,
    fld_setFld_same _ _ (by decide)]
  omega

/-- A source that pulses before a trip is set after it. -/
theorem evSeen_hswTrip {m : Nat} (hm : m < 32) (st : HswSt) : evSeen (hswTrip (pulse h 0x10 n m) n st) 0x10 n m := fun hon => by
  rw [((ChannelKept.refl h).pulse.hswTrip st).frame.pageOn] at hon
  rw [hswTrip_eq]
  refine bit_stat_setHsw _ hm ?_
  have hstat : rd (tripCounted (pulse h 0x10 n m) n) 0x10 n oSTAT = rd (pulse h 0x10 n m) 0x10 n oSTAT := by
    unfold tripCounted
    split
    · exact rd_wr_off _ _ _ _ (by decide)
    · rfl
  rw [hstat]
  exact bit_stat_pulse hon hm

end

/-- A protection switch-off of a driving channel that pulses source `src` (R113, R115, R124). -/
theorem answers_trip {c : Instr} {s : State} {f : Hw → Hw} {n src : Nat} (hx : exec c s = .next (s.onHw f)) (ha : s.alive = true)
    (hsrc : src < 32) (hst : (hsw s.m.hw n).st = .on ∨ (hsw s.m.hw n).st = .limit)
    (hf : f s.m.hw = hswTrip (pulse s.m.hw 0x10 n src) n (retryOrLockout (hsw s.m.hw n))) :
    let r := hsw s.m.hw n
    Answers c s (fun t =>
      hsw t.m.hw n = { r with
        out := false, pend := false, inrush := false, acc := false, limAt := none, ran := r.ran || r.out
        st := if r.retryLeft = 0 then .lockout else .retry } ∧
      evSeen t.m.hw 0x10 n src ∧ hswKept s t n [oRAW, oSTAT, 0x04C] ∧
      (pageOn s.m.hw 0x10 n = true → fld (rd t.m.hw 0x10 n 0x04C) 0 16 = min 0xFFFF (fld (rd s.m.hw 0x10 n 0x04C) 0 16 + 1))) := by
  refine answers_hw hx ha hf ⟨?record, evSeen_hswTrip hsrc _, ((ChannelKept.refl _).pulse.hswTrip _).hswKept, fun hon => ?count⟩
  case record => exact (hsw_hswTrip _).trans (by rw [hsw_pulse]; rfl)
  case count =>
    rw [← rd_pulse_off s.m.hw 0x10 n src (show 0x04C ≠ oSTAT by decide)]
    exact fld_tripCnt_hswTrip _ (by rwa [hsw_pulse]) (by rwa [pageOn_pulse])

/-! ## The thermal latch, retries and open load of a channel (R114 … R116, R122 … R124) -/

/-- At T_TL the latch sets; a channel in WIRE stays there, any other trips into THERM. -/
theorem answers_hswTherm {n : Fin 96} {degC : Nat} {s : State} (ha : s.alive = true) (hs : (hsw s.m.hw n.val).supplied = true)
    (hT : 165 ≤ degC) :
    let r := hsw s.m.hw n.val
    Answers (.hswThermalLatchSet n degC) s (fun t =>
      hsw t.m.hw n.val = (if r.st = .wire then { r with tl := true } else { hswCut r with tl := true, st := .therm }) ∧
      hswKept s t n.val [oRAW, oSTAT, 0x04C]) := by
  intro r
  have hput := ChannelKept.record (l := [0x04C]) (n := n.val) s.m.hw { r with tl := true } s.m.hw.hswT
  by_cases hw : r.st = .wire
  · refine answers_hw rfl ha ((if_pos ⟨hs, hT⟩).trans (if_pos hw)) ⟨?_, (hput.setHsw _).hswKept⟩
    exact (hsw_setHsw_same ..).trans (if_pos hw).symm
  · refine answers_hw rfl ha ((if_pos ⟨hs, hT⟩).trans (if_neg hw)) ⟨?_, (hput.hswTrip _).hswKept⟩
    rw [if_neg hw]
    exact (hsw_hswTrip _).trans (by simp [hsw, hswCut, r])

theorem hswThermRelease_runs {n degC : Nat} {h : Hw} (htl : (hsw h n).tl = true) (hT : degC ≤ 170) :
    let r := hsw h n
    hswThermRelease n degC h = setHsw h n { r with
      tl := false
      st := if r.st ≠ .therm then r.st else if r.cmd = 0 then .off else if r.retryLeft = 0 then .lockout else .retry } := by
  intro r
  by_cases hst : r.st = .therm <;> simp [hswThermRelease, htl, hT, r, hst, retryOrLockout]

/-- The channel's record after its retry delay, with the one retry used (R115, R123, R124). -/
def retried (h : Hw) (n : Nat) : HswCh :=
  let r := { hsw h n with retryLeft := (hsw h n).retryLeft - 1 }
  if r.cmd = 0 then { r with st := .off }
  else if feedNormal h (hswGroup n) = true then
    if r.cmd = 1 ∧ r.flashOff = false then { r with st := .on, out := true, inrush := decide (dieF h 0x10 n 0x40C 8 8 ≠ 0) }
    else { r with st := .on, fresh := true }
  else { r with st := .uvoff }

theorem hswRetryEnd_runs {n : Nat} {h : Hw} (hst : (hsw h n).st = .retry)
    (hlate : (hswT h n).retryAt + retryTime h n * 95 / 100 ≤ h.now) : hswRetryEnd n h = setHsw h n (retried h n) := by
  refine (if_pos ⟨hst, hlate⟩).trans ?_
  simp only [retried, apply_ite (setHsw h n)]

/-! ## The wire model (R118 … R121) -/

/-- θ of channel `n` after an update with the mean square current `i2` (R118). -/
def wireNext (h : Hw) (n i2 : Nat) : Nat :=
  let r := hsw h n
  let steady : Int := (wireK h n * 65536 * (if r.out || r.ran then i2 else 0) / 10 ^ 10 : Nat)
  let next : Int := if r.modelOff then (dieF h 0x10 n 0x418 24 8 * 2 ^ 32 : Nat)
    else r.thetaX + (steady - r.thetaX) / (100 * wireTau h n : Nat)
  min (0xFFFE * 2 ^ 26) next.toNat

/-- The record of channel `n` after the update, before what follows from it. -/
def wireStep (h : Hw) (n i2 : Nat) : HswCh :=
  { hsw h n with thetaX := wireNext h n i2, modelOff := false, ran := (hsw h n).out, allow := wireA h n }

section
variable {n i2 : Nat} {h : Hw} (hs : (hsw h n).supplied = true)
include hs

theorem hswWire_selected (hsel : wireOff h n = false) :
    hswWire n i2 h = if (hsw h n).st = .wire then
        setHsw { h with hsw := smPut {} n (wireStep h n i2) h.hsw } n
          (if wireCool h n (wireStep h n i2) && (hsw h n).offSeen then hswSettle h n (wireStep h n i2) else wireStep h n i2)
      else if wireHot h n (wireStep h n i2) then
        hswTrip { h with hsw := smPut {} n { wireStep h n i2 with offSeen := false } (smPut {} n (wireStep h n i2) h.hsw) } n .wire
      else setHsw { h with hsw := smPut {} n (wireStep h n i2) h.hsw } n (wireStep h n i2) :=
  (if_pos hs).trans (if_neg (by simp [hsel]))

theorem hswWire_none (hsel : wireOff h n = true) (hst : (hsw h n).st ≠ .wire) :
    hswWire n i2 h = setHsw h n { hsw h n with thetaX := 0, modelOff := true } := by
  refine (if_pos hs).trans ((if_pos hsel).trans ?_)
  simp [wireSelect, hs, hsel, hst]

end

theorem wireHot_wireStep {n i2 : Nat} {h : Hw} (hsel : wireOff h n = false) :
    wireHot h n (wireStep h n i2) = true ↔ wireA h n * 64 ≤ (min 0xFFFE (wireNext h n i2 / 2 ^ 26) : Nat) := by
  simp [wireHot, hsel, theta, wireStep]

/-- An update with a wire selected, by the channel's state and its new rise (R118, R120). -/
theorem answers_wire {n : Fin 96} {i2 : Nat} {s : State} (ha : s.alive = true) (hs : (hsw s.m.hw n.val).supplied = true)
    (hsel : wireOff s.m.hw n.val = false) :
    let r := hsw s.m.hw n.val
    let r1 := wireStep s.m.hw n.val i2
    let becomes := fun (x : HswCh) (l : List Nat) =>
      Answers (.wireModelUpdate n i2) s (fun t => hsw t.m.hw n.val = x ∧ hswKept s t n.val l)
    (r.st ≠ .wire → ¬ wireHot s.m.hw n.val r1 = true → becomes r1 [oRAW, oSTAT]) ∧
    (r.st ≠ .wire → wireHot s.m.hw n.val r1 = true → becomes { hswCut r1 with offSeen := false, st := .wire } [oRAW, oSTAT, 0x04C]) ∧
    (r.st = .wire → becomes (if wireCool s.m.hw n.val r1 && r.offSeen then hswSettle s.m.hw n.val r1 else r1) [oRAW, oSTAT]) := by
  intro r r1 becomes
  have hrun := hswWire_selected (i2 := i2) hs hsel
  have hput (l : List Nat) : ChannelKept n.val l s.m.hw { s.m.hw with hsw := smPut {} n.val r1 s.m.hw.hsw } := .record ..
  refine ⟨fun hst hcold => ?cold, fun hst hhot => ?hot, fun hst => ?wire⟩
  case cold =>
    rw [if_neg hst, if_neg hcold] at hrun
    exact answers_setHsw_from rfl ha (hput []) hrun
  case hot =>
    rw [if_neg hst, if_pos hhot] at hrun
    refine answers_hw rfl ha hrun ⟨(hsw_hswTrip _).trans ?_, (((hput _).trans (.record ..)).hswTrip _).hswKept⟩
    simp [hsw, hswCut, r1]
  case wire =>
    rw [if_pos hst] at hrun
    exact answers_setHsw_from rfl ha (hput []) hrun

/-- Settles O16: each command is a trip of its channel or a new record of it, and `answers_trip`, `answers_hswTherm`, `answers_wire` and
`answers_setHsw` say what that leaves. -/
theorem hswProtection : Obligations.HswProtection := by
  refine ⟨fun n s ha => ?trips, fun n degC s ha => ?thermal, fun n s ha hst hlate => ?retry, fun n i2 s ha hs => ?wire,
    fun n mA s ha hst hout => ?openLoad⟩
  case trips =>
    intro r trip
    refine ⟨fun mA hst hout hmA => ?short, fun mA hst hout hmA => ?reverse, fun hst hlimq => ?limq⟩
    case short => exact answers_trip rfl ha (by decide) hst (if_pos ⟨hst, hout, by omega⟩)
    case reverse => exact answers_trip rfl ha (by decide) hst (if_pos ⟨hst, hout, hmA⟩)
    case limq => exact answers_trip rfl ha (by decide) (.inr hst) (if_pos ⟨hst, hlimq⟩)
  case thermal =>
    exact ⟨fun hs hT => answers_hswTherm ha hs hT, fun htl hT => answers_setHsw rfl ha (hswThermRelease_runs htl hT)⟩
  case retry =>
    intro r normal after
    have hafter {x : HswCh} (hx : retried s.m.hw n.val = { x with retryLeft := r.retryLeft - 1 }) : after x :=
      answers_setHsw rfl ha ((hswRetryEnd_runs hst hlate).trans (congrArg _ hx))
    refine ⟨fun hoff => hafter ?_, fun hn hon hlit => hafter ?_, fun hn hoff hwait => hafter ?_, fun hn hoff => hafter ?_⟩
    · exact if_pos hoff
    · exact (if_neg (show r.cmd ≠ 0 by omega)).trans ((if_pos hn).trans (if_pos ⟨hon, hlit⟩))
    · exact (if_neg hoff).trans ((if_pos hn).trans (if_neg fun ⟨hon, hlit⟩ =>
        hwait.elim (· hon) fun hdark => Bool.false_ne_true (hlit.symm.trans hdark)))
    · exact (if_neg hoff).trans (if_neg hn)
  case wire =>
    refine ⟨fun hsel => ?_, fun hsel hst => answers_setHsw rfl ha (hswWire_none hs hsel hst)⟩
    obtain ⟨hcold, hhot, hwire⟩ := answers_wire (i2 := i2) ha hs hsel
    exact ⟨fun hst hc => hcold hst (mt (wireHot_wireStep hsel).1 hc), fun hst hh => hhot hst ((wireHot_wireStep hsel).2 hh), hwire⟩
  case openLoad =>
    exact ⟨fun hqt hlow => answers_setHsw rfl ha (if_pos ⟨hst, hout, hqt, hlow⟩),
      fun hhigh => answers_setHsw rfl ha (if_pos ⟨hst, hout, by omega⟩)⟩

end Sys2Proof.Machine

/-! ## What the half-bridges, the banks and the measurement groups leave of the high side -/

namespace Sys2Proof.Machine

/-- What remains of the blocks when the registers and the records of half-bridges, valves, banks and measurement groups are left out: two
states with the same high side agree on the channels, the feed groups, the configurations and the clock. -/
def highSide (h : Hw) : Hw := { h with regs := [], epochs := [], meas := [], hbr := [], hbrTl := [], valves := [], banks := [] }

/-- What every step of a loop keeps, the loop keeps. -/
theorem forL_keeps {α β : Type} (p : Hw → β) {f : α → Hw → Hw} (hf : ∀ a x, p (f a x) = p x) (l : List α) (h : Hw) :
    p (forL l f h) = p h := by
  unfold forL
  induction l generalizing h with
  | nil => rfl
  | cons a l ih => exact (ih _).trans (hf a h)

theorem forN_keeps {β : Type} (p : Hw → β) {f : Nat → Hw → Hw} (hf : ∀ i x, p (f i x) = p x) (n : Nat) (h : Hw) :
    p (forN n f h) = p h := forL_keeps p hf (List.range n) h

theorem highSide_onlyRegs {h x : Hw} (e : OnlyRegs h x) : highSide x = highSide h := by
  rw [e]
  rfl

theorem highSide_hbr (h : Hw) (m : List (Nat × HbrU)) : highSide { h with hbr := m } = highSide h := rfl
theorem highSide_hbrTl (h : Hw) (m : List (Nat × Bool)) : highSide { h with hbrTl := m } = highSide h := rfl
theorem highSide_epochs (h : Hw) (m : List (Nat × Nat)) : highSide { h with epochs := m } = highSide h := rfl
theorem highSide_valves (h : Hw) (m : List (Nat × Valve)) : highSide { h with valves := m } = highSide h := rfl
theorem highSide_banks (h : Hw) (m : List (Nat × Bank)) : highSide { h with banks := m } = highSide h := rfl
theorem highSide_meas (h : Hw) (m : List (Nat × MeasG)) : highSide { h with meas := m } = highSide h := rfl

@[simp] theorem highSide_wr (h : Hw) (ty i off : Nat) (v : Word) : highSide (wr h ty i off v) = highSide h :=
  highSide_onlyRegs (OnlyRegs.refl h).wr
@[simp] theorem highSide_wrF (h : Hw) (ty i off lo n v : Nat) : highSide (wrF h ty i off lo n v) = highSide h := highSide_wr ..
@[simp] theorem highSide_incSat (h : Hw) (ty i off lo n k : Nat) : highSide (incSat h ty i off lo n k) = highSide h := highSide_wr ..
@[simp] theorem highSide_pulse (h : Hw) (ty i n : Nat) : highSide (pulse h ty i n) = highSide h :=
  highSide_onlyRegs (OnlyRegs.refl h).pulse

@[simp] theorem highSide_hswLevels (n : Nat) (h : Hw) : highSide (hswLevels n h) = highSide h := highSide_onlyRegs (hswLevels_onlyRegs n h)
@[simp] theorem highSide_hbrLevels (n : Nat) (h : Hw) : highSide (hbrLevels n h) = highSide h := highSide_onlyRegs (hbrLevels_onlyRegs n h)
@[simp] theorem highSide_solLevels (g : Nat) (h : Hw) : highSide (solLevels g h) = highSide h := highSide_onlyRegs (solLevels_onlyRegs g h)
@[simp] theorem highSide_measLevels (g : Nat) (h : Hw) : highSide (measLevels g h) = highSide h := highSide_onlyRegs (measLevels_onlyRegs g h)

/-! ### Half-bridges -/

@[simp] theorem highSide_setHbr (h : Hw) (u : Nat) (r : HbrU) : highSide (setHbr h u r) = highSide h :=
  (forL_keeps highSide (fun n x => highSide_hbrLevels n x) ..).trans (highSide_hbr ..)

@[simp] theorem highSide_hbrPulse (h : Hw) (u k : Nat) : highSide (hbrPulse h u k) = highSide h :=
  forL_keeps highSide (fun n x => highSide_pulse x 0x11 n k) ..

@[simp] theorem highSide_hbrUv (u : Nat) (h : Hw) : highSide (hbrUv u h) = highSide h := by
  unfold hbrUv
  dsimp only
  split <;> exact highSide_setHbr ..

@[simp] theorem highSide_hbrRestart (u : Nat) (h : Hw) : highSide (hbrRestart u h) = highSide h := by
  unfold hbrRestart
  dsimp only
  rw [highSide_hbrPulse]
  split_ifs <;> exact highSide_setHbr ..

@[simp] theorem highSide_hbrUnsupply (u : Nat) (h : Hw) : highSide (hbrUnsupply u h) = highSide h :=
  (highSide_setHbr ..).trans (highSide_hbrTl ..)

@[simp] theorem highSide_hbrFresh (u : Nat) (h : Hw) : highSide (hbrFresh u h) = highSide h := highSide_setHbr ..

@[simp] theorem highSide_hbrApply (u c d : Nat) (keep : Bool) (h : Hw) : highSide (hbrApply u c d keep h) = highSide h := by
  unfold hbrApply
  dsimp only
  split_ifs
  · exact (highSide_hbr ..).trans (highSide_setHbr ..)
  · exact (highSide_epochs ..).trans (highSide_setHbr ..)
  · exact highSide_setHbr ..

/-! ### Valves and banks -/

@[simp] theorem highSide_setBank (h : Hw) (g : Nat) (b : Bank) : highSide (setBank h g b) = highSide h := highSide_banks ..

@[simp] theorem highSide_setValve (h : Hw) (g v : Nat) (r : Valve) : highSide (setValve h g v r) = highSide h := by
  unfold setValve
  dsimp only
  rw [highSide_solLevels]
  split
  · exact highSide_valves ..
  · exact (highSide_setBank ..).trans (highSide_valves ..)

@[simp] theorem highSide_solPeakDone (g v : Nat) (h : Hw) : highSide (solPeakDone g v h) = highSide h := by
  unfold solPeakDone
  dsimp only
  split_ifs <;> simp

@[simp] theorem highSide_solReject (g v c : Nat) (h : Hw) : highSide (solReject g v c h) = highSide h := by simp [solReject]

@[simp] theorem highSide_solAdmit (g v : Nat) (keep : Option Nat) (h : Hw) : highSide (solAdmit g v keep h) = highSide h := by
  unfold solAdmit
  dsimp only
  split <;> simp

@[simp] theorem highSide_solOff (g v : Nat) (h : Hw) : highSide (solOff g v h) = highSide h := by
  unfold solOff
  dsimp only
  split <;> simp

@[simp] theorem highSide_bankClear (g : Nat) (h : Hw) : highSide (bankClear g h) = highSide h := by
  unfold bankClear
  split <;> simp

@[simp] theorem highSide_dutyWindow (g v was : Nat) (h : Hw) : highSide (dutyWindow g v was h) = highSide h := by
  unfold dutyWindow
  split <;> simp

@[simp] theorem highSide_solUv (g : Nat) (h : Hw) : highSide (solUv g h) = highSide h := by
  rw [solUv, highSide_solLevels]
  refine forN_keeps highSide (fun v x => ?_) ..
  dsimp only
  split <;> simp

@[simp] theorem highSide_solRestart (g : Nat) (h : Hw) : highSide (solRestart g h) = highSide h := by
  unfold solRestart
  dsimp only
  rw [highSide_solLevels, highSide_pulse]
  refine forN_keeps highSide (fun v x => ?_) ..
  split_ifs
  · split
    · split_ifs <;> simp
    · simp
  all_goals simp

@[simp] theorem highSide_solUnsupply (g : Nat) (h : Hw) : highSide (solUnsupply g h) = highSide h := by
  unfold solUnsupply
  dsimp only
  rw [highSide_solLevels, highSide_setBank]
  exact forN_keeps highSide (fun v x => by simp) ..

@[simp] theorem highSide_fbSol (g : Nat) (h : Hw) : highSide (fbSol g h) = highSide h := by
  rw [fbSol, highSide_bankClear]
  refine forN_keeps highSide (fun v x => ?_) ..
  split
  · rfl
  · exact (highSide_solOff ..).trans (highSide_valves ..)

/-! ### Measurement groups -/

@[simp] theorem highSide_setMeas (h : Hw) (g : Nat) (r : MeasG) : highSide (setMeas h g r) = highSide h := highSide_meas ..

@[simp] theorem highSide_winAbort (g : Nat) (h : Hw) : highSide (winAbort g h) = highSide h := by
  unfold winAbort
  dsimp only
  split
  · rfl
  · simp [calDone]
  · rfl

@[simp] theorem highSide_winOnCmd (g : Nat) (h : Hw) : highSide (winOnCmd g h) = highSide h := by
  unfold winOnCmd
  split <;> simp

theorem highSide_measFeedLost (g : Nat) (h : Hw) : highSide (measFeedLost g h) = highSide h := by
  have hvalid := forN_keeps highSide
    (f := fun i x => wr x 0x14 g (0x100 + 4 * i) (setBit (rd x 0x14 g (0x100 + 4 * i)) 30 false)) (fun _ _ => highSide_wr ..) 34 h
  unfold measFeedLost
  dsimp only
  split
  · split
    · exact (highSide_winAbort ..).trans hvalid
    · exact hvalid
  · exact hvalid

@[simp] theorem highSide_measFeed (g : Nat) (ok : Bool) (h : Hw) : highSide (measFeed g ok h) = highSide h := by
  unfold measFeed
  split
  · rw [highSide_measLevels]
    cases ok
    · exact highSide_measFeedLost g h
    · exact highSide_setMeas ..
  · rfl

/-! ### Feed groups -/

@[simp] theorem highSide_feedLevels (g : Nat) (h : Hw) : highSide (feedLevels g h) = highSide h := by
  rw [feedLevels, highSide_solLevels, forL_keeps highSide fun n x => highSide_hbrLevels n x,
    forL_keeps highSide fun n x => highSide_hswLevels n x]

@[simp] theorem highSide_uvCount (g : Nat) (h : Hw) : highSide (uvCount g h) = highSide h := by
  unfold uvCount
  split
  · exact highSide_incSat ..
  · rfl

theorem hsw_highSide {h x : Hw} (e : highSide x = highSide h) (n : Nat) : hsw x n = hsw h n := by
  have hrecords : (highSide x).hsw = (highSide h).hsw := by rw [e]
  exact congrArg (fun m => smGet {} m n) hrecords

theorem feeds_highSide {h x : Hw} (e : highSide x = highSide h) : x.feeds = h.feeds := by
  have hrecords : (highSide x).feeds = (highSide h).feeds := by rw [e]
  exact hrecords

end Sys2Proof.Machine

/-! ## The channels of a feed group, one after another -/

namespace Sys2Proof.Machine

@[simp] theorem feed_setFeed_same (h : Hw) (g : Nat) (r : Feed) : feed (setFeed h g r) g = r := by simp [feed, setFeed]

theorem feed_congr {h x : Hw} (e : x.feeds = h.feeds) (g : Nat) : feed x g = feed h g := by rw [feed, e, feed]

theorem mem_groupCh {g n : Nat} : n ∈ groupCh g ↔ n < 96 ∧ hswGroup n = g := by simp [groupCh]

theorem nodup_groupCh (g : Nat) : (groupCh g).Nodup := List.nodup_range.filter _

section
variable {f : Nat → Hw → Hw} {e : List Nat} (hf : ∀ n x, ChannelKept n e x (f n x))
include hf

theorem OnlyHsw.forL (l : List Nat) (h : Hw) : OnlyHsw h (forL l f h) := by
  unfold Machine.forL
  induction l generalizing h with
  | nil => exact OnlyHsw.refl h
  | cons n l ih => exact (hf n h).frame.trans (ih _)

/-- A channel that a loop over channels does not reach keeps its record. -/
theorem hsw_forL_ne {l : List Nat} {n : Nat} (hn : n ∉ l) (h : Hw) : hsw (forL l f h) n = hsw h n := by
  unfold forL
  induction l generalizing h with
  | nil => rfl
  | cons k l ih =>
    rw [List.mem_cons, not_or] at hn
    exact (ih hn.2 _).trans ((hf k h).others n hn.1)

/-- A channel that a loop over channels reaches takes the record that the loop's step gives it, in a state that differs from the first in
the registers and the other channels alone. -/
theorem hsw_forL_mem {l : List Nat} {n : Nat} (hl : l.Nodup) (hn : n ∈ l) (h : Hw) :
    ∃ x, OnlyHsw h x ∧ hsw x n = hsw h n ∧ hsw (forL l f h) n = hsw (f n x) n := by
  induction l generalizing h with
  | nil => simp at hn
  | cons k l ih =>
    obtain ⟨hk, hl⟩ := List.nodup_cons.1 hl
    by_cases hkn : n = k
    · subst hkn
      exact ⟨h, OnlyHsw.refl h, rfl, hsw_forL_ne hf hk _⟩
    · obtain ⟨x, hx, hsame, hlast⟩ := ih hl ((List.mem_cons.1 hn).resolve_left hkn) (f k h)
      exact ⟨x, (hf k h).frame.trans hx, hsame.trans ((hf k h).others n hkn), hlast⟩

end

theorem hswUv_kept (n : Nat) (h : Hw) : ChannelKept n [] h (hswUv n h) :=
  ((ChannelKept.refl h).setHsw _).ite ((ChannelKept.refl h).setHsw _)
theorem hswGroupRestart_kept (n : Nat) (h : Hw) : ChannelKept n [] h (hswGroupRestart n h) := ((ChannelKept.refl h).setHsw _).pulse
theorem hswUnsupply_kept (n : Nat) (h : Hw) : ChannelKept n [] h (hswUnsupply n h) := (ChannelKept.refl h).setHsw _
theorem hswSupply_kept (n : Nat) (h : Hw) : ChannelKept n [] h (hswSupply n h) := (ChannelKept.refl h).setHsw _

end Sys2Proof.Machine

/-! ## The voltage of a feed group (R125 … R127) -/

namespace Sys2Proof.Machine

/-- The record of channel `n` at an under-voltage of its group (R126). -/
def undervolted (r : HswCh) : HswCh :=
  if r.st = .on ∨ r.st = .limit ∨ r.st = .off then { hswCut r with st := if r.cmd = 0 then .off else .uvoff } else r

theorem hsw_hswUv (n : Nat) (h : Hw) : hsw (hswUv n h) n = undervolted (hsw h n) := by
  unfold hswUv undervolted
  dsimp only
  split <;> exact hsw_setHsw_same ..

/-- The record of channel `n` at the restart of its group (R127). -/
def restarted (h : Hw) (n : Nat) (r : HswCh) : HswCh :=
  if r.st ≠ .uvoff then r
  else if r.cmd = 1 then { hswCut r with st := .off, pend := true, edgeAt := h.now + dieF h 0x10 n 0x404 0 16, fresh := true }
  else { hswCut r with st := .on, fresh := true }

theorem hsw_hswGroupRestart (n : Nat) (h : Hw) : hsw (hswGroupRestart n h) n = restarted h n (hsw h n) := by
  simp only [hswGroupRestart, hsw_pulse, hsw_setHsw_same, restarted, hswRestart, ite_not]

theorem restarted_onlyHsw {h x : Hw} (e : OnlyHsw h x) (n : Nat) (r : HswCh) : restarted x n r = restarted h n r := by
  simp only [restarted, e.now, e.dieF]

/-- What a pass over the channels of group `g` by `f` leaves when everything beside the channels is looked away from. -/
structure GroupPass (g : Nat) (f : Nat → Hw → Hw) (x y : Hw) : Prop where
  feeds : y.feeds = x.feeds
  inside : ∀ n, n < 96 → hswGroup n = g → ∃ z, OnlyHsw x z ∧ hsw z n = hsw x n ∧ hsw y n = hsw (f n z) n
  outside : ∀ n, hswGroup n ≠ g → hsw y n = hsw x n

theorem groupPass_of_highSide {g : Nat} {f : Nat → Hw → Hw} {x y : Hw} (hf : ∀ n x, ChannelKept n [] x (f n x))
    (e : highSide y = highSide (forL (groupCh g) f x)) : GroupPass g f x y where
  feeds := (feeds_highSide e).trans (OnlyHsw.forL hf _ x).feeds
  inside n hn hg := by
    obtain ⟨z, hz, hsame, hlast⟩ := hsw_forL_mem hf (nodup_groupCh g) (mem_groupCh.2 ⟨hn, hg⟩) x
    exact ⟨z, hz, hsame, (hsw_highSide e n).trans hlast⟩
  outside n hg := (hsw_highSide e n).trans (hsw_forL_ne hf (fun hn => hg (mem_groupCh.1 hn).2) x)

@[simp] theorem hsw_uvCount (g : Nat) (h : Hw) (n : Nat) : hsw (uvCount g h) n = hsw h n := hsw_highSide (highSide_uvCount g h) n

@[simp] theorem feed_uvCount (g : Nat) (h : Hw) (k : Nat) : feed (uvCount g h) k = feed h k :=
  feed_congr (feeds_highSide (highSide_uvCount g h)) k

section
variable {g : Nat} {h : Hw} (hs : (feed h g).supply = .on)
include hs

theorem feedUv_pass (hlow : (feed h g).low = true) (hlate : (feed h g).lowAt + uvFilt h g * 90 / 100 ≤ h.now) :
    GroupPass g hswUv (uvCount g (setFeed h g { feed h g with uv := true, rstPend := false, low := false })) (feedUv g h) := by
  refine groupPass_of_highSide hswUv_kept ?_
  unfold feedUv
  rw [if_pos ⟨hs, hlow, hlate⟩, highSide_feedLevels, highSide_solUv, forL_keeps highSide fun u x => highSide_hbrUv u x]

theorem feedRestart_pass (hpend : (feed h g).rstPend = true) (hlate : (feed h g).rstAt + rstDly h g * 95 / 100 ≤ h.now) :
    GroupPass g hswGroupRestart (setFeed h g { feed h g with uv := false, rstPend := false }) (feedRestart g h) := by
  refine groupPass_of_highSide hswGroupRestart_kept ?_
  unfold feedRestart
  rw [if_pos ⟨hs, hpend, hlate⟩, highSide_feedLevels, highSide_solRestart, forL_keeps highSide fun u x => highSide_hbrRestart u x]

/-- The feed group whose die loses its supply, counted as an under-voltage where it was in none. -/
def lostFeed (g : Nat) (h : Hw) : Hw :=
  let x := setFeed h g { feed h g with supply := .lost, uv := true, rstPend := false, low := false }
  if (feed h g).uv then x else uvCount g x

theorem dieLoss_pass : GroupPass g hswUnsupply (lostFeed g h) (dieLoss g h) := by
  refine groupPass_of_highSide hswUnsupply_kept ?_
  unfold dieLoss
  rw [if_pos hs, highSide_measFeed, highSide_feedLevels, highSide_solUnsupply, forL_keeps highSide fun u x => highSide_hbrUnsupply u x]
  rfl

end

theorem highSide_lostFeed (g : Nat) (h : Hw) :
    highSide (lostFeed g h) = highSide (setFeed h g { feed h g with supply := .lost, uv := true, rstPend := false, low := false }) := by
  unfold lostFeed
  dsimp only
  split
  · rfl
  · exact highSide_uvCount ..

end Sys2Proof.Machine

/-! ## The configuration that a die loads, and its supply (R128, R131, R505) -/

namespace Sys2Proof.Machine

/-- The applied configuration of the page at `b` passes to its die. -/
def copyCfg (b : Nat) (x : Hw) : Hw := { x with dieCfg := smCopyRange (b + 0x400) (b + 0x800) x.applied x.dieCfg }

/-- After the pages `l` passed to their dies, their staged registers read there as applied, all others as before. -/
theorem smGet_copyCfg (d : Word) (a : Nat) (l : List Nat) (h : Hw) : smGet d (forL l copyCfg h).dieCfg a =
    if ∃ b ∈ l, b + 0x400 ≤ a ∧ a < b + 0x800 then smGet d h.applied a else smGet d h.dieCfg a := by
  unfold forL
  induction l generalizing h with
  | nil => simp
  | cons b l ih =>
    have hb : smGet d (copyCfg b h).dieCfg a =
        if b + 0x400 ≤ a ∧ a < b + 0x800 then smGet d h.applied a else smGet d h.dieCfg a := smGet_smCopyRange d (by omega) ..
    rw [List.foldl_cons, ih, hb]
    by_cases hin : b + 0x400 ≤ a ∧ a < b + 0x800 <;> by_cases hrest : ∃ b ∈ l, b + 0x400 ≤ a ∧ a < b + 0x800 <;>
      simp [hin, hrest, copyCfg]

/-- What the changes that follow a new configuration of a die leave alone: the straps, the dies' configuration, the feed groups and the
commands of the channels. -/
def loadView (h : Hw) : Word × List (Nat × Word) × List (Nat × Feed) × (Nat → Nat) :=
  (h.straps, h.dieCfg, h.feeds, fun n => (hsw h n).cmd)

theorem loadView_highSide {h x : Hw} (e : highSide x = highSide h) : loadView x = loadView h := by
  have hview : loadView (highSide x) = loadView (highSide h) := by rw [e]
  exact hview

theorem loadView_channel {n : Nat} {l : List Nat} {x y : Hw} (e : ChannelKept n l x y) (hc : (hsw y n).cmd = (hsw x n).cmd) :
    loadView y = loadView x := by
  have hcmd : (fun k => (hsw y k).cmd) = fun k => (hsw x k).cmd := funext fun k => by
    by_cases hk : k = n
    · rw [hk, hc]
    · rw [e.others k hk]
  have hframe := e.frame
  rw [loadView, loadView, hcmd, hframe]

theorem hswSettle_cmd (h : Hw) (n : Nat) (r : HswCh) : (hswSettle h n r).cmd = r.cmd := by
  unfold hswSettle hswRestart
  split_ifs <;> rfl

theorem loadView_wireSelect (n : Nat) (h : Hw) : loadView (wireSelect n h) = loadView h := by
  unfold wireSelect
  dsimp only
  split
  · refine loadView_channel (l := []) ((ChannelKept.refl h).setHsw _) ?_
    rw [hsw_setHsw_same]
    split
    · exact hswSettle_cmd ..
    · rfl
  · rfl

theorem loadView_schedMoved (old : Hw) (g : Nat) (h : Hw) : loadView (schedMoved old g h) = loadView h := by
  unfold schedMoved
  dsimp only
  rw [forL_keeps loadView fun n x => loadView_highSide (highSide_hbr x _)]
  refine forL_keeps loadView (fun n x => loadView_channel (n := n) (l := []) (.record x _ x.hswT) ?_) ..
  simp [hsw]

/-- Beside the configuration itself, a load of a die changes no feed group and no channel's command. -/
theorem loadView_dieLoad (g : Nat) (f : Nat → Bool) (h : Hw) : loadView (dieLoad g f h) = loadView (forL (diePages g f) copyCfg h) := by
  unfold dieLoad
  dsimp only
  rw [forL_keeps loadView loadView_wireSelect, forN_keeps loadView fun v x => loadView_highSide (highSide_dutyWindow ..),
    forL_keeps loadView fun u x => loadView_highSide (highSide_hbrFresh u x), loadView_schedMoved]
  rfl

theorem feeds_dieLoad (g : Nat) (f : Nat → Bool) (h : Hw) : (dieLoad g f h).feeds = h.feeds :=
  (congrArg (fun v => v.2.2.1) (loadView_dieLoad g f h)).trans (forL_keeps Hw.feeds (f := copyCfg) (fun _ _ => rfl) ..)

theorem cmd_dieLoad (g : Nat) (f : Nat → Bool) (h : Hw) (n : Nat) : (hsw (dieLoad g f h) n).cmd = (hsw h n).cmd := by
  have hcopy : (forL (diePages g f) copyCfg h).hsw = h.hsw := forL_keeps Hw.hsw (f := copyCfg) (fun _ _ => rfl) ..
  refine (congrArg (fun v => v.2.2.2 n) (loadView_dieLoad g f h)).trans ?_
  simp only [loadView, hsw, hcopy]

/-- A die that loads all its pages holds the applied configuration of its channels. -/
theorem die_dieLoad {g n off : Nat} {h : Hw} (hn : n < 96) (hg : hswGroup n = g) (hlo : 0x400 ≤ off) (hhi : off < 0x800) :
    die (dieLoad g (fun _ => true) h) 0x10 n off = cfg h 0x10 n off := by
  have hview := loadView_dieLoad g (fun _ => true) h
  have hstraps : (dieLoad g (fun _ => true) h).straps = h.straps :=
    (congrArg Prod.fst hview).trans (forL_keeps Hw.straps (f := copyCfg) (fun _ _ => rfl) ..)
  have hcfg : (dieLoad g (fun _ => true) h).dieCfg = (forL (diePages g fun _ => true) copyCfg h).dieCfg :=
    congrArg (fun v => v.2.1) hview
  have hpage : pg 0x10 n ∈ diePages g fun _ => true := by
    simp only [diePages, if_true, List.mem_append, List.mem_map]
    exact .inl (.inl ⟨n, mem_groupCh.2 ⟨hn, hg⟩, rfl⟩)
  rw [die, hstraps, hcfg, smGet_copyCfg, if_pos ⟨_, hpage, by omega, by omega⟩]
  rfl

/-- The feed group whose die is supplied again, in under-voltage. -/
def backFeed (g : Nat) (h : Hw) : Hw := setFeed h g { feed h g with supply := .on, uv := true, rstPend := false, low := false }

/-- A die that is supplied again after loading its configuration. -/
def dieBack (g : Nat) (h : Hw) : Hw :=
  measFeed g true (feedLevels g (forL (groupCh g) hswSupply (dieLoad g (fun _ => true) (backFeed g h))))

theorem dieBack_pass (g : Nat) (h : Hw) : GroupPass g hswSupply (dieLoad g (fun _ => true) (backFeed g h)) (dieBack g h) :=
  groupPass_of_highSide hswSupply_kept (by rw [dieBack, highSide_measFeed, highSide_feedLevels])

theorem feed_dieBack (g : Nat) (h : Hw) :
    feed (dieBack g h) g = { feed h g with supply := .on, uv := true, rstPend := false, low := false } := by
  rw [feed_congr ((dieBack_pass g h).feeds.trans (feeds_dieLoad ..)), backFeed, feed_setFeed_same]

theorem dieStart_eq {g : Nat} {h : Hw} (hs : (feed h g).supply ≠ .on) :
    dieStart g h = if (feed h g).mode = .normal then dieBack g h else fallbackDie g (dieBack g h) := if_neg hs

/-- The record of a channel whose die is supplied again (R128). -/
theorem hsw_dieBack {g n : Nat} (h : Hw) (hn : n < 96) (hg : hswGroup n = g) :
    (hsw (dieBack g h) n).out = false ∧ (hsw (dieBack g h) n).supplied = true ∧ (hsw (dieBack g h) n).tl = false ∧
      (hsw (dieBack g h) n).st = (if (hsw h n).cmd = 0 then .off else .uvoff) ∧
      (hsw (dieBack g h) n).retryLeft = cfgF h 0x10 n 0x410 0 4 := by
  obtain ⟨z, hz, hsame, hlast⟩ := (dieBack_pass g h).inside n hn hg
  have hcmd : (hsw z n).cmd = (hsw h n).cmd := by rw [hsame, cmd_dieLoad]; rfl
  have hrmax : hswRmax z n = cfgF h 0x10 n 0x410 0 4 := by
    rw [hswRmax, hz.dieF, dieF, die_dieLoad hn hg (by decide) (by decide)]
    rfl
  rw [hlast, hswSupply, hsw_setHsw_same]
  exact ⟨rfl, rfl, rfl, by rw [hcmd], hrmax⟩

/-! ### The fallback pattern -/

theorem feeds_setHsw (h : Hw) (n : Nat) (r : HswCh) : (setHsw h n r).feeds = h.feeds :=
  ((ChannelKept.refl h).setHsw (l := []) r).frame.feeds

theorem feeds_hswApply (n c d : Nat) (keep : Bool) (h : Hw) : (hswApply n c d keep h).feeds = h.feeds := by
  have hepoch (x : Hw) : (hswEpoch x n).feeds = x.feeds := by
    unfold hswEpoch
    dsimp only
    split <;> rfl
  unfold hswApply
  dsimp only
  split
  · rw [hepoch, feeds_setHsw]
    split <;> simp
  · rw [feeds_setHsw]
    split <;> simp

/-- The first die in FALLBACK begins the first on-phase of the pattern (R502). -/
def flashBegun (h : Hw) : Hw := if anyFallback h then h else { h with rst := { h.rst with flashOn := true, flashAt := h.now } }

theorem feeds_flashBegun (h : Hw) : (flashBegun h).feeds = h.feeds := by
  unfold flashBegun
  split <;> rfl

/-- The pattern acts on channel `n` (R502). -/
def fbChannel (n : Nat) (x : Hw) : Hw :=
  hswApply n (if fbMode x n = 0 then 0 else 1) 0 false
    { x with hsw := smPut {} n { hsw x n with flashOff := decide (fbMode x n = 2) && !x.rst.flashOn } x.hsw }

theorem feeds_fbChannel (n : Nat) (x : Hw) : (fbChannel n x).feeds = x.feeds := feeds_hswApply ..

theorem fallbackDie_eq (g : Nat) (h : Hw) :
    let x := forL (groupCh g) fbChannel (setFeed (flashBegun h) g { feed (flashBegun h) g with mode := .fallback })
    fallbackDie g h = winOnCmd g (fbSol g (forL (dieUnits x g) (fun u y => hbrApply u 0 0 false y) x)) := rfl

/-- The pattern leaves the feed groups as they are but for the die's mode. -/
theorem feed_fallbackDie (g : Nat) (h : Hw) : feed (fallbackDie g h) g = { feed h g with mode := .fallback } := by
  rw [fallbackDie_eq, feed_congr (feeds_highSide (highSide_winOnCmd ..)), feed_congr (feeds_highSide (highSide_fbSol ..)),
    feed_congr (feeds_highSide (forL_keeps highSide (fun u y => highSide_hbrApply u 0 0 false y) ..)),
    feed_congr (forL_keeps Hw.feeds feeds_fbChannel ..), feed_setFeed_same, feed_congr (feeds_flashBegun h)]

end Sys2Proof.Machine

/-! ## Feed groups: what their commands answer (R125 … R128, R505) -/

namespace Sys2Proof.Machine

section
variable {g mV : Nat} {h : Hw} (hs : (feed h g).supply = .on)
include hs

theorem feedDrop_low (hlow : mV * 100 < uvThr h g * 102) : feedDrop g mV h = setFeed h g { feed h g with
    rstPend := false, low := true, lowAt := if (feed h g).low then (feed h g).lowAt else h.now } := by
  have hfull : mV * 100 < (uvThr h g + uvHys h) * 102 := by omega
  simp [feedDrop, hs, hlow, hfull]

theorem feedDrop_between (hthr : uvThr h g * 102 ≤ mV * 100) (hfull : mV * 100 < (uvThr h g + uvHys h) * 102) :
    feedDrop g mV h = setFeed h g { feed h g with rstPend := false } := by
  simp [feedDrop, hs, hfull, hthr.not_gt]

theorem feedRecovery_full (hfull : (uvThr h g + uvHys h) * 98 ≤ mV * 100) : feedRecovery g mV h =
    setFeed h g (if (feed h g).uv then { feed h g with
        low := false, rstPend := true, rstAt := if (feed h g).rstPend then (feed h g).rstAt else h.now }
      else { feed h g with low := false }) := by
  have hthr : uvThr h g * 98 ≤ mV * 100 := by omega
  simp [feedRecovery, hs, hfull, hthr]

theorem feedRecovery_between (hthr : uvThr h g * 98 ≤ mV * 100) (hfull : mV * 100 < (uvThr h g + uvHys h) * 98) :
    feedRecovery g mV h = setFeed h g { feed h g with low := false } := by
  simp [feedRecovery, hs, hthr, hfull.not_ge]

end

/-- The record of a channel whose die loses its supply (R128). -/
theorem hsw_hswUnsupply (n : Nat) (h : Hw) : hsw (hswUnsupply n h) n =
    (let r := hsw h n
     { hswCut r with
       st := if r.cmd = 0 then .off else .uvoff, supplied := false, tl := false, ol := false, thetaX := 0, offSeen := false
       ran := false }) :=
  hsw_setHsw_same ..

/-- Settles O17: the voltage commands set the group's record alone; the others are passes over the group's channels (`feedUv_pass`,
`feedRestart_pass`, `dieLoss_pass`, `dieBack_pass`), beside which the half-bridges, banks and measurements act on what `highSide` leaves out. -/
theorem feedSupply : Obligations.FeedSupply := by
  refine ⟨fun g mV s ha hs => ⟨fun hlow => gives_hw rfl ha (feedDrop_low hs hlow),
      fun hthr hfull => gives_hw rfl ha (feedDrop_between hs hthr hfull), fun hfull => gives_hw rfl ha (feedRecovery_full hs hfull),
      fun hthr hfull => gives_hw rfl ha (feedRecovery_between hs hthr hfull)⟩,
    fun g s ha hs => ⟨fun hlow hlate => ?uv, fun hpend hlate => ?restart⟩,
    fun g s ha => ⟨fun hs => ?loss, fun hs hmode => ?start, fun hs hmode => ?fallback⟩⟩
  case uv =>
    obtain ⟨hfeeds, hin, hout⟩ := feedUv_pass hs hlow hlate
    refine answers_hw rfl ha rfl ⟨?_, fun _ => rfl, fun n hn hg => ?_, fun n _ hg => (hout n hg).trans (hsw_uvCount ..)⟩
    · exact (feed_congr hfeeds g).trans ((feed_uvCount ..).trans (feed_setFeed_same ..))
    · obtain ⟨z, -, hsame, hlast⟩ := hin n hn hg
      refine hlast.trans ?_
      rw [hsw_hswUv, hsame, hsw_uvCount]
      rfl
  case restart =>
    obtain ⟨hfeeds, hin, hout⟩ := feedRestart_pass hs hpend hlate
    refine answers_hw rfl ha rfl ⟨?_, fun _ => rfl, fun n hn hg => ?_, fun n _ hg => hout n hg⟩
    · exact (feed_congr hfeeds g).trans (feed_setFeed_same ..)
    · obtain ⟨z, hz, hsame, hlast⟩ := hin n hn hg
      refine hlast.trans ?_
      rw [hsw_hswGroupRestart, hsame, restarted_onlyHsw hz]
      rfl
  case loss =>
    obtain ⟨hfeeds, hin, hout⟩ := dieLoss_pass hs
    have hrec (n : Nat) : hsw (lostFeed g.val s.m.hw) n = hsw s.m.hw n := hsw_highSide (highSide_lostFeed ..) n
    have hfeed : feed (dieLoss g.val s.m.hw) g.val =
        { feed s.m.hw g.val with supply := .lost, uv := true, rstPend := false, low := false } :=
      (feed_congr (hfeeds.trans (feeds_highSide (highSide_lostFeed ..))) _).trans (feed_setFeed_same ..)
    refine answers_hw rfl ha rfl ⟨congrArg Feed.supply hfeed, congrArg Feed.uv hfeed, fun _ => rfl, fun n hn => ?_⟩
    by_cases hg : hswGroup n = g.val
    · obtain ⟨z, -, hsame, hlast⟩ := hin n hn hg
      rw [hrec] at hsame
      refine hlast.trans ?_
      rw [hsw_hswUnsupply, hsame]
      exact (if_pos hg).symm
    · exact ((hout n hg).trans (hrec n)).trans (if_neg hg).symm
  case start =>
    have hfeed := feed_dieBack g.val s.m.hw
    exact answers_hw rfl ha ((dieStart_eq hs).trans (if_pos hmode))
      ⟨congrArg Feed.supply hfeed, congrArg Feed.uv hfeed, fun _ => rfl, fun n hn hg => hsw_dieBack s.m.hw hn hg⟩
  case fallback =>
    have hfeed := feed_fallbackDie g.val (dieBack g.val s.m.hw)
    rw [feed_dieBack] at hfeed
    exact answers_hw rfl ha ((dieStart_eq hs).trans (if_neg hmode)) ⟨congrArg Feed.supply hfeed, congrArg Feed.mode hfeed, fun _ => rfl⟩

end Sys2Proof.Machine

/-! ## Half-bridge units: their records and the registers of their pages -/

namespace Sys2Proof.Machine

section
variable {h h' : Hw} (hd : h'.dieCfg = h.dieCfg) (hs : h'.straps = h.straps)
include hd hs

theorem hbrF_congr (n off lo w : Nat) : hbrF h' n off lo w = hbrF h n off lo w := dieF_congr hd hs ..

theorem hbrLead_congr (n : Nat) : hbrLead h' n = hbrLead h n := by simp only [hbrLead, hbrF_congr hd hs]

theorem hbrMembers_congr (u : Nat) : hbrMembers h' u = hbrMembers h u := by simp only [hbrMembers, hbrLead_congr hd hs]

theorem hbrSingle_congr (u : Nat) : hbrSingle h' u = hbrSingle h u := by simp only [hbrSingle, hbrMembers_congr hd hs]

end

theorem mem_hbrMembers {h : Hw} {u n : Nat} : n ∈ hbrMembers h u ↔ n < 24 ∧ hbrLead h n = u := by simp [hbrMembers]

theorem nodup_hbrMembers (h : Hw) (u : Nat) : (hbrMembers h u).Nodup := List.nodup_range.filter _

@[simp] theorem hbr_pulse (h : Hw) (ty i k u : Nat) : hbr (pulse h ty i k) u = hbr h u := by simp [hbr]

/-- What each step of a loop preserves holds after the loop. -/
theorem forL_preserves {α : Type} {p : Hw → Prop} {f : α → Hw → Hw} {l : List α} (hf : ∀ a ∈ l, ∀ x, p x → p (f a x)) {h : Hw} (hp : p h) :
    p (forL l f h) := by
  unfold forL
  induction l generalizing h with
  | nil => exact hp
  | cons a l ih => exact ih (fun b hb => hf b (List.mem_cons_of_mem a hb)) (hf a List.mem_cons_self h hp)

/-- What one step of a loop establishes, and every step preserves, holds after the loop. -/
theorem forL_establishes {α : Type} {p : Hw → Prop} {f : α → Hw → Hw} {l : List α} {a : α} (ha : a ∈ l) (hset : ∀ x, p (f a x))
    (hf : ∀ b x, p x → p (f b x)) (h : Hw) : p (forL l f h) := by
  obtain ⟨l₁, l₂, rfl⟩ := List.append_of_mem ha
  simp only [forL, List.foldl_append, List.foldl_cons]
  exact forL_preserves (fun b _ => hf b) (hset _)

/-- What only the step of `a` changes is, after a loop that reaches `a` once, what that step makes of it. -/
theorem forL_once {α β : Type} {p : Hw → β} {f : α → Hw → Hw} {l : List α} {a : α} (hl : l.Nodup) (ha : a ∈ l)
    (hf : ∀ b, b ≠ a → ∀ x, p (f b x) = p x) (h : Hw) : ∃ x, p x = p h ∧ p (forL l f h) = p (f a x) := by
  obtain ⟨l₁, l₂, rfl⟩ := List.append_of_mem ha
  obtain ⟨ha₁, ha₂⟩ : a ∉ l₁ ∧ a ∉ l₂ := by
    have hperm := List.nodup_middle.1 hl
    simpa [not_or] using (List.nodup_cons.1 hperm).1
  have hkeep {l : List α} (hl : a ∉ l) (x : Hw) : p (forL l f x) = p x :=
    forL_preserves (p := fun y => p y = p x) (fun b hb y hy => (hf b (fun e => hl (e ▸ hb)) y).trans hy) rfl
  refine ⟨forL l₁ f h, hkeep ha₁ h, ?_⟩
  simp only [forL, List.foldl_append, List.foldl_cons]
  exact hkeep ha₂ _

/-- From `h` to `h'` only stored registers and the records of half-bridge units change. -/
def OnlyHbr (h h' : Hw) : Prop := h' = { h with regs := h'.regs, hbr := h'.hbr }

namespace OnlyHbr

theorem refl (h : Hw) : OnlyHbr h h := rfl

theorem trans {h x y : Hw} (e : OnlyHbr h x) (e' : OnlyHbr x y) : OnlyHbr h y := by
  unfold OnlyHbr at *
  rw [e', e]

theorem pageOn {h x : Hw} (e : OnlyHbr h x) (ty i : Nat) : pageOn x ty i = Machine.pageOn h ty i := pageOn_congr ty i (by rw [e])

theorem members {h x : Hw} (e : OnlyHbr h x) (u : Nat) : hbrMembers x u = hbrMembers h u := hbrMembers_congr (by rw [e]) (by rw [e]) u

end OnlyHbr

/-- From `h` to `h'` only the record of the unit led by `u`, and of the registers those at EV_RAW, EV_STAT and the offsets `l` of its pages
change. -/
structure UnitKept (u : Nat) (l : List Nat) (h h' : Hw) : Prop where
  frame : OnlyHbr h h'
  others : ∀ k, k ≠ u → hbr h' k = hbr h k
  regs : sameRegsBut h h' ((hbrMembers h u).flatMap (fun n => (oRAW :: oSTAT :: l).map (fun o => pg 0x11 n + o)))

namespace UnitKept

variable {u : Nat} {l : List Nat}

theorem refl (h : Hw) : UnitKept u l h h := ⟨OnlyHbr.refl h, fun _ _ => rfl, fun _ _ => rfl⟩

theorem trans {h x y : Hw} (e : UnitKept u l h x) (e' : UnitKept u l x y) : UnitKept u l h y where
  frame := e.frame.trans e'.frame
  others k hk := (e'.others k hk).trans (e.others k hk)
  regs a ha := (e'.regs a (by rwa [e.frame.members])).trans (e.regs a ha)

theorem ite {h x y : Hw} {c : Prop} [Decidable c] (ex : UnitKept u l h x) (ey : UnitKept u l h y) :
    UnitKept u l h (if c then x else y) := by
  split
  · exact ex
  · exact ey

/-- A new record of the unit. -/
theorem record (h : Hw) (r : HbrU) : UnitKept u l h { h with hbr := smPut {} u r h.hbr } :=
  ⟨rfl, fun _ hk => smGet_smPut_ne _ _ _ hk _, fun _ _ => rfl⟩

section
variable {h x : Hw} {n : Nat} (e : UnitKept u l h x) (hn : n ∈ hbrMembers h u)
include e hn

theorem wr {off : Nat} (v : Word) (ho : off ∈ oRAW :: oSTAT :: l) : UnitKept u l h (wr x 0x11 n off v) where
  frame := e.frame.trans rfl
  others := e.others
  regs a ha := (rdA_wrA_ne x v fun he => ha (List.mem_flatMap.2 ⟨n, hn, List.mem_map.2 ⟨off, ho, he.symm⟩⟩)).trans (e.regs a ha)

theorem pulse {k : Nat} : UnitKept u l h (pulse x 0x11 n k) := (e.wr hn _ (by simp)).ite e

theorem level {k : Nat} {b : Bool} : UnitKept u l h (level x 0x11 n k b) := ((e.wr hn _ (by simp)).pulse hn |>.ite (e.wr hn _ (by simp))).ite e

theorem hbrLevels : UnitKept u l h (hbrLevels n x) := e.level hn |>.level hn |>.level hn |>.level hn |>.level hn

end

section
variable {h x : Hw} (e : UnitKept u l h x)
include e

/-- A loop over the half-bridges of the unit, each step of which keeps to the unit. -/
theorem overMembers {f : Nat → Hw → Hw} (hf : ∀ n ∈ hbrMembers h u, ∀ y, UnitKept u l h y → UnitKept u l h (f n y)) :
    UnitKept u l h (forL (hbrMembers x u) f x) := by
  rw [e.frame.members]
  exact forL_preserves hf e

theorem setHbr (r : HbrU) : UnitKept u l h (setHbr x u r) :=
  (e.trans (record x r)).overMembers fun _ hn _ ey => ey.hbrLevels hn

theorem hbrPulse (k : Nat) : UnitKept u l h (hbrPulse x u k) := e.overMembers fun _ hn _ ey => ey.pulse hn

theorem hbrCount (hl : 0x04C ∈ l) : UnitKept u l h (hbrCount x u) :=
  e.overMembers fun _ hn _ ey => (ey.wr hn _ (by simp [hl])).ite ey

end

theorem hbrKept {s : State} {y : Hw} (e : UnitKept u l s.m.hw y) : hbrKept s (s.withHw fun _ => y) u (oRAW :: oSTAT :: l) :=
  ⟨congrArg (fun h => { s with m := { s.m with hw := h } }) e.frame, e.others, e.regs⟩

end UnitKept

@[simp] theorem hbrLevels_hbr (n : Nat) (h : Hw) : (hbrLevels n h).hbr = h.hbr := by rw [hbrLevels_onlyRegs n h]

@[simp] theorem hbr_setHbr_same (h : Hw) (u : Nat) (r : HbrU) : hbr (setHbr h u r) u = r := by
  have hlevels : (setHbr h u r).hbr = smPut {} u r h.hbr := forL_keeps Hw.hbr hbrLevels_hbr ..
  rw [hbr, hlevels, smGet_smPut_same]

/-- A command that replaces the record of a unit. -/
theorem answers_setHbr {c : Instr} {s : State} {f : Hw → Hw} {u : Nat} {r : HbrU} (hx : exec c s = .next (s.onHw f))
    (ha : s.alive = true) (hf : f s.m.hw = setHbr s.m.hw u r) :
    Answers c s (fun t => hbr t.m.hw u = r ∧ hbrKept s t u [oRAW, oSTAT]) :=
  answers_hw hx ha hf ⟨hbr_setHbr_same .., ((UnitKept.refl (l := []) _).setHbr r).hbrKept⟩

/-! ## Half-bridge units: the event sources of their pages -/

section
variable {h : Hw} {ty n i k m : Nat}

/-- Registers at different offsets, or of different pages of a type, lie at different addresses. -/
theorem pg_ne {off o : Nat} (ho : off < 0x1000) (ho' : o < 0x1000) (hne : n ≠ i ∨ off ≠ o) : pg ty n + off ≠ pg ty i + o := by
  unfold pg
  omega

theorem evSeen_wr_keeps {off : Nat} {v : Word} (ho : off < 0x1000) (hstat : off ≠ oSTAT) (he : evSeen h ty n m) :
    evSeen (wr h ty i off v) ty n m := fun hon => by
  rw [pageOn_wr] at hon
  rw [rd_wr_ne h v (pg_ne (by decide) ho (.inr hstat.symm))]
  exact he hon

/-- A source that is set stays set while sources of any page pulse. -/
theorem evSeen_pulse_keeps (hm : m < 32) (he : evSeen h ty n m) : evSeen (pulse h ty i k) ty n m := fun hon => by
  rw [pageOn_pulse] at hon
  by_cases hi : n = i
  · subst hi
    exact bit_stat_pulse_keeps hm (he hon)
  · rw [rd, rdA_pulse_ne (pg_ne (by decide) (by decide) (.inl hi))]
    exact he hon

theorem evSeen_pulse (hm : m < 32) : evSeen (pulse h ty n m) ty n m := fun hon => by
  rw [pageOn_pulse] at hon
  exact bit_stat_pulse hon hm

theorem evSeen_level_keeps {b : Bool} (hm : m < 32) (he : evSeen h ty n m) : evSeen (level h ty i k b) ty n m := by
  have hraw (w : Word) : evSeen (wr h ty i oRAW w) ty n m := evSeen_wr_keeps (by decide) (by decide) he
  unfold level
  dsimp only
  split
  · split
    · exact evSeen_pulse_keeps hm (hraw _)
    · exact hraw _
  · exact he

theorem evSeen_setHbr_keeps {u : Nat} (r : HbrU) (hm : m < 32) (he : evSeen h 0x11 n m) : evSeen (setHbr h u r) 0x11 n m := by
  refine forL_preserves (p := fun x => evSeen x 0x11 n m) (fun a _ x hx => ?_) he
  iterate 5 refine evSeen_level_keeps hm ?_
  exact hx

theorem evSeen_hbrCount_keeps {u : Nat} (he : evSeen h 0x11 n m) : evSeen (hbrCount h u) 0x11 n m := by
  refine forL_preserves (p := fun x => evSeen x 0x11 n m) (fun a _ x hx => ?_) he
  split
  · exact evSeen_wr_keeps (by decide) (by decide) hx
  · exact hx

/-- A pulse of a unit reaches every page of it. -/
theorem evSeen_hbrPulse {u : Nat} (hm : m < 32) (hn : n < 24) (hu : hbrLead h n = u) : evSeen (hbrPulse h u m) 0x11 n m :=
  forL_establishes (p := fun x => evSeen x 0x11 n m) (mem_hbrMembers.2 ⟨hn, hu⟩) (fun _ => evSeen_pulse hm) (fun _ _ => evSeen_pulse_keeps hm) h

end

end Sys2Proof.Machine

/-! ## Commands and switching of half-bridge units (R139 … R146) -/

namespace Sys2Proof.Machine

/-! ### CTL -/

/-- The codes of CTL that R141 reserves: from 0b100 for a single half-bridge, 0b111 for a larger unit. -/
def hbrReserved (single : Bool) (code : Nat) : Prop := if single = true then 4 ≤ code else code = 7

/-- A CTL word of a half-bridge: the DUTY field above, a command of three bits below. -/
theorem fld_hbrCommand (duty : Nat) {code : Nat} (hc : code < 8) : fld (BitVec.ofNat 32 (duty * 0x10000 + code)) 0 3 = code := by
  rw [fld, BitVec.toNat_ofNat]
  omega

/-- CTL stores DUTY and the command, and so the whole of a word that holds nothing else. -/
theorem and_hbrCommand (duty : BitVec 16) {code : Nat} (hc : code < 8) :
    BitVec.ofNat 32 (duty.toNat * 0x10000 + code) &&& 0xFFFF0007 = BitVec.ofNat 32 (duty.toNat * 0x10000 + code) := by
  have hstored : ∀ i : Fin 32, (0xFFFF0007 : Word).getLsbD i.val = decide (i.val < 3 ∨ 16 ≤ i.val) := by decide
  have hword : duty.toNat * 0x10000 + code = 2 ^ 16 * duty.toNat + code := by omega
  refine BitVec.eq_of_getLsbD_eq fun i hi => ?_
  rw [BitVec.getLsbD_and, hstored ⟨i, hi⟩, BitVec.getLsbD_ofNat, hword, Nat.testBit_two_pow_mul_add _ (show code < 2 ^ 16 by omega)]
  by_cases hmid : 3 ≤ i ∧ i < 16
  · have hzero : code.testBit i = false :=
      Nat.testBit_lt_two_pow ((show code < 2 ^ 3 by omega).trans_le (Nat.pow_le_pow_right (by decide) hmid.1))
    simp [hmid.2, hzero]
  · simp [show i < 3 ∨ 16 ≤ i by omega]

section
variable {n : Nat} {w : Word} {h : Hw}

theorem hbrCtl_member (hm : hbrLead h n ≠ n) : hbrCtl n w h = err h 0x11 n 17 := if_pos (decide_eq_true hm)

theorem hbrCtl_reserved (hl : hbrLead h n = n) (hres : hbrReserved (hbrSingle h n) (fld w 0 3)) : hbrCtl n w h = err h 0x11 n 16 := by
  cases hs : hbrSingle h n <;> simp_all [hbrCtl, hbrMember, hbrReserved]

theorem hbrCtl_stores (hl : hbrLead h n = n) (hok : ¬ hbrReserved (hbrSingle h n) (fld w 0 3)) :
    hbrCtl n w h = wr h 0x11 n 0x040 (w &&& 0xFFFF0007) := by
  cases hs : hbrSingle h n <;> simp_all [hbrCtl, hbrMember, hbrReserved]

end

section
variable {c : Instr} {ini : Initiator} {n : Fin 24} {w : Word} {s : State}
  (hx : exec c s = .next (s.run (pageCmd ini 0x11 n.val 0x040 w))) (hw : s.writes ini 0x11 n.val 0x040 = true)
include hx hw

/-- A write of CTL that changes the blocks by `g`. -/
theorem gives_hbrCtl {g : Hw → Hw} (hg : hbrCtl n.val w s.m.hw = g s.m.hw) (hp : (g s.m.hw).pwr = s.m.hw.pwr) : Gives c s g :=
  gives_write hx hw rfl (by rw [hg, hp]) hg (hi := by omega)

theorem gives_hbrCtl_member (hm : hbrLead s.m.hw n.val ≠ n.val) : Gives c s (fun h => err h 0x11 n.val 17) :=
  gives_hbrCtl hx hw (hbrCtl_member hm) (err_pwr ..)

end

section
variable {c : Instr} {ini : Initiator} {n : Fin 24} {duty : BitVec 16} {code : Nat} {s : State}
  (hx : exec c s = .next (s.run (pageCmd ini 0x11 n.val 0x040 (BitVec.ofNat 32 (duty.toNat * 0x10000 + code)))))
  (hw : s.writes ini 0x11 n.val 0x040 = true) (hl : hbrLead s.m.hw n.val = n.val)
include hx hw hl

theorem gives_hbrCtl_reserved (hc : code < 8) (hres : hbrReserved (hbrSingle s.m.hw n.val) code) :
    Gives c s (fun h => err h 0x11 n.val 16) :=
  gives_hbrCtl hx hw (hbrCtl_reserved hl (by rwa [fld_hbrCommand _ hc])) (err_pwr ..)

theorem gives_hbrCtl_stores (hc : code < 7) (hok : code < 4 ∨ hbrSingle s.m.hw n.val = false) :
    Gives c s (fun h => wr h 0x11 n.val 0x040 (BitVec.ofNat 32 (duty.toNat * 0x10000 + code))) := by
  have hfree : ¬ hbrReserved (hbrSingle s.m.hw n.val) code := by
    unfold hbrReserved
    split
    · rename_i hs
      simp only [hs, Bool.true_eq_false, or_false] at hok
      omega
    · omega
  refine gives_hbrCtl hx hw ((hbrCtl_stores hl ?_).trans ?_) (wr_pwr ..)
  · rwa [fld_hbrCommand _ (by omega)]
  · rw [and_hbrCommand _ (by omega)]

end

/-! ### Switch changes and reversal delays -/

section
variable (k : Nat) (h : Hw) (u : Nat)

@[simp] theorem hbr_atEdge : hbr (atEdge k h) u = hbr h u := by
  unfold atEdge
  split <;> rfl

@[simp] theorem hbrMembers_atEdge : hbrMembers (atEdge k h) u = hbrMembers h u := hbrMembers_congr (atEdge_dieCfg k h) (atEdge_straps k h) u
@[simp] theorem hbrSingle_atEdge : hbrSingle (atEdge k h) u = hbrSingle h u := hbrSingle_congr (atEdge_dieCfg k h) (atEdge_straps k h) u

end

/-- The record of a unit whose switches follow its command from the instant `t` on (R143, R151, R156). -/
def switched (single : Bool) (t : Nat) (r : HbrU) : HbrU :=
  { r with
    act := r.cmd, pend := false, decay := false, onPh := false, sw := hbrSw single r.cmd, st := hbrStOf single r.cmd
    dir := if hbrDir single r.cmd = 0 then r.dir else hbrDir single r.cmd
    driveAt := if hbrStOf single r.cmd = .drive ∧ r.st ≠ .drive then t else r.driveAt }

theorem hbrSwitchGo_eq (u : Nat) (h : Hw) : hbrSwitchGo u h = setHbr h u (switched (hbrSingle h u) h.now (hbr h u)) := rfl

theorem hbrSwitch_eq {u k : Nat} {h : Hw} (hp : (hbr h u).pend = true) (he : edgeLeft h (u / 6) (hbr h u).edgeAt = some k) :
    hbrSwitch u h = hbrSwitchGo u (atEdge k h) := by
  cases k <;> simp [hbrSwitch, hp, he, atEdge]

/-- At the instant of a switch change the unit's record becomes what the change makes of it; every other unit and register stays. -/
theorem answers_hbrSwitch {n : Fin 24} {k : Nat} {s : State} (ha : s.alive = true) (hp : (hbr s.m.hw n.val).pend = true)
    (he : edgeLeft s.m.hw (n.val / 6) (hbr s.m.hw n.val).edgeAt = some k) :
    Answers (.hbrSwitchChange n) s (fun t =>
      hbr t.m.hw n.val = switched (hbrSingle s.m.hw n.val) (s.m.hw.now + k) (hbr s.m.hw n.val) ∧
      t.m.hw.now = s.m.hw.now + k ∧ (∀ j, j ≠ n.val → hbr t.m.hw j = hbr s.m.hw j) ∧ sameMem s t ∧
      sameRegsBut s.m.hw t.m.hw ((hbrMembers s.m.hw n.val).flatMap (fun m => [pg 0x11 m + oRAW, pg 0x11 m + oSTAT]))) := by
  have hgo := (hbrSwitch_eq hp he).trans (hbrSwitchGo_eq ..)
  rw [hbr_atEdge, hbrSingle_atEdge, atEdge_now] at hgo
  have hk := (UnitKept.refl (u := n.val) (l := []) (atEdge k s.m.hw)).setHbr
    (switched (hbrSingle s.m.hw n.val) (s.m.hw.now + k) (hbr s.m.hw n.val))
  refine answers_hw rfl ha hgo ⟨hbr_setHbr_same .., ?now, fun j hj => (hk.others j hj).trans (hbr_atEdge ..), fun _ => rfl, fun a hout => ?regs⟩
  case now => exact (congrArg Hw.now hk.frame).trans (atEdge_now ..)
  case regs =>
    refine (hk.regs a ?_).trans (by simp [rdA])
    rwa [hbrMembers_atEdge]

/-! ### PWM periods and current regulation -/

/-- The record of a unit after a period start that gave `q`, of which `go` says whether its on-phase switches (R142, R144, R166). -/
def hbrPeriodStarted (h : Hw) (u : Nat) (q : PwmHit) (go clipOff : Bool) (r : HbrU) : HbrU :=
  { r with
    onPh := go, sw := if go && !r.decay then hbrSw (hbrSingle h u) r.act else hbrDecaySw h u
    pwm := { q.p with stay := go && (clipOff || decide (q.offT = 0)) } }

theorem hbrPeriod_runs {u k tOa : Nat} {h : Hw} {q : PwmHit} (hact : hbrIsPwm (hbrSingle h u) (hbr h u).act = true)
    (hst : (hbr h u).st = .drive)
    (hq : pwmStart (hbrPer h u) (64 * hbrF h u 0x404 0 16) (epochOf h (hbrF h u 0x404 16 4) (hbr h u).pwm.epoch) k tOa
      (hbrIsPwm (hbrSingle h u) (hbr h u).cmd) (hbr h u).pwm = some q) :
    let slew := hbrF h u 0x408 12 2
    let go := decide (q.onT ≠ 0) && !hbrShort slew q.onT
    hbrPeriod u k tOa h = setHbr (if hbrShort slew q.onT || (go && hbrShort slew q.offT) then hbrPulse h u 12 else h) u
      (hbrPeriodStarted h u q go (hbrShort slew q.offT) (hbr h u)) := by
  refine (if_pos ⟨hact, hst⟩).trans ?_
  simp only [hq]
  rfl

theorem hbrDriving_iff {r : HbrU} : hbrDriving r = true ↔ r.st = .drive ∧ (r.sw = .fwd ∨ r.sw = .rev) := by simp [hbrDriving]

theorem hbrSt_regulating {r : HbrU} (hst : r.st = .drive) (hreg : r.regAct = true) : hbrSt r = .reg := by simp [hbrSt, hst, hreg]

/-- A unit that turned to its off-time drives again, unless its on-phase has ended (R146). -/
theorem hbrRegEnd_runs {u : Nat} {h : Hw} (hdec : (hbr h u).decay = true) (hlate : regOff h u * 95 ≤ (h.now - (hbr h u).regAt) * 100) :
    hbrRegEnd u h = setHbr h u { hbr h u with
      decay := false
      sw := if hbrIsPwm (hbrSingle h u) (hbr h u).act = true ∧ (hbr h u).onPh = false then (hbr h u).sw
        else hbrSw (hbrSingle h u) (hbr h u).act } := by
  refine (if_pos ⟨hdec, hlate⟩).trans ?_
  simp only [Bool.and_eq_true, Bool.not_eq_true']

/-- Settles O18: a CTL write stores or raises an error (`gives_hbrCtl_stores`, `gives_hbrCtl_reserved`, `gives_hbrCtl_member`); every other
command replaces the record of one unit, and `answers_hbrSwitch` and `answers_setHbr` say what that leaves. -/
theorem hbrSwitching : Obligations.HbrSwitching := by
  refine ⟨fun ini n duty s hw hl => ?commands, fun ini n s hw => ⟨fun code duty hl hres => ?reserved, fun w hm => ?member⟩,
    fun n s ha => ?switches, fun n s ha => ?pwm, fun n s ha => ?regulation⟩
  case commands =>
    exact ⟨gives_hbrCtl_stores (code := 0) rfl hw hl (by decide) (.inl (by decide)),
      gives_hbrCtl_stores (code := 1) rfl hw hl (by decide) (.inl (by decide)),
      gives_hbrCtl_stores (code := 2) rfl hw hl (by decide) (.inl (by decide)),
      gives_hbrCtl_stores (code := 3) rfl hw hl (by decide) (.inl (by decide)), fun hs =>
      ⟨gives_hbrCtl_stores (code := 4) rfl hw hl (by decide) (.inr hs), gives_hbrCtl_stores (code := 5) rfl hw hl (by decide) (.inr hs),
        gives_hbrCtl_stores (code := 6) rfl hw hl (by decide) (.inr hs)⟩⟩
  case reserved => exact gives_hbrCtl_reserved rfl hw hl code.isLt hres
  case member => exact gives_hbrCtl_member rfl hw hm
  case switches =>
    intro r single st dir
    refine ⟨fun k hp he => answers_hbrSwitch ha hp he, fun hst hlate => ?reversal⟩
    have hdrive : (if HbrSt.drive = .drive ∧ r.st ≠ .drive then s.m.hw.now else r.driveAt) = s.m.hw.now := if_pos ⟨rfl, by simp [hst]⟩
    refine answers_setHbr rfl ha ((if_pos ⟨hst, hlate⟩).trans ?_)
    rw [hbrTake, hdrive]
  case pwm =>
    intro r single slew decaySw
    refine ⟨fun k tOa q hact hst hq => ?start, fun hon hoff => answers_setHbr rfl ha (if_pos ⟨hon, hoff⟩)⟩
    intro go
    refine answers_hw rfl ha (hbrPeriod_runs hact hst hq) ⟨hbr_setHbr_same .., UnitKept.hbrKept ?_, fun hclip m hm hlead => ?_⟩
    · exact (((UnitKept.refl _).hbrPulse 12).ite (UnitKept.refl _)).setHbr _
    · refine evSeen_setHbr_keeps _ (by decide) ?_
      rw [if_pos hclip]
      exact evSeen_hbrPulse (by decide) hm hlead
  case regulation =>
    intro r ireg
    refine ⟨fun mA hst hsw hon hmA => ?decay, fun hdec hlate => answers_setHbr rfl ha (hbrRegEnd_runs hdec hlate),
      fun hdec hlate => answers_setHbr rfl ha (if_pos ⟨hdec, hlate⟩)⟩
    exact answers_hw rfl ha (if_pos ⟨hbrDriving_iff.2 ⟨hst, hsw⟩, hon, hmA⟩)
      ⟨hbr_setHbr_same .., (congrArg hbrSt (hbr_setHbr_same ..)).trans (hbrSt_regulating hst rfl), ((UnitKept.refl _).setHbr _).hbrKept⟩

end Sys2Proof.Machine

/-! ## Trips and thermal latches of half-bridge units (R147 … R150) -/

namespace Sys2Proof.Machine

theorem hbrLevels_leveled (n : Nat) (h : Hw) : Leveled h (hbrLevels n h) :=
  Leveled.refl.level .. |>.level .. |>.level .. |>.level .. |>.level ..

section
variable {h : Hw} {u n : Nat}

/-- Registers of any page but EV_RAW and EV_STAT keep their values while a unit's record changes. -/
theorem rd_setHbr (r : HbrU) {ty off : Nat} (hraw : off % 0x1000 ≠ oRAW) (hstat : off % 0x1000 ≠ oSTAT) :
    rd (setHbr h u r) ty n off = rd h ty n off :=
  forL_keeps (fun x => rd x ty n off) (fun m x => (hbrLevels_leveled m x).rdA (by rwa [pgOff_pg]) (by rwa [pgOff_pg])) ..

theorem rd_hbrPulse {k ty off : Nat} (hstat : off % 0x1000 ≠ oSTAT) : rd (hbrPulse h u k) ty n off = rd h ty n off :=
  forL_keeps (fun x => rd x ty n off) (fun _ _ => rdA_pulse (by rwa [pgOff_pg])) ..

@[simp] theorem pageOn_hbrPulse (k ty : Nat) : pageOn (hbrPulse h u k) ty n = pageOn h ty n :=
  ((UnitKept.refl (l := []) h).hbrPulse k).frame.pageOn ty n

/-- An entry counts on the page of half-bridge `n`, where the page is ON. -/
def countOnPage (n : Nat) (x : Hw) : Hw := if pageOn x 0x11 n then incSat x 0x11 n 0x04C 0 16 1 else x

theorem hbrCount_eq (h : Hw) (u : Nat) : hbrCount h u = forL (hbrMembers h u) countOnPage h := rfl

theorem fld_tripCnt_countOnPage (hon : pageOn h 0x11 n = true) :
    fld (rd (countOnPage n h) 0x11 n 0x04C) 0 16 = min 0xFFFF (fld (rd h 0x11 n 0x04C) 0 16 + 1) := by
  rw [countOnPage, if_pos hon, incSat, rd_wrF_same, fld_setFld_same _ _ (by decide)]
  omega

theorem countOnPage_other {m : Nat} (hm : m ≠ n) :
    (pageOn (countOnPage m h) 0x11 n, rd (countOnPage m h) 0x11 n 0x04C) = (pageOn h 0x11 n, rd h 0x11 n 0x04C) := by
  unfold countOnPage
  split
  · exact Prod.ext (pageOn_wr ..) (rd_wr_ne h _ (pg_ne (by decide) (by decide) (.inl hm.symm)))
  · rfl

/-- TRIP_CNT counts once on every page of the unit that is ON (R156, log entry 25). -/
theorem fld_tripCnt_hbrCount (hn : n < 24) (hu : hbrLead h n = u) (hon : pageOn h 0x11 n = true) :
    fld (rd (hbrCount h u) 0x11 n 0x04C) 0 16 = min 0xFFFF (fld (rd h 0x11 n 0x04C) 0 16 + 1) := by
  obtain ⟨x, hsame, hlast⟩ := forL_once (p := fun y => (pageOn y 0x11 n, rd y 0x11 n 0x04C)) (nodup_hbrMembers h u)
    (mem_hbrMembers.2 ⟨hn, hu⟩) (fun m hm _ => countOnPage_other hm) h
  obtain ⟨hxon, hxcnt⟩ := Prod.ext_iff.1 hsame
  obtain ⟨-, hcnt⟩ := Prod.ext_iff.1 hlast
  dsimp only at hxon hxcnt hcnt
  rw [hbrCount_eq, hcnt, fld_tripCnt_countOnPage (hxon.trans hon), hxcnt]

end

/-- The record of a unit that trips with `cause` (R147, R148, R157). -/
def hbrTripped (cause : Nat) (r : HbrU) : HbrU := { hbrCut r with st := .trip, cause := cause, halted := false }

theorem hbrTrip_runs {u cause k : Nat} {h : Hw} (htherm : (hbr h u).st ≠ .therm) (htrip : (hbr h u).st ≠ .trip)
    (hs : (feed h (u / 6)).supply = .on) :
    hbrTrip u cause k h = setHbr (hbrCount (hbrPulse h u k) u) u (hbrTripped cause (hbr h u)) :=
  if_neg fun hlatched => hlatched.elim htherm fun hlatched => hlatched.elim htrip fun hoff => hoff hs

/-- Source `src` is set in `h'` on every page of the unit that `u` leads in `h`. -/
def unitSeen (u src : Nat) (h h' : Hw) : Prop := ∀ k, k < 24 → hbrLead h k = u → evSeen h' 0x11 k src

/-- TRIP_CNT of every page of the unit that is ON counts once from `h` to `h'`. -/
def unitCounted (u : Nat) (h h' : Hw) : Prop := ∀ k, k < 24 → hbrLead h k = u → pageOn h 0x11 k = true →
  fld (rd h' 0x11 k 0x04C) 0 16 = min 0xFFFF (fld (rd h 0x11 k 0x04C) 0 16 + 1)

theorem unitCounted_pulsed (u src : Nat) (h : Hw) : unitCounted u h (hbrCount (hbrPulse h u src) u) := fun k hk hu hon => by
  have hframe := ((UnitKept.refl (u := u) (l := []) h).hbrPulse src).frame
  have hlead : hbrLead (hbrPulse h u src) k = u := (hbrLead_congr (by rw [hframe]) (by rw [hframe]) k).trans hu
  rw [fld_tripCnt_hbrCount hk hlead (by rwa [pageOn_hbrPulse]), rd_hbrPulse (by decide)]

/-- A command that replaces the record of a unit after `src` was set and TRIP_CNT counted on each of its pages. -/
theorem answers_setHbr_counted {c : Instr} {s : State} {f : Hw → Hw} {u src : Nat} {x : Hw} {r : HbrU} (hx : exec c s = .next (s.onHw f))
    (ha : s.alive = true) (hsrc : src < 32) (hk : UnitKept u [0x04C] s.m.hw x) (hseen : unitSeen u src s.m.hw x)
    (hcnt : unitCounted u s.m.hw x) (hf : f s.m.hw = setHbr x u r) :
    Answers c s (fun t => hbr t.m.hw u = r ∧ unitSeen u src s.m.hw t.m.hw ∧ unitCounted u s.m.hw t.m.hw ∧
      hbrKept s t u [oRAW, oSTAT, 0x04C]) := by
  refine answers_hw hx ha hf ⟨hbr_setHbr_same .., fun k hk hu => evSeen_setHbr_keeps r hsrc (hseen k hk hu), fun k hk hu hon => ?_,
    (hk.setHbr r).hbrKept⟩
  exact (congrArg (fld · 0 16) (rd_setHbr r (by decide) (by decide))).trans (hcnt k hk hu hon)

/-- A trip of a supplied unit without a latch: its switches turn off, the source pulses and TRIP_CNT counts on each of its pages. -/
theorem answers_hbrTrip {c : Instr} {s : State} {f : Hw → Hw} {u cause src : Nat} (hx : exec c s = .next (s.onHw f)) (ha : s.alive = true)
    (hsrc : src < 32) (htherm : (hbr s.m.hw u).st ≠ .therm) (htrip : (hbr s.m.hw u).st ≠ .trip) (hs : (feed s.m.hw (u / 6)).supply = .on)
    (hf : f s.m.hw = hbrTrip u cause src s.m.hw) :
    Answers c s (fun t => hbr t.m.hw u = hbrTripped cause (hbr s.m.hw u) ∧ unitSeen u src s.m.hw t.m.hw ∧ unitCounted u s.m.hw t.m.hw ∧
      hbrKept s t u [oRAW, oSTAT, 0x04C]) :=
  answers_setHbr_counted hx ha hsrc (((UnitKept.refl _).hbrPulse src).hbrCount (by simp))
    (fun _ hk hu => evSeen_hbrCount_keeps (evSeen_hbrPulse hsrc hk hu)) (unitCounted_pulsed u src _) (hf.trans (hbrTrip_runs htherm htrip hs))

/-! ### The thermal latches -/

/-- The thermal latch of half-bridge `n` stands at `b`. -/
def latchAt (n : Nat) (b : Bool) (h : Hw) : Hw := { h with hbrTl := smPut false n b h.hbrTl }

/-- A command that moves the latch of half-bridge `n` to `b` and replaces the record of its unit. -/
theorem answers_latchAt {c : Instr} {s : State} {f : Hw → Hw} {n u : Nat} {b : Bool} {x : Hw} {r : HbrU} (hx : exec c s = .next (s.onHw f))
    (ha : s.alive = true) (hk : UnitKept u [0x04C] (latchAt n b s.m.hw) x) (hf : f s.m.hw = setHbr x u r) :
    Answers c s (fun t => (smGet false t.m.hw.hbrTl n = b ∧ sameMem s t ∧ (∀ k, k ≠ u → hbr t.m.hw k = hbr s.m.hw k) ∧
      (∀ k, k ≠ n → smGet false t.m.hw.hbrTl k = smGet false s.m.hw.hbrTl k)) ∧ hbr t.m.hw u = r) := by
  have hlast := hk.setHbr r
  have htl : (setHbr x u r).hbrTl = smPut false n b s.m.hw.hbrTl := congrArg Hw.hbrTl hlast.frame
  refine answers_hw hx ha hf ⟨⟨?_, fun _ => rfl, hlast.others, fun k hkn => ?_⟩, hbr_setHbr_same ..⟩
  · exact (congrArg (smGet false · n) htl).trans (smGet_smPut_same ..)
  · exact (congrArg (smGet false · k) htl).trans (smGet_smPut_ne _ _ _ hkn _)

/-- With the latch of `n` released, a latch of the unit is set where that of another half-bridge of it is. -/
theorem hbrLatched_latchAt_false {n u : Nat} {h : Hw} : hbrLatched (latchAt n false h) u = true ↔
    ∃ k, k < 24 ∧ k ≠ n ∧ hbrLead h k = u ∧ smGet false h.hbrTl k = true := by
  have hmem (k : Nat) : k ∈ hbrMembers (latchAt n false h) u ↔ k < 24 ∧ hbrLead h k = u := mem_hbrMembers (h := h)
  have htl (k : Nat) : smGet false (latchAt n false h).hbrTl k = if k = n then false else smGet false h.hbrTl k :=
    smGet_smPut false false n k h.hbrTl
  simp only [hbrLatched, List.any_eq_true, hmem, htl]
  refine exists_congr fun k => ?_
  by_cases hk : k = n <;> simp [hk, and_assoc]

section
variable {n degC : Nat} {h : Hw}

theorem hbrTherm_runs (hs : (feed h (n / 6)).supply = .on) (hT : 165 ≤ degC) :
    let u := hbrLead h n
    hbrTherm n degC h = setHbr (if (hbr h u).st = .therm then latchAt n true h else hbrCount (latchAt n true h) u) u
      { hbrCut (hbr h u) with st := .therm, halted := false } :=
  if_pos ⟨hs, hT⟩

variable (htl : smGet false h.hbrTl n = true) (hT : degC ≤ 170)
include htl hT

/-- The last latch of a unit in THERM releases (R150). -/
theorem hbrThermRelease_last (hst : (hbr h (hbrLead h n)).st = .therm) (hlast : hbrLatched (latchAt n false h) (hbrLead h n) = false) :
    let u := hbrLead h n
    let r := hbr h u
    hbrThermRelease n degC h = setHbr (if r.cmd = 0 then latchAt n false h else hbrCount (latchAt n false h) u) u
      (if r.cmd = 0 then { r with st := .off } else { r with st := .trip, cause := 7 }) := by
  intro u r
  refine (if_pos ⟨htl, hT⟩).trans ((if_pos ⟨hst, hlast⟩).trans ?_)
  by_cases hc : r.cmd = 0
  · rw [if_pos hc, if_pos hc]
    exact if_pos hc
  · rw [if_neg hc, if_neg hc]
    exact if_neg hc

theorem hbrThermRelease_stays (hst : (hbr h (hbrLead h n)).st ≠ .therm ∨ hbrLatched (latchAt n false h) (hbrLead h n) = true) :
    hbrThermRelease n degC h = setHbr (latchAt n false h) (hbrLead h n) (hbr h (hbrLead h n)) :=
  (if_pos ⟨htl, hT⟩).trans (if_neg fun ⟨htherm, hfree⟩ => hst.elim (· htherm) fun hset => Bool.false_ne_true (hfree.symm.trans hset))

end

end Sys2Proof.Machine

/-! ## Stall and position of half-bridge units (R151, R152) -/

namespace Sys2Proof.Machine

theorem stalling_iff {h : Hw} {u mA ms : Nat} : stalling h u mA ms = true ↔ (hbr h u).st = .drive ∧ hbrF h u 0x410 0 12 * 10 ≤ mA ∧
    (hbr h u).driveAt + hbrF h u 0x410 24 6 * 9500 + ms * 1000 ≤ h.now ∧ (hbr h u).stallAt + ms * 1000 ≤ h.now := by
  simp only [stalling, Bool.and_eq_true, decide_eq_true_eq, and_assoc, ← Nat.add_max_add_right, Nat.max_le]

/-- The record of a unit with `ms` more in the stall accumulator. -/
def stallCounted (h : Hw) (u ms : Nat) : HbrU := { hbr h u with stallAcc := (hbr h u).stallAcc + ms, stallAt := h.now }

/-- These `ms` take the stall accumulator to QT, within its 5 % (R151). -/
def stallFull (h : Hw) (u ms : Nat) : Prop :=
  (hbr h u).stallAcc * 100 < hbrF h u 0x410 16 8 * 95 ∧ hbrF h u 0x410 16 8 * 95 ≤ ((hbr h u).stallAcc + ms) * 100

/-- A full stall accumulator shows on the lead page, before the unit acts on it. -/
def stallShown (h : Hw) (u ms : Nat) : Hw :=
  pulse (setHbr (setHbr h u (stallCounted h u ms)) u { stallCounted h u ms with cause := 4 }) 0x11 u 5

/-- The record of a unit that halts with `cause`, braked or coasting. -/
def hbrHalted (cause : Nat) (brake : Bool) (r : HbrU) : HbrU :=
  { hbrCut r with
    st := .halt, cause := cause, halted := true, haltCmd := r.cmd, haltBrake := brake, sw := if brake then .lows else .open }

theorem hbrHalt_eq (u cause : Nat) (brake : Bool) (h : Hw) :
    hbrHalt u cause brake h = setHbr (hbrCount h u) u (hbrHalted cause brake (hbr h u)) := rfl

@[simp] theorem hbr_stallShown (h : Hw) (u ms : Nat) : hbr (stallShown h u ms) u = { stallCounted h u ms with cause := 4 } := by
  rw [stallShown, hbr_pulse, hbr_setHbr_same]

theorem stallShown_kept {h : Hw} {u ms : Nat} (hu : u ∈ hbrMembers h u) (l : List Nat) : UnitKept u l h (stallShown h u ms) :=
  (((UnitKept.refl h).setHbr _).setHbr _).pulse hu

/-- A command that halts a unit after source `src` was set on its lead page. -/
theorem answers_hbrHalt {c : Instr} {s : State} {f : Hw → Hw} {u src cause : Nat} {brake : Bool} {x : Hw} {r : HbrU}
    (hx : exec c s = .next (s.onHw f)) (ha : s.alive = true) (hsrc : src < 32) (hk : UnitKept u [0x04C] s.m.hw x)
    (hseen : evSeen x 0x11 u src) (hr : hbr x u = r) (hf : f s.m.hw = hbrHalt u cause brake x) :
    Answers c s (fun t => evSeen t.m.hw 0x11 u src ∧ hbrKept s t u [oRAW, oSTAT, 0x04C] ∧ hbr t.m.hw u = hbrHalted cause brake r) := by
  subst hr
  have hcnt := hk.hbrCount (by simp)
  have hseen' := evSeen_hbrCount_keeps (u := u) hseen
  rw [hbrHalt_eq] at hf
  generalize hbrCount x u = y at hf hcnt hseen'
  exact answers_hw hx ha hf ⟨evSeen_setHbr_keeps _ hsrc hseen', (hcnt.setHbr _).hbrKept, hbr_setHbr_same ..⟩

section
variable {h : Hw} {u mA ms : Nat} (hst : stalling h u mA ms = true) (hqt : hbrF h u 0x410 16 8 ≠ 0)
include hst hqt

theorem hbrStall_counts (hno : ¬ stallFull h u ms) : hbrStall u mA ms h = setHbr h u (stallCounted h u ms) :=
  (if_pos ⟨hst, hqt⟩).trans (if_neg hno)

/-- A full accumulator leaves the unit driving under ACT = 0, and halts it otherwise, coasting under ACT = 2. -/
theorem hbrStall_full (hfull : stallFull h u ms) : hbrStall u mA ms h =
    if hbrF h u 0x410 30 2 = 0 then stallShown h u ms else hbrHalt u 4 (decide (hbrF h u 0x410 30 2 ≠ 2)) (stallShown h u ms) := by
  have hshown : pulse (setHbr (setHbr h u (stallCounted h u ms)) u
      { hbr (setHbr h u (stallCounted h u ms)) u with cause := 4 }) 0x11 u 5 = stallShown h u ms := by
    rw [hbr_setHbr_same, stallShown]
  unfold stallCounted at hshown
  refine (if_pos ⟨hst, hqt⟩).trans ((if_pos hfull).trans ?_)
  dsimp only
  rw [hshown]
  generalize hbrF h u 0x410 30 2 = act
  rcases act with _ | _ | _ | act <;> simp

end

theorem fld_low16_stored (old w : Word) : fld (((old &&& ~~~0xFFFF) ||| (w &&& 0xFFFF)) &&& ~~~(w &&& 0)) 0 16 = fld w 0 16 := by
  have hlow : ∀ i : Fin 16, (0xFFFF : Word).getLsbD i.val = true := by decide
  refine Nat.eq_of_testBit_eq fun i => ?_
  rw [testBit_fld, testBit_fld, Nat.zero_add]
  by_cases hi : i < 16
  · have hset : (0xFFFF : Word).getLsbD i = true := hlow ⟨i, hi⟩
    have hclear : (0 : Word).getLsbD i = false := BitVec.getLsbD_zero
    simp only [BitVec.getLsbD_and, BitVec.getLsbD_or, BitVec.getLsbD_not, hset, hclear, show i < 32 by omega, decide_true,
      Bool.not_true, Bool.not_false, Bool.and_false, Bool.and_true, Bool.false_or]
  · simp [hi]

/-- POS_CNT: the low half of the word is stored. -/
theorem findReg_posCnt (n : Nat) : findReg 0x11 n 0x050 = some ⟨0x50, 1, 4, 0xFFFF, 0, 0, 0⟩ := rfl

theorem rdA_relevel_hbr_ne (n : Nat) (h : Hw) {a : Nat} (hraw : a ≠ pg 0x11 n + oRAW) (hstat : a ≠ pg 0x11 n + oSTAT) :
    rdA (relevel 0x11 n h) a = rdA h a := by
  have hlevels : relevel 0x11 n h = hbrLevels n (errLevel h 0x11 n) := by simp [relevel]
  simp only [hlevels, hbrLevels, errLevel, rdA_level_ne hraw hstat]

theorem plainWrite_onlyRegs (ty i off : Nat) (r : Reg) (w : Word) (h : Hw) : OnlyRegs h (plainWrite ty i off r w h) :=
  (OnlyRegs.refl h).wr.trans (relevel_onlyRegs ..)

/-- A write command that reaches a register without a meaning of its own stores by access type. -/
theorem gives_plainWrite {c : Instr} {s : State} {ini : Initiator} {ty i off : Nat} {w : Word} {r : Reg}
    (hx : exec c s = .next (s.run (pageCmd ini ty i off w))) (hw : s.writes ini ty i off = true) (hr : findReg ty i off = some r)
    (hact : pageAct ini ty i off w s.m = none) (ht : ty < 0x100) (hi : i < 0x100) (ho : off < 0x1000) (h4 : off % 4 = 0) :
    Gives c s (plainWrite ty i off r w) := by
  obtain ⟨harr, hlock⟩ := Bool.and_eq_true_iff.1 hw
  obtain ⟨hal, hreach⟩ := Bool.and_eq_true_iff.1 harr
  rw [Gives, hx, State.run_alive _ hal, pageCmd_reach ht hi ho h4 hreach, pageWrite_plain hr hlock hact,
    proceed_same (congrArg Pwr.cur (plainWrite_pwr ..))]
  rfl

/-- A write of POS_CNT sets the count and nothing else but the level sources of its page (R152). -/
theorem answers_posCnt {ini : Initiator} {n : Fin 24} {v : BitVec 16} {s : State} (hw : s.writes ini 0x11 n.val 0x050 = true) :
    Answers (.posCntWrite ini n v) s (fun t =>
      fld (rd t.m.hw 0x11 n.val 0x050) 0 16 = v.toNat ∧ t = s.withHw (fun h => { h with regs := t.m.hw.regs }) ∧
      sameRegsBut s.m.hw t.m.hw [pg 0x11 n.val + oRAW, pg 0x11 n.val + oSTAT, pg 0x11 n.val + 0x050]) := by
  refine ⟨_, gives_plainWrite rfl hw (findReg_posCnt _) rfl (by decide) (by omega) (by decide) (by decide), ?count,
    State.withHw_onlyRegs (plainWrite_onlyRegs ..), fun a hout => ?regs⟩
  case count =>
    refine (congrArg (fld · 0 16) ((rdA_relevel_hbr_ne _ _ (pg_ne (by decide) (by decide) (.inr (by decide)))
      (pg_ne (by decide) (by decide) (.inr (by decide)))).trans (rd_wr_same ..))).trans ((fld_low16_stored ..).trans ?_)
    rw [fld, BitVec.toNat_ofNat]
    omega
  case regs =>
    simp only [List.mem_cons, List.not_mem_nil, or_false, not_or] at hout
    obtain ⟨hraw, hstat, hpos⟩ := hout
    exact (rdA_relevel_hbr_ne _ _ hraw hstat).trans (rdA_wrA_ne _ _ hpos)

/-- Settles O19: `answers_hbrTrip` says what a trip leaves, `answers_latchAt` what a latch that moves leaves; a stall is counted by
`hbrStall_counts` and acted on by `hbrStall_full`, and `answers_posCnt` is the write of the position. -/
theorem hbrProtection : Obligations.HbrProtection := by
  refine ⟨fun n s ha => ?trips, fun n degC s ha => ?thermal, fun n s => ?stall⟩
  case trips =>
    intro u r htherm htrip hs trip
    refine ⟨fun mA hmA => ?overcurrent, fun mV hmV hout => ?highSide, fun mV hmV hout => ?lowSide⟩
    case overcurrent => exact answers_hbrTrip rfl ha (by decide) htherm htrip hs (if_pos hmA)
    case highSide => exact answers_hbrTrip rfl ha (by decide) htherm htrip hs (if_pos ⟨hout, hmV⟩)
    case lowSide => exact answers_hbrTrip rfl ha (by decide) htherm htrip hs (if_pos ⟨hout, hmV⟩)
  case thermal =>
    intro u r only others
    have hcounted (b : Bool) : UnitKept u [0x04C] (latchAt n.val b s.m.hw) (hbrCount (latchAt n.val b s.m.hw) u) :=
      (UnitKept.refl _).hbrCount (by simp)
    refine ⟨fun hs hT => answers_latchAt rfl ha ((UnitKept.refl _).ite (hcounted true)) (hbrTherm_runs hs hT), fun htl hT =>
      ⟨fun hst hlast => ?last, fun hst => ?stays⟩⟩
    case last =>
      have hfree : hbrLatched (latchAt n.val false s.m.hw) u = false := Bool.eq_false_iff.2 (mt hbrLatched_latchAt_false.1 hlast)
      exact answers_latchAt rfl ha ((UnitKept.refl _).ite (hcounted false)) (hbrThermRelease_last htl hT hst hfree)
    case stays =>
      exact answers_latchAt rfl ha (UnitKept.refl _) (hbrThermRelease_stays htl hT (hst.imp_right hbrLatched_latchAt_false.2))
  case stall =>
    intro r qt act
    refine ⟨fun mA ms ha hst hqt hlead hmA hbl hnew => ?count, fun ha => answers_setHbr rfl ha rfl, fun ini v hw => answers_posCnt hw⟩
    intro r1 full
    have hstall : stalling s.m.hw n.val mA ms = true := stalling_iff.2 ⟨hst, hmA, hbl, hnew⟩
    refine ⟨fun hno => answers_setHbr rfl ha (hbrStall_counts hstall hqt hno), fun hfull => ?full⟩
    have hrun := hbrStall_full hstall hqt hfull
    have hkept := stallShown_kept (h := s.m.hw) (ms := ms) (mem_hbrMembers.2 ⟨n.isLt, hlead⟩) [0x04C]
    by_cases hact : act = 0
    · refine answers_hw rfl ha (hrun.trans (if_pos hact)) ⟨evSeen_pulse (by decide), hkept.hbrKept, ?_⟩
      exact (hbr_stallShown ..).trans (if_pos hact).symm
    · have hsw : (if decide (act ≠ 2) = true then Sw.lows else .open) = if act = 2 then .open else .lows := by
        by_cases hcoast : act = 2 <;> simp [hcoast]
      rw [if_neg hact, ← hsw]
      exact answers_hbrHalt rfl ha (by decide) hkept (evSeen_pulse (by decide)) (hbr_stallShown ..) (hrun.trans (if_neg hact))

end Sys2Proof.Machine

/-! ## Valves and solenoid banks: their records and the registers of their pages -/

namespace Sys2Proof.Machine

@[simp] theorem solLevels_valves (g : Nat) (h : Hw) : (solLevels g h).valves = h.valves := by rw [solLevels_onlyRegs g h]
@[simp] theorem solLevels_banks (g : Nat) (h : Hw) : (solLevels g h).banks = h.banks := by rw [solLevels_onlyRegs g h]

theorem solLevels_leveled (g : Nat) (h : Hw) : Leveled h (solLevels g h) :=
  (Leveled.forN fun _ _ => Leveled.refl.level .. |>.level ..).level .. |>.level .. |>.level .. |>.level ..

theorem valve_congr {h x : Hw} (e : x.valves = h.valves) (g v : Nat) : valve x g v = valve h g v := by rw [valve, e, valve]
theorem bank_congr {h x : Hw} (e : x.banks = h.banks) (g : Nat) : bank x g = bank h g := by rw [bank, e, bank]

section
variable (h : Hw) (g j v : Nat)

@[simp] theorem valve_solLevels : valve (solLevels j h) g v = valve h g v := valve_congr (solLevels_valves ..) ..
@[simp] theorem bank_solLevels : bank (solLevels j h) g = bank h g := bank_congr (solLevels_banks ..) _
@[simp] theorem valve_pulse (ty i k : Nat) : valve (pulse h ty i k) g v = valve h g v := valve_congr (pulse_valves ..) ..
@[simp] theorem bank_pulse (ty i k : Nat) : bank (pulse h ty i k) g = bank h g := bank_congr (pulse_banks ..) _
@[simp] theorem valve_setBank (b : Bank) : valve (setBank h j b) g v = valve h g v := rfl
@[simp] theorem bank_setBank_same (b : Bank) : bank (setBank h g b) g = b := smGet_smPut_same ..

end

/-- From `h` to `h'` only stored registers and the records of valves and banks change. -/
def OnlySol (h h' : Hw) : Prop := h' = { h with regs := h'.regs, valves := h'.valves, banks := h'.banks }

namespace OnlySol

theorem refl (h : Hw) : OnlySol h h := rfl

theorem trans {h x y : Hw} (e : OnlySol h x) (e' : OnlySol x y) : OnlySol h y := by
  unfold OnlySol at *
  rw [e', e]

theorem pageOn {h x : Hw} (e : OnlySol h x) (ty i : Nat) : pageOn x ty i = Machine.pageOn h ty i := pageOn_congr ty i (by rw [e])

theorem feed {h x : Hw} (e : OnlySol h x) (g : Nat) : feed x g = Machine.feed h g := feed_congr (by rw [e]) g

theorem now {h x : Hw} (e : OnlySol h x) : x.now = h.now := by rw [e]

theorem dieF {h x : Hw} (e : OnlySol h x) (ty i off lo n : Nat) : dieF x ty i off lo n = Machine.dieF h ty i off lo n :=
  dieF_congr (by rw [e]) (by rw [e]) ..

end OnlySol

/-- From `h` to `h'` only the record of valve `v` of bank `g`, the record of that bank and the event, level and TRIP_CNT registers of its
page change. -/
structure ValveKept (g v : Nat) (h h' : Hw) : Prop where
  frame : OnlySol h h'
  others : ∀ k, k ≠ solNo g v → smGet {} h'.valves k = smGet {} h.valves k
  banks : ∀ j, j ≠ g → bank h' j = bank h j
  regs : sameRegsBut h h' [pg 0x12 g + oRAW, pg 0x12 g + oSTAT, pg 0x12 g + 0x0B4]

namespace ValveKept

variable {g v : Nat}

theorem refl (h : Hw) : ValveKept g v h h := ⟨OnlySol.refl h, fun _ _ => rfl, fun _ _ => rfl, fun _ _ => rfl⟩

theorem trans {h x y : Hw} (e : ValveKept g v h x) (e' : ValveKept g v x y) : ValveKept g v h y where
  frame := e.frame.trans e'.frame
  others k hk := (e'.others k hk).trans (e.others k hk)
  banks j hj := (e'.banks j hj).trans (e.banks j hj)
  regs a ha := (e'.regs a ha).trans (e.regs a ha)

theorem ite {h x y : Hw} {c : Prop} [Decidable c] (ex : ValveKept g v h x) (ey : ValveKept g v h y) :
    ValveKept g v h (if c then x else y) := by
  split
  · exact ex
  · exact ey

/-- A new record of the valve. -/
theorem record (h : Hw) (r : Valve) : ValveKept g v h { h with valves := smPut {} (solNo g v) r h.valves } :=
  ⟨rfl, fun _ hk => smGet_smPut_ne _ _ _ hk _, fun _ _ => rfl, fun _ _ => rfl⟩

section
variable {h x : Hw} (e : ValveKept g v h x)
include e

theorem wr {off : Nat} (w : Word) (ho : off ∈ [oRAW, oSTAT, 0x0B4]) : ValveKept g v h (wr x 0x12 g off w) :=
  e.trans ⟨rfl, fun _ _ => rfl, fun _ _ => rfl, fun _ ha =>
    rdA_wrA_ne x w fun he => ha (he ▸ List.mem_map_of_mem (f := fun o => pg 0x12 g + o) ho)⟩

theorem pulse {k : Nat} : ValveKept g v h (pulse x 0x12 g k) := (e.wr _ (by simp)).ite e

theorem level {k : Nat} {b : Bool} : ValveKept g v h (level x 0x12 g k b) := ite (ite (e.wr _ (by simp)).pulse (e.wr _ (by simp))) e

theorem solLevels : ValveKept g v h (solLevels g x) :=
  (forL_preserves (l := List.range 4) (fun _ _ _ ey => ey.level.level) e).level.level.level.level

theorem setBank (b : Bank) : ValveKept g v h (setBank x g b) :=
  e.trans ⟨rfl, fun _ _ => rfl, fun _ hj => smGet_smPut_ne _ _ _ hj _, fun _ _ => rfl⟩

theorem setValve (r : Valve) : ValveKept g v h (setValve x g v r) :=
  ((e.trans (record x r)).ite ((e.trans (record x r)).setBank _)).solLevels

theorem solPeakDone : ValveKept g v h (solPeakDone g v x) := ite (ite ((e.setBank _).setValve _).pulse (e.setBank _)) e

theorem solCount : ValveKept g v h (solCount g v x) := (e.wr _ (by simp)).ite e

theorem solTrip (cause : Nat) : ValveKept g v h (solTrip g v cause x) := ite e (e.solPeakDone.setValve _).solCount

theorem solThermIn (byBank : Bool) : ValveKept g v h (solThermIn g v byBank x) :=
  (e.solPeakDone.setValve _).ite (e.solPeakDone.setValve _).solCount

theorem solThermOut : ValveKept g v h (solThermOut g v x) := ite (ite (e.setValve _) (e.setValve _).solCount) e

/-- Another valve of the bank keeps its record. -/
theorem valve_ne {k : Nat} (hk : k ≠ v) : valve x g k = valve h g k := e.others _ (by unfold solNo; omega)

theorem valve_otherBank {j k : Nat} (hv : v < 4) (hk : k < 4) (hj : j ≠ g) : valve x j k = valve h j k :=
  e.others _ (by unfold solNo; omega)

end

theorem solKept {s : State} {y : Hw} (e : ValveKept g v s.m.hw y) : solKept s (s.withHw fun _ => y) g v :=
  ⟨congrArg (fun h => { s with m := { s.m with hw := h } }) e.frame, e.others, e.banks, e.regs⟩

end ValveKept

section
variable {f : Nat → Hw → Hw} {g : Nat} (hf : ∀ k x, ValveKept g k x (f k x))
include hf

/-- A loop over the valves of a bank, each step of which keeps to its valve, reaches valve `v` with its record as it was, and with whatever
else every step leaves alone. -/
theorem valve_forN {β : Type} {p : Hw → β} (hp : ∀ k x, p (f k x) = p x) {n v : Nat} (hv : v < n) (h : Hw) :
    ∃ x, valve x g v = valve h g v ∧ p x = p h ∧ valve (forN n f h) g v = valve (f v x) g v := by
  obtain ⟨x, hsame, hlast⟩ := forL_once (p := fun x => (valve x g v, p x)) List.nodup_range (List.mem_range.2 hv)
    (fun k hk x => Prod.ext ((hf k x).valve_ne hk.symm) (hp k x)) h
  obtain ⟨hvalve, hrest⟩ := Prod.mk.inj hsame
  exact ⟨x, hvalve, hrest, congrArg Prod.fst hlast⟩

/-- Such a loop keeps every other bank and its valves. -/
theorem otherBank_forN {j v : Nat} (hj : j ≠ g) (hv : v < 4) (h : Hw) :
    valve (forN 4 f h) j v = valve h j v ∧ bank (forN 4 f h) j = bank h j :=
  forL_preserves (p := fun x => valve x j v = valve h j v ∧ bank x j = bank h j)
    (fun k hk x ⟨hvalve, hbank⟩ => ⟨((hf k x).valve_otherBank (List.mem_range.1 hk) hv hj).trans hvalve, ((hf k x).banks j hj).trans hbank⟩)
    ⟨rfl, rfl⟩

end

section
variable {h : Hw} {g v : Nat}

@[simp] theorem valve_setValve_same (r : Valve) : valve (setValve h g v r) g v = r := by
  rw [setValve, valve_solLevels]
  split <;> exact smGet_smPut_same ..

theorem valve_setValve_record (r : Valve) (k : Nat) :
    valve (setValve h g v r) g k = valve { h with valves := smPut {} (solNo g v) r h.valves } g k := by
  rw [setValve, valve_solLevels]
  split <;> rfl

/-- The bank switch turns off as the last valve leaves WAIT, PEAK and HOLD (R169). -/
theorem bank_setValve (r : Valve) : bank (setValve h g v r) g =
    if (List.range 4).any (fun k => busyValve (valve (setValve h g v r) g k)) = true then bank h g else { bank h g with sw := false } := by
  simp only [valve_setValve_record]
  rw [setValve, bank_solLevels]
  split
  · rfl
  · exact bank_setBank_same ..

@[simp] theorem bank_therm_setValve (r : Valve) : (bank (setValve h g v r) g).therm = (bank h g).therm := by
  rw [bank_setValve]
  split <;> rfl

@[simp] theorem bank_lastPeak_setValve (r : Valve) : (bank (setValve h g v r) g).lastPeak = (bank h g).lastPeak := by
  rw [bank_setValve]
  split <;> rfl

theorem bankAfter_setValve {s : State} (r : Valve) : bankAfter (s.withHw fun _ => setValve h g v r) g (bank h g) := bank_setValve r

theorem bankAfter_pulse {s : State} {b : Bank} {k : Nat} (hb : bankAfter (s.withHw fun _ => h) g b) :
    bankAfter (s.withHw fun _ => pulse h 0x12 g k) g b := by
  have hvalve : valve (pulse h 0x12 g k) g = valve h g := funext fun v => valve_pulse ..
  unfold bankAfter State.withHw at hb ⊢
  rwa [bank_pulse, hvalve]

/-- Registers but EV_RAW and EV_STAT keep their values while a valve's record changes. -/
theorem rd_setValve (r : Valve) {ty i off : Nat} (hraw : off % 0x1000 ≠ oRAW) (hstat : off % 0x1000 ≠ oSTAT) :
    rd (setValve h g v r) ty i off = rd h ty i off := by
  refine ((solLevels_leveled ..).rdA (by rwa [pgOff_pg]) (by rwa [pgOff_pg])).trans ?_
  split <;> rfl

theorem evSeen_solLevels_keeps {n m : Nat} (hm : m < 32) (he : evSeen h 0x12 n m) : evSeen (solLevels g h) 0x12 n m := by
  iterate 4 refine evSeen_level_keeps hm ?_
  exact forL_preserves (l := List.range 4) (p := fun x => evSeen x 0x12 n m)
    (fun _ _ _ hx => evSeen_level_keeps hm (evSeen_level_keeps hm hx)) he

theorem evSeen_setValve_keeps {n m : Nat} (r : Valve) (hm : m < 32) (he : evSeen h 0x12 n m) : evSeen (setValve h g v r) 0x12 n m := by
  refine evSeen_solLevels_keeps hm ?_
  split <;> exact he

end

theorem Answers.imp {c : Instr} {s : State} {P Q : State → Prop} (ha : Answers c s P) (hPQ : ∀ t, P t → Q t) : Answers c s Q :=
  let ⟨t, hx, hp⟩ := ha
  ⟨t, hx, hPQ t hp⟩

section
variable {c : Instr} {s : State} {f : Hw → Hw} {g v : Nat} {r : Valve} (hx : exec c s = .next (s.onHw f)) (ha : s.alive = true)
include hx ha

/-- A command that replaces the record of a valve. -/
theorem answers_setValve (hf : f s.m.hw = setValve s.m.hw g v r) :
    Answers c s (fun t => valve t.m.hw g v = r ∧ bankAfter t g (bank s.m.hw g) ∧ solKept s t g v) :=
  answers_hw hx ha hf ⟨valve_setValve_same r, bankAfter_setValve r, ((ValveKept.refl _).setValve r).solKept⟩

/-- A command that replaces the record of a valve and then pulses source `m` of the bank. -/
theorem answers_setValve_pulse {m : Nat} (hm : m < 32) (hf : f s.m.hw = pulse (setValve s.m.hw g v r) 0x12 g m) :
    Answers c s (fun t => valve t.m.hw g v = r ∧ evSeen t.m.hw 0x12 g m ∧ bankAfter t g (bank s.m.hw g) ∧ solKept s t g v) :=
  answers_hw hx ha hf ⟨(valve_pulse ..).trans (valve_setValve_same r), evSeen_pulse hm, bankAfter_pulse (bankAfter_setValve r),
    ((ValveKept.refl _).setValve r).pulse.solKept⟩

end

/-! ## The end of a peak (R179) -/

/-- A peak that ends with `r` is a miss: detection is on and nothing was confirmed. -/
def peakMissed (r : Valve) : Bool := decide (r.st = .peak) && (bit r.armCfg 31 && !r.det)

/-- ARM_T after the end of a peak: a miss reads 0xFFFF and counts. -/
def armTAfter (r : Valve) : Word := if peakMissed r then setFld (setFld r.armT 0 16 0xFFFF) 24 8 (fld r.armT 24 8 + 1) else r.armT

section
variable {h : Hw} {g v : Nat}

theorem solPeakDone_other (hst : (valve h g v).st ≠ .peak) : solPeakDone g v h = h := if_neg hst

/-- The end of a peak sets the bank's last peak, and a miss the valve's ARM_T and its MISS source. -/
theorem solPeakDone_peak (hst : (valve h g v).st = .peak) :
    let x := setBank h g { bank h g with lastPeak := some h.now }
    solPeakDone g v h =
      if peakMissed (valve h g v) then pulse (setValve x g v { valve h g v with armT := armTAfter (valve h g v) }) 0x12 g (4 + v) else x := by
  cases hmiss : bit (valve h g v).armCfg 31 && !(valve h g v).det <;> simp [solPeakDone, peakMissed, armTAfter, hst, hmiss]

theorem armTAfter_of_not_missed {r : Valve} (hno : peakMissed r = false) : armTAfter r = r.armT := if_neg (Bool.eq_false_iff.1 hno)

theorem fld_armTAfter_missed {r : Valve} (hmiss : peakMissed r = true) : fld (armTAfter r) 0 16 = 0xFFFF := by
  rw [armTAfter, if_pos hmiss, fld_setFld_ne _ _ (by decide), fld_setFld_same _ _ (by decide)]
  rfl

theorem peakMissed_st {r : Valve} (hmiss : peakMissed r = true) : r.st = .peak := of_decide_eq_true (Bool.and_eq_true_iff.1 hmiss).1

theorem valve_solPeakDone : valve (solPeakDone g v h) g v = { valve h g v with armT := armTAfter (valve h g v) } := by
  by_cases hst : (valve h g v).st = .peak
  · rw [solPeakDone_peak hst]
    split
    · rw [valve_pulse, valve_setValve_same]
    · rename_i hno
      rw [armTAfter_of_not_missed (Bool.eq_false_iff.2 hno), valve_setBank]
  · rw [solPeakDone_other hst, armTAfter_of_not_missed (by simp [peakMissed, hst])]

theorem lastPeak_solPeakDone (hst : (valve h g v).st = .peak) : (bank (solPeakDone g v h) g).lastPeak = some h.now := by
  rw [solPeakDone_peak hst]
  split
  · rw [bank_pulse, bank_lastPeak_setValve, bank_setBank_same]
  · rw [bank_setBank_same]

theorem evSeen_solPeakDone (hmiss : peakMissed (valve h g v) = true) (hv : v < 4) : evSeen (solPeakDone g v h) 0x12 g (4 + v) := by
  rw [solPeakDone_peak (peakMissed_st hmiss), if_pos hmiss]
  exact evSeen_pulse (by omega)

/-- Registers but EV_RAW and EV_STAT keep their values at the end of a peak. -/
theorem rd_solPeakDone {ty i off : Nat} (hraw : off % 0x1000 ≠ oRAW) (hstat : off % 0x1000 ≠ oSTAT) :
    rd (solPeakDone g v h) ty i off = rd h ty i off := by
  by_cases hst : (valve h g v).st = .peak
  · rw [solPeakDone_peak hst]
    split
    · exact (rdA_pulse (by rwa [pgOff_pg])).trans (rd_setValve _ hraw hstat)
    · rfl
  · rw [solPeakDone_other hst]

end

end Sys2Proof.Machine

/-! ## Trips of a valve: TRIP, THERM and the count (R186, R187) -/

namespace Sys2Proof.Machine

/-- The record of a valve that trips with `cause`. -/
def solTripped (h : Hw) (g v cause : Nat) : Valve :=
  { solCut h g v { valve h g v with armT := armTAfter (valve h g v) } with st := .trip, cause := cause }

/-- The record of a valve that enters THERM, put there by the bank latch or by its own. -/
def solOverheated (h : Hw) (g v : Nat) (byBank : Bool) : Valve :=
  { solCut h g v { valve h g v with armT := armTAfter (valve h g v) } with st := .therm, cause := 5, tl := (valve h g v).tl || !byBank }

section
variable {h : Hw} {g v : Nat}

@[simp] theorem valve_solCount (k : Nat) : valve (solCount g k h) g v = valve h g v := by
  refine valve_congr ?_ ..
  unfold solCount
  split
  · exact incSat_valves ..
  · rfl

@[simp] theorem bank_solCount (k : Nat) : bank (solCount g k h) g = bank h g := by
  refine bank_congr ?_ _
  unfold solCount
  split
  · exact incSat_banks ..
  · rfl

/-- TRIP_CNT[v] of a page that is ON counts to 255. -/
theorem fld_solCount (hv : v < 4) (hon : pageOn h 0x12 g = true) :
    fld (rd (solCount g v h) 0x12 g 0x0B4) (8 * v) 8 = min 0xFF (fld (rd h 0x12 g 0x0B4) (8 * v) 8 + 1) := by
  rw [solCount, if_pos hon, incSat, rd_wrF_same, fld_setFld_same _ _ (by omega)]
  omega

theorem solTrip_runs (cause : Nat) (htherm : (valve h g v).st ≠ .therm) (hs : (feed h g).supply = .on) :
    solTrip g v cause h = solCount g v (setValve (solPeakDone g v h) g v (solTripped h g v cause)) := by
  refine (if_neg fun hno => hno.elim htherm fun hoff => hoff hs).trans ?_
  dsimp only
  rw [valve_solPeakDone, solTripped]

theorem solThermIn_runs (byBank : Bool) (htherm : (valve h g v).st ≠ .therm) :
    solThermIn g v byBank h = solCount g v (setValve (solPeakDone g v h) g v (solOverheated h g v byBank)) := by
  unfold solThermIn
  dsimp only
  rw [valve_solPeakDone, if_neg htherm, solOverheated]

end

/-- A command that takes a valve out of what it did, to the record `r`, and counts that. -/
theorem answers_solCount {c : Instr} {s : State} {f : Hw → Hw} {g v : Nat} {r : Valve} (hx : exec c s = .next (s.onHw f))
    (ha : s.alive = true) (hv : v < 4) (hf : f s.m.hw = solCount g v (setValve (solPeakDone g v s.m.hw) g v r)) :
    Answers c s (fun t => valve t.m.hw g v = r ∧ solKept s t g v ∧
      (pageOn s.m.hw 0x12 g = true →
        fld (rd t.m.hw 0x12 g 0x0B4) (8 * v) 8 = min 0xFF (fld (rd s.m.hw 0x12 g 0x0B4) (8 * v) 8 + 1))) := by
  have hkept := (ValveKept.refl (g := g) (v := v) s.m.hw).solPeakDone.setValve r
  have hcnt : rd (setValve (solPeakDone g v s.m.hw) g v r) 0x12 g 0x0B4 = rd s.m.hw 0x12 g 0x0B4 :=
    (rd_setValve r (by decide) (by decide)).trans (rd_solPeakDone (by decide) (by decide))
  refine answers_hw hx ha hf ⟨(valve_solCount _).trans (valve_setValve_same r), hkept.solCount.solKept, fun hon => ?_⟩
  rw [← hcnt]
  exact fld_solCount hv ((hkept.frame.pageOn ..).trans hon)

end Sys2Proof.Machine

/-! ## The profile of a valve (R169 … R185) -/

namespace Sys2Proof.Machine

/-! ### CTL -/

theorem solCtl_fire (g v : Nat) (h : Hw) : solCtl g v 1 h =
    (let h1 := wr h 0x12 g (0x040 + 4 * v) 1
     { h1 with valves := smPut {} (solNo g v) { valve h g v with newFire := true } h1.valves }) := by
  refine (if_neg (by decide)).trans ((if_pos (by decide)).trans ?_)
  rfl

theorem solCtl_off (g v : Nat) (h : Hw) : solCtl g v 0 h = wr h 0x12 g (0x040 + 4 * v) 0 := (if_neg (by decide)).trans (if_neg (by decide))

/-- A write of CTL[v] that changes the blocks by `f`. -/
theorem gives_solCtl {c : Instr} {s : State} {ini : Initiator} {g v : Fin 4} {w : Word} {f : Hw → Hw}
    (hx : exec c s = .next (s.run (pageCmd ini 0x12 g.val (0x040 + 4 * v.val) w))) (hw : s.writes ini 0x12 g.val (0x040 + 4 * v.val) = true)
    (hf : solCtl g.val v.val w s.m.hw = f s.m.hw) (hp : (f s.m.hw).pwr = s.m.hw.pwr) : Gives c s f :=
  gives_write hx hw (pageAct_solCtl ..) (by rw [hf, hp]) hf (hi := by omega) (ho := by omega) (h4 := by omega) (hf := findReg_solCtl g.val v)

/-! ### The start of a peak -/

/-- The record of a valve whose peak begins now (R173, R177). -/
def peakBegun (h : Hw) (g v : Nat) : Valve :=
  let r := valve h g v
  { solAccount h g v r with
    st := .peak, queued := false, ls := true, lsAt := h.now, planAt := planOf h g v, peakAt := h.now
    iPeak := iPeakOf h g v, pkHys := pkHysOf h g v, tPeak := tPeakOf h g v, det := false
    armCfg := die h 0x12 g (0x44C + 0x20 * v), deferT := if r.queued then min 0xFFFFF (h.now - r.planAt) else 0 }

section
variable {h : Hw} {g v : Nat}

theorem solPeakGo_peak (hip : iPeakOf h g v ≠ 0) : solPeakGo g v h = setValve h g v (peakBegun h g v) := by
  simp only [solPeakGo, if_neg hip]
  rfl

/-- I_PEAK = 0 leads to HOLD at once (R173). -/
theorem solPeakGo_hold (hip : iPeakOf h g v = 0) : ∃ r, solPeakGo g v h = setValve h g v (solHold h g v r) := by
  unfold solPeakGo
  exact ⟨_, congrArg (setValve h g v) (if_pos hip)⟩

theorem mem_deferred {k : Nat} : k ∈ deferred h g ↔ k < 4 ∧ (valve h g k).queued = true ∧ (valve h g k).st = .wait := by
  simp [deferred]

theorem deferred_isEmpty_iff : (deferred h g).isEmpty = true ↔ ∀ k, k < 4 → ¬ ((valve h g k).queued = true ∧ (valve h g k).st = .wait) := by
  simp [List.isEmpty_iff, List.eq_nil_iff_forall_not_mem, mem_deferred]

/-- No peak of the bank stands in the way of another: none runs, none has just ended, none is deferred (R183). -/
theorem notBehind_iff : ¬ (peakActive h g = true ∨ inGap h g = true ∨ (deferred h g).isEmpty = false) ↔
    (peakActive h g = false ∧ inGap h g = false) ∧ ∀ k, k < 4 → ¬ ((valve h g k).queued = true ∧ (valve h g k).st = .wait) := by
  rw [← deferred_isEmpty_iff]
  simp [and_assoc]

section
variable (hst : (valve h g v).st = .wait) (hq : (valve h g v).queued = false) (hplan : planOf h g v ≤ h.now)
include hst hq hplan

theorem solPeakStart_goes (hfree : ¬ (iPeakOf h g v ≠ 0 ∧ (peakActive h g = true ∨ inGap h g = true ∨ (deferred h g).isEmpty = false))) :
    solPeakStart g v h = solPeakGo g v h := (if_pos ⟨hst, hq, hplan⟩).trans (if_neg hfree)

theorem solPeakStart_defers (hip : iPeakOf h g v ≠ 0)
    (hbusy : peakActive h g = true ∨ inGap h g = true ∨ (deferred h g).isEmpty = false) :
    solPeakStart g v h = pulse (setValve h g v { valve h g v with queued := true, planAt := planOf h g v }) 0x12 g (12 + v) :=
  (if_pos ⟨hst, hq, hplan⟩).trans (if_pos ⟨hip, hbusy⟩)

end

/-- The search for the least of a list finds the element that lies below all others. -/
theorem foldl_least {ord : Nat → Nat} {l : List Nat} {a v : Nat} (hv : v ∈ a :: l) (hmin : ∀ k ∈ a :: l, k ≠ v → ord v < ord k) :
    l.foldl (fun a k => if ord k < ord a then k else a) a = v := by
  induction l generalizing a with
  | nil => exact (List.mem_singleton.1 hv).symm
  | cons b l ih =>
    -- Neither the running least nor `b` lies below `v`, so the one that is kept is `v` where `v` is one of the two.
    rw [List.foldl_cons]
    split <;> exact ih (by grind) (by grind)

/-- The deferred valve that is earliest in admission order starts its peak when the bank is clear (R183). -/
theorem solDeferred_starts (hactive : peakActive h g = false) (hgap : inGap h g = false) (hv : v ∈ deferred h g)
    (hfirst : ∀ k ∈ deferred h g, k ≠ v → (valve h g v).ord < (valve h g k).ord) : solDeferred g h = solPeakGo g v h := by
  simp only [solDeferred, hactive, hgap, Bool.or_false, Bool.false_eq_true, if_false]
  generalize deferred h g = l at hv hfirst
  cases l with
  | nil => exact absurd hv List.not_mem_nil
  | cons v0 vs => exact congrArg (solPeakGo g · h) (foldl_least hv hfirst)

theorem solStart_runs (hst : (valve h g v).st = .wait) (hfeed : feedNormal h g = true) (hplan : planOf h g v ≤ h.now + 20)
    (hfirst : ∀ k, k < 4 → k ≠ v → busyValve (valve h g k) = true → (valve h g v).ord < (valve h g k).ord) :
    solStart g v h = setBank h g { bank h g with sw := true } := by
  have hall : (List.range 4).all
      (fun k => decide (k = v) || !busyValve (valve h g k) || decide ((valve h g v).ord < (valve h g k).ord)) = true := by
    simp only [List.all_eq_true, List.mem_range, Bool.or_eq_true, decide_eq_true_eq, Bool.not_eq_true', or_assoc]
    intro k hk
    by_cases hkv : k = v
    · exact .inl hkv
    · cases hb : busyValve (valve h g k) with
      | false => exact .inr (.inl rfl)
      | true => exact .inr (.inr (hfirst k hk hkv hb))
  exact if_pos ⟨hst, hall, hfeed, hplan⟩

/-! ### During a peak and at its end -/

theorem crosses_iff {r : Valve} {mA : Nat} : crosses r mA = true ↔
    if r.ls = true then r.iPeak * 1000 < mA * 100 + (r.iPeak * 30 + 3000) else mA * 100 < (r.iPeak - r.pkHys) * 1000 + (r.iPeak * 30 + 3000) := by
  unfold crosses
  split <;> simp

theorem armShows_iff {cfg : Word} {top low up : Int} : armShows cfg top low up = true ↔
    if bit cfg 30 = true then low * 256 < fld cfg 0 8 * top ∧ 2 * (fld cfg 0 8 * top) < up * 256
    else low + fld cfg 0 8 * 10 ≤ top ∧ low + fld cfg 0 8 * 10 ≤ up := by
  unfold armShows
  split <;> simp [mul_assoc]

/-- The record of a valve whose armature has arrived `us` µs after its peak's start (R178, R179). -/
def armSeen (us : Nat) (r : Valve) : Valve :=
  { r with det := true, detAt := r.peakAt + us, armT := setFld (setFld r.armT 0 16 (min 0xFFFE us)) 24 8 (fld r.armT 24 8 + 1) }

theorem solArm_runs {us : Nat} {top low up : Int} (hst : (valve h g v).st = .peak) (hls : (valve h g v).ls = true)
    (harm : bit (valve h g v).armCfg 31 = true) (hdet : (valve h g v).det = false) (hblank : fld (valve h g v).armCfg 8 8 * 100 ≤ us)
    (hus : (valve h g v).peakAt + us ≤ h.now) (hshows : armShows (valve h g v).armCfg top low up = true) :
    solArm g v us top low up h = pulse (setValve h g v (armSeen us (valve h g v))) 0x12 g v :=
  if_pos ⟨hst, hls, harm, hdet, hblank, hus, hshows⟩

theorem peakOver_iff {r : Valve} : peakOver h r = true ↔ r.peakAt + r.tPeak ≤ h.now ∨
    bit r.armCfg 31 = true ∧ bit r.armCfg 29 = true ∧ r.det = true ∧ r.detAt + fld r.armCfg 16 8 * 100 ≤ h.now := by
  simp [peakOver, and_assoc]

/-- The entry into HOLD rests on the clock and the configuration alone. -/
theorem solHold_congr {x : Hw} (e : OnlySol h x) (r : Valve) : solHold x g v r = solHold h g v r := by
  have hhold : tHoldOf x g v = tHoldOf h g v := e.dieF ..
  have haccount : solAccount x g v r = solAccount h g v r := by simp only [solAccount, dutyLen, dwinOf, e.dieF, e.now]
  unfold solHold
  rw [hhold, haccount, e.now]

theorem solPeakEnd_holds {maxMa : Nat} (hst : (valve h g v).st = .peak) (hover : peakOver h (valve h g v) = true)
    (hreached : (valve h g v).iPeak * 10 ≤ maxMa * 4) : solPeakEnd g v maxMa h =
      setValve (solPeakDone g v h) g v (solHold h g v { valve h g v with armT := armTAfter (valve h g v) }) := by
  refine (if_pos ⟨hst, hover⟩).trans ((if_neg hreached.not_gt).trans ?_)
  dsimp only
  rw [valve_solPeakDone, solHold_congr (ValveKept.refl h).solPeakDone.frame]

theorem solPeakEnd_trips {maxMa : Nat} (hst : (valve h g v).st = .peak) (hover : peakOver h (valve h g v) = true)
    (hlow : maxMa * 4 < (valve h g v).iPeak * 10) : solPeakEnd g v maxMa h = solTrip g v 3 h :=
  (if_pos ⟨hst, hover⟩).trans (if_pos hlow)

/-! ### Hold and release -/

/-- The record of a valve whose timed hold has ended (R175, R176). -/
def holdEnded (h : Hw) (g v : Nat) : Valve :=
  { solCut h g v (valve h g v) with st := .rel, holdEnd := none, keepEnd := none, extEnd := none }

theorem solHoldEnd_runs {e : Nat} (hst : (valve h g v).st = .hold) (hend : laterOf (valve h g v).holdEnd (valve h g v).extEnd = some e)
    (he : e ≤ h.now) : solHoldEnd g v h = setValve h g v (holdEnded h g v) := by
  have hover : holdOver h (valve h g v) = true := by simp [holdOver, hst, holdEndOf, hend, he]
  refine (if_pos hover).trans ?_
  rw [solPeakDone_other (by simp [hst])]
  rfl

end

/-- Settles O20: a CTL write stores (`solCtl_fire`, `solCtl_off`); every other command but the bank switch's replaces the record of one valve,
and `answers_setValve` says what that leaves; which record, the lemmas above say for each step of the profile. -/
theorem solProfile : Obligations.SolProfile := by
  refine ⟨fun ini g v s hw => ⟨?fire, ?off, fun code => ?reserved⟩, fun g v s ha hst => ?start, fun g v s ha hst => ?peak,
    fun g v maxMa s ha hst => ?peakEnd, fun g v s ha => ?hold⟩
  case fire => exact gives_solCtl rfl hw (solCtl_fire ..) rfl
  case off => exact gives_solCtl rfl hw (solCtl_off ..) (wr_pwr ..)
  case reserved =>
    refine gives_solCtl rfl hw (solCtl_reserved ?_) (err_pwr ..)
    rw [fld, BitVec.toNat_ofNat]
    omega
  case start =>
    intro h r ip plan clear waiting peak
    refine ⟨fun hq => if_pos ⟨hst, hq⟩, fun hfeed hplan hfirst => gives_hw rfl ha (solStart_runs hst hfeed hplan hfirst),
      fun hq hplan hip hclear hnone => answers_setValve rfl ha ?now, fun hq hplan hip hbusy => ?defer, fun hq hplan hip => ?noPeak,
      fun hq hip hclear hfirst => answers_setValve rfl ha ?deferred⟩
    case now =>
      exact (solPeakStart_goes hst hq hplan fun hno => notBehind_iff.2 ⟨hclear, hnone⟩ hno.2).trans (solPeakGo_peak hip)
    case defer =>
      refine answers_setValve_pulse rfl ha (by omega) (solPeakStart_defers hst hq hplan hip ?_)
      by_contra hfree
      obtain ⟨hclear, hnone⟩ := notBehind_iff.1 hfree
      exact hbusy.elim (· hclear) fun ⟨k, hk, hwait⟩ => hnone k hk hwait
    case noPeak =>
      obtain ⟨r0, hgo⟩ := solPeakGo_hold (h := s.m.hw) hip
      refine (answers_setValve rfl ha ((solPeakStart_goes hst hq hplan fun hno => hno.1 hip).trans hgo)).imp fun t ⟨hr, _, hk⟩ => ?_
      rw [hr]
      exact ⟨rfl, rfl, rfl, rfl, hk⟩
    case deferred =>
      exact (solDeferred_starts hclear.1 hclear.2 (mem_deferred.2 ⟨v.isLt, hq, hst⟩) fun k hk hkv =>
        hfirst k (mem_deferred.1 hk).1 hkv (mem_deferred.1 hk).2).trans (solPeakGo_peak hip)
  case peak =>
    intro r tol
    refine ⟨fun mA hfree hcross => ?cross, fun us top low up hls harm hdet hblank hus hshows => ?arm⟩
    case cross => exact answers_setValve rfl ha (if_pos ⟨hst, crosses_iff.2 hcross, decide_eq_true hfree⟩)
    case arm =>
      exact answers_setValve_pulse rfl ha (by omega) (solArm_runs hst hls harm hdet hblank hus (armShows_iff.2 hshows))
  case peakEnd =>
    intro r hend
    have hover := (peakOver_iff (h := s.m.hw)).2 hend
    refine ⟨fun hreached => ?holds, fun hlow hs => ?trip⟩
    case holds =>
      have hrec := valve_setValve_same (h := solPeakDone g.val v.val s.m.hw) (g := g.val) (v := v.val)
        (solHold s.m.hw g.val v.val { r with armT := armTAfter r })
      refine answers_hw rfl ha (solPeakEnd_holds hst hover hreached) ⟨congrArg Valve.st hrec, congrArg Valve.passed hrec,
        congrArg Valve.holdEnd hrec, (bank_lastPeak_setValve _).trans (lastPeak_solPeakDone hst), fun harm hdet => ?miss, fun hno => ?seen,
        ((ValveKept.refl _).solPeakDone.setValve _).solKept⟩
      case miss =>
        have hmiss : peakMissed r = true := by simp [peakMissed, r, hst, harm, hdet]
        exact ⟨(congrArg (fld ·.armT 0 16) hrec).trans (fld_armTAfter_missed hmiss),
          evSeen_setValve_keeps _ (by omega) (evSeen_solPeakDone hmiss v.isLt)⟩
      case seen =>
        have hmiss : peakMissed r = false := by rcases hno with harm | hdet <;> simp [peakMissed, *]
        exact (congrArg Valve.armT hrec).trans (armTAfter_of_not_missed hmiss)
    case trip =>
      have hrun := (solPeakEnd_trips hst hover hlow).trans (solTrip_runs 3 (by simp [hst]) hs)
      exact (answers_solCount rfl ha v.isLt hrun).imp fun t ⟨hr, hk, _⟩ =>
        ⟨congrArg Valve.st hr, congrArg Valve.cause hr, congrArg Valve.ls hr, hk⟩
  case hold =>
    intro h r top
    refine ⟨fun onT meanMa hst hdue => answers_setValve rfl ha (if_pos ⟨hst, hdue⟩), fun e hst hend he => ?holdEnd,
      fun mA hst hmA => answers_setValve rfl ha (if_pos ⟨hst, hmA⟩), fun hst hq hdmax hlate => ?timeout, answers_setValve rfl ha rfl⟩
    case holdEnd =>
      exact (answers_setValve rfl ha (solHoldEnd_runs hst hend he)).imp fun t ⟨hr, hb, hk⟩ =>
        ⟨congrArg Valve.st hr, congrArg Valve.ls hr, congrArg Valve.holdEnd hr, congrArg Valve.extEnd hr, hb, hk⟩
    case timeout =>
      refine answers_hw rfl ha (if_pos ⟨hst, hq, hdmax, hlate⟩) ⟨?_, evSeen_pulse (by omega),
        (((ValveKept.refl _).setValve _).setValve _).pulse.solKept⟩
      refine (valve_pulse ..).trans ((valve_setValve_same _).trans ?_)
      rw [valve_setValve_same]

end Sys2Proof.Machine

/-! ## The protection of valves and banks (R186 … R188) -/

namespace Sys2Proof.Machine

/-! ### Banks that trip -/

/-- The bank `g` stands at `b` but for its switch, which is off, and the end of its last peak. -/
def bankOff (g : Nat) (b : Bank) (x : Hw) : Prop := ∃ p, bank x g = { b with sw := false, lastPeak := p }

section
variable {h : Hw} {g v : Nat} {b : Bank}

theorem bankOff_setValve (r : Valve) (hb : bankOff g b h) : bankOff g b (setValve h g v r) := by
  obtain ⟨p, hp⟩ := hb
  refine ⟨p, ?_⟩
  rw [bank_setValve, hp]
  split <;> rfl

theorem bankOff_solPeakDone (hb : bankOff g b h) : bankOff g b (solPeakDone g v h) := by
  by_cases hst : (valve h g v).st = .peak
  · have hlast : bankOff g b (setBank h g { bank h g with lastPeak := some h.now }) := by
      obtain ⟨p, hp⟩ := hb
      exact ⟨some h.now, (bank_setBank_same ..).trans (by rw [hp])⟩
    rw [solPeakDone_peak hst]
    split
    · obtain ⟨p, hp⟩ := bankOff_setValve (v := v) { valve h g v with armT := armTAfter (valve h g v) } hlast
      exact ⟨p, (bank_pulse ..).trans hp⟩
    · exact hlast
  · rwa [solPeakDone_other hst]

theorem bankOff_solCount (hb : bankOff g b h) : bankOff g b (solCount g v h) := by
  unfold bankOff at *
  rwa [bank_solCount]

theorem bankOff_solTrip (cause : Nat) (hb : bankOff g b h) : bankOff g b (solTrip g v cause h) := by
  unfold solTrip
  split
  · exact hb
  · exact bankOff_solCount (bankOff_setValve _ (bankOff_solPeakDone hb))

theorem bankOff_solThermIn (byBank : Bool) (hb : bankOff g b h) : bankOff g b (solThermIn g v byBank h) := by
  have hset := bankOff_setValve (v := v) { solCut h g v (valve (solPeakDone g v h) g v) with
    st := .therm, cause := 5, tl := (valve (solPeakDone g v h) g v).tl || !byBank } (bankOff_solPeakDone (v := v) hb)
  unfold solThermIn
  dsimp only
  split
  · exact hset
  · exact bankOff_solCount hset

end

/-- What a bank that trips with `cause` does to valve `v`: in WAIT, PEAK or HOLD it trips too, or enters THERM for the bank's latch. -/
def bankTripValve (g cause v : Nat) (x : Hw) : Hw :=
  if busyValve (valve x g v) then if cause = 4 then solThermIn g v true x else solTrip g v 4 x else x

/-- The record of a bank that trips with `cause`, at valve `vno` where that names one. -/
def bankTripped (cause vno : Nat) (b : Bank) : Bank :=
  { b with
    sw := false, cause := cause, valve := if cause = 3 then vno else b.valve
    trip := b.trip || decide (cause ≠ 4), therm := b.therm || decide (cause = 4) }

section
variable {h : Hw} {g cause vno : Nat}

theorem bankTrip_runs (hs : (feed h g).supply = .on) :
    bankTrip g cause vno h = solLevels g (forN 4 (bankTripValve g cause) (setBank h g (bankTripped cause vno (bank h g)))) :=
  if_neg fun hoff => hoff hs

theorem bankTripValve_kept (v : Nat) (x : Hw) : ValveKept g v x (bankTripValve g cause v x) :=
  (((ValveKept.refl x).solThermIn true).ite ((ValveKept.refl x).solTrip 4)).ite (ValveKept.refl x)

theorem bankOff_bankTripValve {b : Bank} (v : Nat) (x : Hw) (hb : bankOff g b x) : bankOff g b (bankTripValve g cause v x) := by
  unfold bankTripValve
  split
  · split
    · exact bankOff_solThermIn _ hb
    · exact bankOff_solTrip _ hb
  · exact hb

theorem busyValve_not_therm {r : Valve} (hbusy : busyValve r = true) : r.st ≠ .therm := by
  intro hst
  simp [busyValve, energized, hst] at hbusy

/-- A valve in WAIT, PEAK or HOLD is off after its bank has tripped. -/
theorem valve_bankTripValve_busy {v : Nat} (hs : (feed h g).supply = .on) (hbusy : busyValve (valve h g v) = true) :
    valve (bankTripValve g cause v h) g v = if cause = 4 then solOverheated h g v true else solTripped h g v 4 := by
  rw [bankTripValve, if_pos hbusy]
  split
  · rw [solThermIn_runs _ (busyValve_not_therm hbusy), valve_solCount, valve_setValve_same]
  · rw [solTrip_runs _ (busyValve_not_therm hbusy) hs, valve_solCount, valve_setValve_same]

theorem bankOff_bankTrip (hs : (feed h g).supply = .on) : bankOff g (bankTripped cause vno (bank h g)) (bankTrip g cause vno h) := by
  rw [bankTrip_runs hs]
  have hloop : bankOff g (bankTripped cause vno (bank h g))
      (forN 4 (bankTripValve g cause) (setBank h g (bankTripped cause vno (bank h g)))) :=
    forL_preserves (l := List.range 4) (fun v _ x => bankOff_bankTripValve v x) ⟨_, bank_setBank_same ..⟩
  obtain ⟨p, hp⟩ := hloop
  exact ⟨p, (bank_solLevels ..).trans hp⟩

/-- The loop over the valves reaches valve `v` as it stood, with the group's supply as it stood. -/
theorem valve_bankTrip {v : Nat} (hs : (feed h g).supply = .on) (hv : v < 4) : ∃ x, valve x g v = valve h g v ∧ (feed x g).supply = .on ∧
    valve (bankTrip g cause vno h) g v = valve (bankTripValve g cause v x) g v := by
  obtain ⟨x, hvalve, hfeed, hlast⟩ := valve_forN (p := fun x => feed x g) (bankTripValve_kept (g := g) (cause := cause))
    (fun k x => (bankTripValve_kept k x).frame.feed g) hv (setBank h g (bankTripped cause vno (bank h g)))
  exact ⟨x, hvalve, (congrArg Feed.supply hfeed).trans hs, by rw [bankTrip_runs hs, valve_solLevels, hlast]⟩

/-- Another bank and its valves stay as they are. -/
theorem bankTrip_otherBank {j v : Nat} (hs : (feed h g).supply = .on) (hj : j ≠ g) (hv : v < 4) :
    valve (bankTrip g cause vno h) j v = valve h j v ∧ bank (bankTrip g cause vno h) j = bank h j := by
  obtain ⟨hvalve, hbank⟩ := otherBank_forN (bankTripValve_kept (g := g) (cause := cause)) hj hv
    (setBank h g (bankTripped cause vno (bank h g)))
  rw [bankTrip_runs hs, valve_solLevels, bank_solLevels, hvalve, hbank]
  exact ⟨rfl, smGet_smPut_ne _ _ _ hj _⟩

end

/-- A trip of a supplied bank (R187). -/
theorem answers_bankTrip {c : Instr} {s : State} {f : Hw → Hw} {g cause vno : Nat} (hx : exec c s = .next (s.onHw f)) (ha : s.alive = true)
    (hs : (feed s.m.hw g).supply = .on) (hf : f s.m.hw = bankTrip g cause vno s.m.hw) :
    Answers c s (fun t =>
      ((bank t.m.hw g).sw = false ∧ (bank t.m.hw g).cause = cause ∧ sameMem s t ∧
        (if cause = 4 then (bank t.m.hw g).therm = true else (bank t.m.hw g).trip = true) ∧
        (∀ v, v < 4 → busyValve (valve s.m.hw g v) = true →
          (valve t.m.hw g v).st = (if cause = 4 then .therm else .trip) ∧ (valve t.m.hw g v).ls = false ∧
          (valve t.m.hw g v).cause = (if cause = 4 then 5 else 4)) ∧
        (∀ v, v < 4 → busyValve (valve s.m.hw g v) = false → valve t.m.hw g v = valve s.m.hw g v) ∧
        (∀ j v, j < 4 → v < 4 → j ≠ g → valve t.m.hw j v = valve s.m.hw j v ∧ bank t.m.hw j = bank s.m.hw j)) ∧
      (cause = 3 → (bank t.m.hw g).valve = vno)) := by
  obtain ⟨p, hbank⟩ := bankOff_bankTrip (cause := cause) (vno := vno) hs
  refine answers_hw hx ha hf ⟨⟨congrArg Bank.sw hbank, congrArg Bank.cause hbank, fun _ => rfl, ?flag, fun v hv hbusy => ?busy,
    fun v hv hidle => ?idle, fun j v _ hv hj => bankTrip_otherBank hs hj hv⟩, fun hcause => (congrArg Bank.valve hbank).trans (if_pos hcause)⟩
  case flag =>
    split
    · rename_i h4
      exact (congrArg Bank.therm hbank).trans (by simp [bankTripped, h4])
    · rename_i h4
      exact (congrArg Bank.trip hbank).trans (by simp [bankTripped, h4])
  case busy =>
    obtain ⟨x, hvx, hsx, hlast⟩ := valve_bankTrip (cause := cause) (vno := vno) hs hv
    have hrec := hlast.trans (valve_bankTripValve_busy hsx (by rwa [hvx]))
    dsimp only [State.withHw]
    rw [hrec]
    split <;> exact ⟨rfl, rfl, rfl⟩
  case idle =>
    obtain ⟨x, hvx, -, hlast⟩ := valve_bankTrip (cause := cause) (vno := vno) hs hv
    refine hlast.trans ?_
    rw [bankTripValve, hvx, if_neg (by simp [hidle]), hvx]

section
variable {h : Hw} {g v mA mV degC : Nat}

theorem solBoc_runs (hmA : 21600 ≤ mA) (hsw : (bank h g).sw = true) : solBoc g mA h = bankTrip g 1 0 h := if_pos ⟨hmA, hsw⟩

theorem solRailShort_runs (hmV : 1600 ≤ mV) (hsw : (bank h g).sw = true) : solRailShort g mV h = bankTrip g 2 0 h := if_pos ⟨hmV, hsw⟩

theorem solContactGnd_runs (hsw : (bank h g).sw = true)
    (hst : (valve h g v).st = .idle ∨ (valve h g v).st = .wait ∨ (valve h g v).st = .rel) : solContactGnd g v h = bankTrip g 3 v h :=
  if_pos ⟨hsw, hst⟩

theorem solBankLatch_runs (hT : 165 ≤ degC) : solBankLatch g degC h = bankTrip g 4 0 h := if_pos hT

end

/-! ### The thermal latches release -/

/-- The record of a valve after a latch released, with the bank latch at `hot`: in THERM with both released it leaves (R187). -/
def thermLeft (hot : Bool) (r : Valve) : Valve :=
  if r.st = .therm ∧ r.tl = false ∧ hot = false then
    if r.cmd = 0 then { r with st := .idle } else { r with st := .trip, cause := 5 }
  else r

section
variable {hot : Bool} {r : Valve}

theorem thermLeft_out (hst : r.st = .therm) (htl : r.tl = false) (hhot : hot = false) :
    if r.cmd = 0 then (thermLeft hot r).st = .idle else (thermLeft hot r).st = .trip ∧ (thermLeft hot r).cause = 5 := by
  by_cases hc : r.cmd = 0 <;> simp [thermLeft, hst, htl, hhot, hc]

theorem thermLeft_held (hheld : r.st ≠ .therm ∨ r.tl = true ∨ hot = true) : thermLeft hot r = r :=
  if_neg fun ⟨hst, htl, hhot⟩ => hheld.elim (· hst) fun hheld =>
    hheld.elim (fun h => Bool.false_ne_true (htl.symm.trans h)) fun h => Bool.false_ne_true (hhot.symm.trans h)

theorem thermLeft_tl : (thermLeft hot r).tl = r.tl := by
  unfold thermLeft
  split_ifs <;> rfl

end

section
variable {h : Hw} {g v : Nat}

theorem valve_solThermOut : valve (solThermOut g v h) g v = thermLeft (bank h g).therm (valve h g v) := by
  unfold solThermOut thermLeft
  dsimp only
  split
  · split
    · exact valve_setValve_same _
    · exact (valve_solCount _).trans (valve_setValve_same _)
  · rfl

theorem bank_therm_solThermOut : (bank (solThermOut g v h) g).therm = (bank h g).therm := by
  unfold solThermOut
  dsimp only
  split
  · split
    · exact bank_therm_setValve _
    · rw [bank_solCount, bank_therm_setValve]
  · rfl

/-- The bank latch releases: each valve of the bank leaves THERM that its own latch does not hold there. -/
theorem valve_solThermRelease_none (hv : v < 4) : valve (solThermRelease g none h) g v = thermLeft false (valve h g v) := by
  obtain ⟨x, hvalve, htherm, hlast⟩ := valve_forN (p := fun x => (bank x g).therm) (f := solThermOut g)
    (fun k x => (ValveKept.refl x).solThermOut) (fun _ _ => bank_therm_solThermOut) hv
    (solLevels g (setBank h g { bank h g with therm := false }))
  refine hlast.trans ?_
  rw [valve_solThermOut, hvalve, htherm, valve_solLevels, bank_solLevels, bank_setBank_same, valve_setBank]

theorem bank_therm_solThermRelease_none : (bank (solThermRelease g none h) g).therm = false := by
  refine (forN_keeps (fun x => (bank x g).therm) (fun _ _ => bank_therm_solThermOut) ..).trans ?_
  rw [bank_solLevels, bank_setBank_same]

end

/-- The latch of a valve releases (R187). -/
theorem answers_ownLatchOut {g v : Fin 4} {degC : Nat} {s : State} (ha : s.alive = true) (hT : degC ≤ 170) :
    Answers (.solThermalLatchRelease g (some v) degC) s (fun t =>
      valve t.m.hw g.val v.val = thermLeft (bank s.m.hw g.val).therm { valve s.m.hw g.val v.val with tl := false } ∧
      solKept s t g.val v.val) := by
  refine answers_hw rfl ha (if_pos hT) ⟨?_, ((ValveKept.refl _).setValve _).solThermOut.solKept⟩
  exact valve_solThermOut.trans (by rw [bank_therm_setValve, valve_setValve_same])

/-- The latch of a bank releases (R187). -/
theorem answers_bankLatchOut {g : Fin 4} {degC : Nat} {s : State} (ha : s.alive = true) (hT : degC ≤ 170) :
    Answers (.solThermalLatchRelease g none degC) s (fun t => (bank t.m.hw g.val).therm = false ∧ sameMem s t ∧
      ∀ v, v < 4 → valve t.m.hw g.val v = thermLeft false (valve s.m.hw g.val v)) := by
  have hrun : solLatchOut g.val none degC s.m.hw = solThermRelease g.val none s.m.hw := if_pos hT
  have htherm := bank_therm_solThermRelease_none (h := s.m.hw) (g := g.val)
  have hvalve (v : Nat) (hv : v < 4) := valve_solThermRelease_none (h := s.m.hw) (g := g.val) hv
  generalize solThermRelease g.val none s.m.hw = y at hrun htherm hvalve
  exact answers_hw rfl ha hrun ⟨htherm, fun _ => rfl, hvalve⟩

/-- Settles O21: a protection event of a valve ends in `solCount` of its new record, of which `answers_solCount` says what it leaves; one of a
bank is `answers_bankTrip`; what a latch that releases makes of a valve in THERM is `thermLeft`. -/
theorem solProtection : Obligations.SolProtection := by
  refine ⟨fun g v s ha hs hst => ?valve, fun g s ha hs => ?bank, fun g degC s ha hT => ?release⟩
  case valve =>
    intro r off
    have htrip {c : Instr} {f : Hw → Hw} {cause : Nat} (hx : exec c s = .next (s.onHw f)) (hf : f s.m.hw = solTrip g.val v.val cause s.m.hw) :
        Answers c s (off .trip cause) :=
      (answers_solCount hx ha v.isLt (hf.trans (solTrip_runs cause hst hs))).imp fun t ⟨hr, hk, hcnt⟩ =>
        ⟨congrArg Valve.st hr, congrArg Valve.cause hr, congrArg Valve.ls hr, congrArg Valve.queued hr, hk, hcnt⟩
    refine ⟨fun mA hmA => htrip rfl (if_pos hmA), fun mV hmV hon => htrip rfl (if_pos ⟨hmV, hon⟩),
      fun mA hhold htop hmA => htrip rfl (if_pos ⟨hhold, htop, hmA⟩), fun degC hT => ?lowSideLatch,
      fun mA hhold htop hmA => answers_setValve rfl ha (if_pos ⟨hhold, htop, hmA⟩)⟩
    case lowSideLatch =>
      have hrun : solLsLatch g.val v.val degC s.m.hw = solThermIn g.val v.val false s.m.hw := (if_pos hT).trans (if_pos hs)
      exact (answers_solCount rfl ha v.isLt (hrun.trans (solThermIn_runs false hst))).imp fun t ⟨hr, hk, hcnt⟩ =>
        ⟨⟨congrArg Valve.st hr, congrArg Valve.cause hr, congrArg Valve.ls hr, congrArg Valve.queued hr, hk, hcnt⟩,
          (congrArg Valve.tl hr).trans (Bool.or_true _)⟩
  case bank =>
    intro trip
    refine ⟨fun mA hmA hsw => ?overcurrent, fun mV hmV hsw => ?railShort, fun v hsw hst => ?contact, fun degC hT => ?bankLatch⟩
    case overcurrent => exact (answers_bankTrip rfl ha hs (solBoc_runs hmA hsw)).imp fun _ => And.left
    case railShort => exact (answers_bankTrip rfl ha hs (solRailShort_runs hmV hsw)).imp fun _ => And.left
    case contact => exact (answers_bankTrip rfl ha hs (solContactGnd_runs hsw hst)).imp fun _ ⟨htrip, hvalve⟩ => ⟨htrip, hvalve rfl⟩
    case bankLatch => exact (answers_bankTrip rfl ha hs (solBankLatch_runs hT)).imp fun _ => And.left
  case release =>
    intro out
    refine ⟨fun v => (answers_ownLatchOut ha hT).imp fun t ⟨hr, hk⟩ => ?own, (answers_bankLatchOut ha hT).imp fun t ⟨htherm, hmem, hr⟩ =>
      ⟨htherm, hmem, fun v hv hst => ⟨fun htl => ?leaves, fun htl => ?stays⟩⟩⟩
    case own =>
      refine ⟨(congrArg Valve.tl hr).trans thermLeft_tl, hk, fun hst hcool => ?_, fun hheld => ?_⟩
      · have hout := thermLeft_out (r := { valve s.m.hw g.val v.val with tl := false }) hst rfl hcool
        rwa [← hr] at hout
      · have hstays := thermLeft_held (hot := (bank s.m.hw g.val).therm) (r := { valve s.m.hw g.val v.val with tl := false }) (hheld.imp id .inr)
        rw [hr, hstays]
    case leaves =>
      have hout := thermLeft_out hst htl rfl
      rwa [← hr v hv] at hout
    case stays =>
      rw [hr v hv, thermLeft_held (.inr (.inl htl)), hst]

end Sys2Proof.Machine

/-! ## Loops over the inputs of a page and the capacitive channels -/

namespace Sys2Proof.Machine

/-- Both cases of a bit read after one was set. -/
theorem bit_setBit (w : Word) {i j : Nat} (b : Bool) (hi : i < 32) : bit (setBit w i b) j = if j = i then b else bit w j := by
  split
  case isTrue e => rw [e, bit_setBit_same _ _ hi]
  case isFalse hne => exact bit_setBit_ne _ _ hne

/-- A loop reaches step `k` with what only that step changes as it was at the start, and with what every step keeps; no later step touches
what step `k` made. -/
theorem forN_reaches {β : Type} {p : Hw → β} {q : Hw → Prop} {f : Nat → Hw → Hw} {n k : Nat} {h : Hw} (hk : k < n)
    (hq : ∀ j x, q x → q (f j x)) (hp : ∀ j, j < n → j ≠ k → ∀ x, p (f j x) = p x) (h0 : q h) :
    ∃ x, q x ∧ p x = p h ∧ p (forN n f h) = p (f k x) := by
  refine ⟨forN k f h, forL_preserves (fun j _ => hq j) h0, ?before, ?after⟩
  case before =>
    refine forL_preserves (p := fun x => p x = p h) (fun j hj x hx => ?_) rfl
    have hj := List.mem_range.1 hj
    exact (hp j (by omega) (by omega) x).trans hx
  case after =>
    induction n, hk using Nat.le_induction with
    | base => rw [forN_succ]
    | succ n hn ih => rw [forN_succ, hp n n.lt_succ_self (by omega), ih fun j hj => hp j (by omega)]

/-- A command that may wake changes the blocks, and the accesses that wait proceed where that ends an entry. -/
theorem wakes_hw {c : Instr} {s : State} {f : Hw → Hw} (hx : exec c s = .next (s.run (fun m => m.onHw f))) (ha : s.alive = true) :
    Wakes c s f := by
  rw [Wakes, hx, State.run_alive _ ha]

/-! ### The level sources that PD00 holds -/

@[simp] theorem parkLevels_caps (h : Hw) : (parkLevels h).caps = h.caps := by rw [parkLevels_onlyRegs h]
@[simp] theorem parkLevels_park (h : Hw) : (parkLevels h).park = h.park := by rw [parkLevels_onlyRegs h]

theorem rd_parkLevels_off (h : Hw) {o : Nat} (hraw : o ≠ oRAW) (hstat : o ≠ oSTAT) : rd (parkLevels h) 0x13 0 o = rd h 0x13 0 o := by
  simp only [parkLevels, rd_level_off _ _ _ _ _ hstat hraw]

end Sys2Proof.Machine

/-! ## Capacitive channels: their records and their bits of CAP_STAT -/

namespace Sys2Proof.Machine

theorem outOfRange_iff {raw : Nat} : outOfRange raw = true ↔ raw = 0 ∨ raw = 0xFFFF := decide_eq_true_iff

/-- FAULT with the range of the raw value written out: two values out of range in a row set it, two within clear it (R223). -/
theorem capFault_eq {h : Hw} {c raw : Nat} : capFault h c raw =
    if raw = 0 ∨ raw = 0xFFFF then bit (rd h 0x13 0 0x064) (16 + c) || decide (1 ≤ (cap h c).bad)
    else bit (rd h 0x13 0 0x064) (16 + c) && decide ((cap h c).good = 0) := by
  simp only [capFault, outOfRange_iff]

section
variable {h : Hw} {c n : Nat} {b : Bool}

@[simp] theorem cap_setCap_same (r : Cap) : cap (setCap h c r) c = r := smGet_smPut_same ..

theorem cap_setCap_ne {d : Nat} (r : Cap) (hd : d ≠ c) : cap (setCap h c r) d = cap h d := smGet_smPut_ne _ _ _ hd _

@[simp] theorem rd_setCap (r : Cap) (ty i off : Nat) : rd (setCap h c r) ty i off = rd h ty i off := rfl

@[simp] theorem cap_capStat : cap (capStat h n b) c = cap h c := by simp [cap, capStat]

@[simp] theorem rd_capStat : rd (capStat h n b) 0x13 0 0x064 = setBit (rd h 0x13 0 0x064) n b := by
  rw [capStat, rd_parkLevels_off _ (by decide) (by decide), rd_wr_same]

end

/-- The bits of channel `c` in CAP_STAT: TOUCH, TOUCH_LAT, FAULT, STUCK. -/
def capBits (c : Nat) : List Nat := [c, 8 + c, 16 + c, 24 + c]

/-- What the blocks hold of channel `c`: its record and its bits of CAP_STAT. -/
def capView (c : Nat) (h : Hw) : Cap × List Bool := (cap h c, (capBits c).map (bit (rd h 0x13 0 0x064)))

theorem capView_eq_iff {c : Nat} {h x : Hw} : capView c x = capView c h ↔
    cap x c = cap h c ∧ ∀ k ∈ capBits c, bit (rd x 0x13 0 0x064) k = bit (rd h 0x13 0 0x064) k := by
  rw [capView, capView, Prod.mk.injEq, List.map_inj_left]

/-- Two channels share no bit of CAP_STAT. -/
theorem not_mem_capBits {c d n : Nat} (hc : c < 8) (hd : d < 8) (hne : d ≠ c) (hn : n ∈ capBits c) : n ∉ capBits d := by
  simp only [capBits, List.mem_cons, List.not_mem_nil, or_false] at *
  omega

/-- From `h` to `h'` channel `c` takes new records and sets and clears bits of its own. -/
inductive CapMoved (c : Nat) (h : Hw) : Hw → Prop where
  | refl : CapMoved c h h
  | setCap {x : Hw} (r : Cap) (e : CapMoved c h x) : CapMoved c h (setCap x c r)
  | capStat {x : Hw} {n : Nat} (hn : n ∈ capBits c) (b : Bool) (e : CapMoved c h x) : CapMoved c h (capStat x n b)

/-- From `h` to `h'` only records of capacitive channels, and of the registers EV_RAW, EV_STAT and CAP_STAT of their page change. -/
structure CapsKept (h h' : Hw) : Prop where
  frame : h' = { h with regs := h'.regs, caps := h'.caps }
  regs : sameRegsBut h h' [pg 0x13 0 + oRAW, pg 0x13 0 + oSTAT, pg 0x13 0 + 0x064]

namespace CapsKept

theorem refl (h : Hw) : CapsKept h h := ⟨rfl, fun _ _ => rfl⟩

section
variable {h x : Hw} (e : CapsKept h x)
include e

theorem trans {y : Hw} (e' : CapsKept x y) : CapsKept h y where
  frame := by rw [e'.frame, e.frame]
  regs a ha := (e'.regs a ha).trans (e.regs a ha)

theorem setCap (c : Nat) (r : Cap) : CapsKept h (setCap x c r) := e.trans ⟨rfl, fun _ _ => rfl⟩

theorem wr {off : Nat} (w : Word) (ho : off ∈ [oRAW, oSTAT, 0x064]) : CapsKept h (wr x 0x13 0 off w) :=
  e.trans ⟨rfl, fun _ ha => rdA_wrA_ne x w fun he => ha (he ▸ List.mem_map_of_mem (f := fun o => pg 0x13 0 + o) ho)⟩

theorem parkLevels : CapsKept h (parkLevels x) := by
  refine e.trans ⟨?_, fun a ha => ?_⟩
  · rw [parkLevels_caps]
    exact parkLevels_onlyRegs x
  · simp only [List.mem_cons, not_or] at ha
    obtain ⟨hraw, hstat, -⟩ := ha
    simp only [Machine.parkLevels, rdA_level_ne hraw hstat]

theorem capStat (n : Nat) (b : Bool) : CapsKept h (capStat x n b) := (e.wr _ (by simp)).parkLevels

theorem cfg (ty i off : Nat) : cfg x ty i off = Machine.cfg h ty i off := cfg_congr _ _ _ (by rw [e.frame]) (by rw [e.frame])

theorem cfgF (ty i off lo w : Nat) : cfgF x ty i off lo w = Machine.cfgF h ty i off lo w := by rw [Machine.cfgF, e.cfg, Machine.cfgF]

theorem tthr (c : Nat) : tthr x c = Machine.tthr h c := by rw [Machine.tthr, e.cfgF, Machine.tthr]

end

end CapsKept

namespace CapMoved

theorem ite {c : Nat} {h x y : Hw} {p : Prop} [Decidable p] (ex : CapMoved c h x) (ey : CapMoved c h y) : CapMoved c h (if p then x else y) := by
  split
  · exact ex
  · exact ey

theorem kept {c : Nat} {h x : Hw} (e : CapMoved c h x) : CapsKept h x := by
  induction e with
  | refl => exact .refl h
  | setCap r _ ih => exact ih.setCap _ _
  | capStat _ _ _ ih => exact ih.capStat _ _

/-- Every other channel keeps its record and its bits. -/
theorem other {c d : Nat} {h x : Hw} (e : CapMoved c h x) (hc : c < 8) (hd : d < 8) (hne : d ≠ c) : capView d x = capView d h := by
  induction e with
  | refl => rfl
  | setCap r _ ih => exact (capView_eq_iff.2 ⟨cap_setCap_ne r hne, fun _ _ => rfl⟩).trans ih
  | capStat hn b _ ih =>
    refine (capView_eq_iff.2 ⟨cap_capStat, fun k hk => ?_⟩).trans ih
    rw [rd_capStat, bit_setBit_ne]
    rintro rfl
    exact not_mem_capBits hc hd hne hn hk

end CapMoved

/-- A loop over the eight channels, each step of which moves its own: channel `c` ends as its own step leaves it, taken where the channel
still stands as before the loop. -/
theorem forN_channels {f : Nat → Hw → Hw} (hf : ∀ c x, CapMoved c x (f c x)) (h : Hw) : CapsKept h (forN 8 f h) ∧
    ∀ c < 8, ∃ x, CapsKept h x ∧ capView c x = capView c h ∧ capView c (forN 8 f h) = capView c (f c x) :=
  have hstep : ∀ c x, CapsKept h x → CapsKept h (f c x) := fun _ _ e => e.trans (hf ..).kept
  ⟨forL_preserves (fun c _ => hstep c) (.refl h), fun _ hc =>
    forN_reaches hc hstep (fun d hd hne x => (hf d x).other hd hc hne.symm) (.refl h)⟩

/-! ## A regular sample of a capacitive channel (R219, R220, R222, R223) -/

/-- The baseline that a raw value meets: the first value is the baseline (R219). -/
def capBase (r : Cap) (raw : Nat) : Nat := if r.based then r.base else raw

/-- The difference of a raw value to the baseline. -/
def capDelta (r : Cap) (raw : Nat) : Int := (raw : Int) - (capBase r raw : Int)

/-- The record of channel `c` after a regular sample that reads `raw`. -/
def capSampled (h : Hw) (c raw : Nat) : Cap :=
  let r := cap h c
  let t := tthr h c
  let base := capBase r raw
  let touched := bit (rd h 0x13 0 0x064) c
  let drift := if r.drift < cfgF h 0x13 0 0x418 16 8 then r.drift + 1 else 0
  { capRaw r raw with
    based := true, drift := drift
    base := if capDelta r raw < -t then raw
      else if touched = false ∧ drift = 0 ∧ -t ≤ 2 * capDelta r raw ∧ 2 * capDelta r raw ≤ t then
        (if base < raw then base + 1 else if raw < base then base - 1 else base)
      else base
    confirm := if touched = false ∧ capFault h c raw = false ∧ t ≤ capDelta r raw then cfgF h 0x13 0 0x418 12 3 + 1 else 0 }

/-- What the blocks hold of channel `c` after that sample: a touch ends below half of TTHR, a stuck one below minus half of it. -/
def capSampledView (h : Hw) (c raw : Nat) : Cap × List Bool :=
  let stat := rd h 0x13 0 0x064
  (capSampled h c raw, [bit stat c && !decide (2 * capDelta (cap h c) raw < tthr h c), bit stat (8 + c), capFault h c raw,
    bit stat (24 + c) && !decide (2 * capDelta (cap h c) raw < -tthr h c)])

/-- Bit `n` of CAP_STAT clears where `p`. -/
def clearIf (p : Bool) (n : Nat) (h : Hw) : Hw := if p then capStat h n false else h

section
variable {h : Hw} {c n raw : Nat} {p : Bool}

@[simp] theorem cap_clearIf : cap (clearIf p n h) c = cap h c := by
  unfold clearIf
  split <;> simp

theorem bit_clearIf {k : Nat} (hn : n < 32) :
    bit (rd (clearIf p n h) 0x13 0 0x064) k = (bit (rd h 0x13 0 0x064) k && !(p && decide (k = n))) := by
  cases p <;> by_cases hk : k = n <;> simp [clearIf, bit_setBit, hn, hk]

theorem clearIf_moved {x : Hw} (e : CapMoved c h x) (hn : n ∈ capBits c) : CapMoved c h (clearIf p n x) := .ite (e.capStat hn false) e

theorem capOne_disabled (hoff : bit (cfg h 0x13 0 0x418) c = false) : capOne c raw h = h := by simp [capOne, hoff]

/-- An enabled channel takes its record, then FAULT, then the end of a touch, then the end of a stuck one. -/
theorem capOne_enabled (hon : bit (cfg h 0x13 0 0x418) c = true) : capOne c raw h =
    clearIf (decide (2 * capDelta (cap h c) raw < -tthr h c)) (24 + c)
      (clearIf (bit (rd h 0x13 0 0x064) c && decide (2 * capDelta (cap h c) raw < tthr h c)) c
        (capStat (setCap h c (capSampled h c raw)) (16 + c) (capFault h c raw))) := by
  have hbase : (if (cap h c).based = true then (cap h c).base else raw) = capBase (cap h c) raw := rfl
  have hdelta : (raw : Int) - (capBase (cap h c) raw : Int) = capDelta (cap h c) raw := rfl
  rw [capOne, if_pos hon]
  dsimp only
  rw [hbase, hdelta]
  cases htouch : bit (rd h 0x13 0 0x064) c <;> simp [clearIf, capSampled, htouch]

theorem capOne_moved (c raw : Nat) (h : Hw) : CapMoved c h (capOne c raw h) := by
  have hbits : c ∈ capBits c ∧ 16 + c ∈ capBits c ∧ 24 + c ∈ capBits c := by simp [capBits]
  obtain ⟨htouch, hfault, hstuck⟩ := hbits
  cases hon : bit (cfg h 0x13 0 0x418) c with
  | false =>
    rw [capOne_disabled hon]
    exact .refl
  | true =>
    rw [capOne_enabled hon]
    exact clearIf_moved (clearIf_moved ((CapMoved.refl.setCap _).capStat hfault _) htouch) hstuck

theorem capView_capOne (hon : bit (cfg h 0x13 0 0x418) c = true) (hc : c < 8) : capView c (capOne c raw h) = capSampledView h c raw := by
  have hn : c < 32 ∧ 16 + c < 32 ∧ 24 + c < 32 := by omega
  cases htouch : bit (rd h 0x13 0 0x064) c <;>
    simp [capView, capBits, capSampledView, capOne_enabled hon, bit_clearIf, bit_setBit, hn, htouch]

end

/-! ## A confirming sample of a capacitive channel (R220, R221, R223) -/

/-- A confirming sample of `raw` leads on: the channel is not at fault and the delta is TTHR or more. -/
def capGoes (h : Hw) (c raw : Nat) : Bool := !capFault h c raw && decide (tthr h c ≤ (raw : Int) - ((cap h c).base : Int))

/-- The record of channel `c` after a confirming sample that reads `raw`. -/
def capConfirmed (h : Hw) (c raw : Nat) : Cap :=
  { capRaw (cap h c) raw with confirm := if capGoes h c raw then (cap h c).confirm - 1 else 0 }

/-- The last confirming sample qualifies the touch. -/
def capQualifies (h : Hw) (c raw : Nat) : Bool := capGoes h c raw && decide ((cap h c).confirm = 1)

/-- What the blocks hold of channel `c` after that sample. -/
def capConfirmedView (h : Hw) (c raw : Nat) : Cap × List Bool :=
  let stat := rd h 0x13 0 0x064
  (capConfirmed h c raw, [bit stat c || capQualifies h c raw, bit stat (8 + c) || capQualifies h c raw, capFault h c raw, bit stat (24 + c)])

section
variable {h : Hw} {c raw : Nat}

theorem capConfirmOne_idle (hno : (cap h c).confirm = 0) : capConfirmOne c raw h = h := if_neg (not_not_intro hno)

theorem capConfirmOne_confirms (hyes : (cap h c).confirm ≠ 0) : capConfirmOne c raw h =
    let h1 := capStat (setCap h c (capConfirmed h c raw)) (16 + c) (capFault h c raw)
    if capQualifies h c raw then capStat (capStat h1 c true) (8 + c) true else h1 := if_pos hyes

theorem capConfirmOne_moved (c raw : Nat) (h : Hw) : CapMoved c h (capConfirmOne c raw h) := by
  have hbits : c ∈ capBits c ∧ 8 + c ∈ capBits c ∧ 16 + c ∈ capBits c := by simp [capBits]
  obtain ⟨htouch, hlatch, hfault⟩ := hbits
  by_cases hyes : (cap h c).confirm = 0
  · rw [capConfirmOne_idle hyes]
    exact .refl
  · rw [capConfirmOne_confirms hyes]
    have hrec := ((CapMoved.refl (h := h)).setCap (capConfirmed h c raw)).capStat hfault (capFault h c raw)
    exact .ite ((hrec.capStat htouch _).capStat hlatch _) hrec

theorem capView_capConfirmOne (hyes : (cap h c).confirm ≠ 0) (hc : c < 8) :
    capView c (capConfirmOne c raw h) = capConfirmedView h c raw := by
  have hn : c < 32 ∧ 8 + c < 32 ∧ 16 + c < 32 := by omega
  rw [capConfirmOne_confirms hyes]
  cases hlast : capQualifies h c raw <;> simp [capView, capBits, capConfirmedView, hlast, bit_setBit, hn]

end

/-! ## A round of samples: each channel as it stood before the round -/

section
variable {h x : Hw} {c : Nat} (e : CapsKept h x) (hv : capView c x = capView c h) (raw : Nat)
include e hv

theorem capSampledView_eq : capSampledView x c raw = capSampledView h c raw := by
  obtain ⟨hcap, hbit⟩ := capView_eq_iff.1 hv
  have hbits := List.map_inj_left.2 hbit
  simp only [capBits, List.map_cons, List.cons.injEq] at hbits
  obtain ⟨htouch, hlatch, hfault, hstuck, -⟩ := hbits
  rw [capSampledView, capSampled, capFault, hcap, htouch, hlatch, hfault, hstuck, e.tthr, e.cfgF, e.cfgF]
  rfl

theorem capConfirmedView_eq : capConfirmedView x c raw = capConfirmedView h c raw := by
  obtain ⟨hcap, hbit⟩ := capView_eq_iff.1 hv
  have hbits := List.map_inj_left.2 hbit
  simp only [capBits, List.map_cons, List.cons.injEq] at hbits
  obtain ⟨htouch, hlatch, hfault, hstuck, -⟩ := hbits
  rw [capConfirmedView, capQualifies, capConfirmed, capGoes, capFault, hcap, htouch, hlatch, hfault, hstuck, e.tthr]
  rfl

end

section
variable {h : Hw} {c : Nat} {raws : List Nat} (hfree : h.acc.lfClear ≤ h.now)
include hfree

theorem capSample_runs : capSample raws h = forN 8 (fun c x => capOne c (raws.getD c 0) x) h := if_neg (by simp [capBlocked, hfree])

theorem capConfirm_runs : capConfirm raws h = forN 8 (fun c x => capConfirmOne c (raws.getD c 0) x) h :=
  if_neg (by simp [capBlocked, hfree])

theorem capSample_kept : CapsKept h (capSample raws h) := by
  rw [capSample_runs hfree]
  exact (forN_channels (fun c => capOne_moved c _) h).1

variable (hc : c < 8)
include hc

theorem capSample_disabled (hoff : bit (cfg h 0x13 0 0x418) c = false) : capView c (capSample raws h) = capView c h := by
  obtain ⟨x, e, hv, hlast⟩ := (forN_channels (fun c => capOne_moved c (raws.getD c 0)) h).2 c hc
  rw [capSample_runs hfree, hlast, capOne_disabled (by rwa [e.cfg]), hv]

theorem capSample_enabled (hon : bit (cfg h 0x13 0 0x418) c = true) :
    capView c (capSample raws h) = capSampledView h c (raws.getD c 0) := by
  obtain ⟨x, e, hv, hlast⟩ := (forN_channels (fun c => capOne_moved c (raws.getD c 0)) h).2 c hc
  rw [capSample_runs hfree, hlast, capView_capOne (by rwa [e.cfg]) hc, capSampledView_eq e hv]

theorem capConfirm_idle (hno : (cap h c).confirm = 0) : capView c (capConfirm raws h) = capView c h := by
  obtain ⟨x, -, hv, hlast⟩ := (forN_channels (fun c => capConfirmOne_moved c (raws.getD c 0)) h).2 c hc
  rw [capConfirm_runs hfree, hlast, capConfirmOne_idle (by rwa [(capView_eq_iff.1 hv).1]), hv]

theorem capConfirm_confirms (hyes : (cap h c).confirm ≠ 0) :
    capView c (capConfirm raws h) = capConfirmedView h c (raws.getD c 0) := by
  obtain ⟨x, e, hv, hlast⟩ := (forN_channels (fun c => capConfirmOne_moved c (raws.getD c 0)) h).2 c hc
  rw [capConfirm_runs hfree, hlast, capView_capConfirmOne (by rwa [(capView_eq_iff.1 hv).1]) hc, capConfirmedView_eq e hv]

end

/-- Settles O23: `capSample_enabled` and `capConfirm_confirms` say what a round of samples leaves of each channel; the rest is which
channels take part. -/
theorem capacitiveTouch : Obligations.CapacitiveTouch := by
  refine ⟨fun raw0 raws s ha => ⟨fun hlf => ?postponed, fun hfree => ?sample⟩, fun s ha => ⟨fun raw0 raws => ?confirm, fun c ht hmax => ?stuck⟩⟩
  case postponed => exact gives_hw rfl ha (if_pos (decide_eq_true hlf))
  case sample =>
    have hk := capSample_kept (raws := (raw0 :: raws).map BitVec.toNat) hfree
    refine answers_hw rfl ha rfl ⟨congrArg (fun h => { s with m := { s.m with hw := h } }) hk.frame, hk.regs, fun c hc => ?_⟩
    intro r raw t0 was is base delta drift bad fault
    refine ⟨fun hoff => capView_eq_iff.1 (capSample_disabled hfree hc hoff), fun hon => ?_⟩
    have hview := capSample_enabled (raws := (raw0 :: raws).map BitVec.toNat) hfree hc hon
    simp only [capView, capBits, capSampledView, List.map_cons, List.map_nil, Prod.mk.injEq, List.cons.injEq, and_true] at hview
    obtain ⟨hcap, htouch, hlatch, hfault, hstuck⟩ := hview
    refine ⟨hcap.trans ?_, htouch, hlatch, hfault.trans capFault_eq, hstuck⟩
    rw [capSampled, capFault_eq]
    simp only [capRaw, outOfRange_iff]
    rfl
  case confirm =>
    intro l after
    refine ⟨wakes_hw rfl ha, fun hlf => if_pos (decide_eq_true hlf), fun hfree c hc => ?_⟩
    intro r raw was is bad fault goes
    refine ⟨fun hno => capView_eq_iff.1 (capConfirm_idle hfree hc hno), fun hyes => ?_⟩
    have hview := capConfirm_confirms (raws := l) hfree hc hyes
    simp only [capView, capBits, capConfirmedView, List.map_cons, List.map_nil, Prod.mk.injEq, List.cons.injEq, and_true] at hview
    obtain ⟨hcap, htouch, hlatch, hfault, -⟩ := hview
    have hgoes : capGoes s.m.hw c raw = goes := by rw [capGoes, capFault_eq]
    rw [capQualifies, hgoes] at htouch hlatch
    refine ⟨hcap.trans ?_, htouch, hlatch, hfault.trans capFault_eq⟩
    rw [capConfirmed, hgoes]
    simp only [capRaw, outOfRange_iff]
    rfl
  case stuck => exact gives_hw rfl ha (if_pos ⟨ht, hmax⟩)

end Sys2Proof.Machine

/-! ## A sample of the switch inputs (R204, R208, R209, R213) -/

namespace Sys2Proof.Machine

theorem thrHigh_congr {h x : Hw} (hs : x.straps = h.straps) (tsel : Nat) : thrHigh x tsel = thrHigh h tsel := by
  unfold thrHigh
  rw [hs]

theorem thrLow_congr {h x : Hw} (hs : x.straps = h.straps) (tsel : Nat) : thrLow x tsel = thrLow h tsel := by
  unfold thrLow
  rw [hs]

/-- From `h` to `h'` only stored registers and the records of switch inputs and of half-bridge units, which count their edges, change. -/
def OnlySwi (h h' : Hw) : Prop := h' = { h with regs := h'.regs, swi := h'.swi, hbr := h'.hbr }

namespace OnlySwi

theorem refl (h : Hw) : OnlySwi h h := rfl

section
variable {h x : Hw} (e : OnlySwi h x)
include e

theorem trans {y : Hw} (e' : OnlySwi x y) : OnlySwi h y := by
  unfold OnlySwi at *
  rw [e', e]

theorem onlyRegs {y : Hw} (e' : OnlyRegs x y) : OnlySwi h y := by
  unfold OnlySwi OnlyRegs at *
  rw [e', e]

theorem onlyHbr {y : Hw} (e' : OnlyHbr x y) : OnlySwi h y := by
  unfold OnlySwi OnlyHbr at *
  rw [e', e]

theorem swiCfg (n lo w : Nat) : swiCfg x n lo w = Machine.swiCfg h n lo w :=
  congrArg (fld · lo w) (cfg_congr _ _ _ (by rw [e]) (by rw [e]))

theorem thrHigh (tsel : Nat) : thrHigh x tsel = Machine.thrHigh h tsel := thrHigh_congr (by rw [e]) tsel

theorem thrLow (tsel : Nat) : thrLow x tsel = Machine.thrLow h tsel := thrLow_congr (by rw [e]) tsel

end

end OnlySwi

/-! ### The edges that half-bridge units count -/

/-- An edge moves the unit that counts it, and no other. -/
theorem hbrPosEdge_kept (swi : Nat) (up : Bool) {u : Nat} (hu : u < 24) (h : Hw) : UnitKept u [0x04C, 0x050] h (hbrPosEdge swi up u h) := by
  unfold hbrPosEdge
  dsimp only
  split
  case isFalse => exact .refl h
  case isTrue hlead =>
    have hmem : u ∈ hbrMembers h u := mem_hbrMembers.2 ⟨hu, hlead.1⟩
    have hcount {p : Prop} [Decidable p] (v : Nat) : UnitKept u [0x04C, 0x050] h (if p then wrF h 0x11 u 0x050 0 16 v else h) :=
      .ite ((UnitKept.refl h).wr hmem _ (by simp)) (.refl h)
    refine .ite ?_ (.ite ?_ (hcount _))
    · exact (((hcount _).pulse hmem).hbrCount (by simp)).setHbr _
    · exact (((hcount _).pulse hmem).hbrCount (by simp)).setHbr _

/-- An edge leaves the registers of the switch inputs' pages. -/
theorem UnitKept.rd_inputs {u : Nat} {l : List Nat} {h x : Hw} (e : UnitKept u l h x) (hl : ∀ o ∈ l, o < 0x1000) (i off : Nat) :
    rd x 0x13 i off = rd h 0x13 i off := by
  refine e.regs _ fun ha => ?_
  simp only [List.mem_flatMap, List.mem_map, mem_hbrMembers] at ha
  obtain ⟨n, ⟨hn, -⟩, o, ho, ha⟩ := ha
  have ho : o < 0x1000 := by
    simp only [List.mem_cons] at ho
    rcases ho with rfl | rfl | ho
    · decide
    · decide
    · exact hl o ho
  unfold pg at ha
  omega

section
variable (swi : Nat) (up : Bool) (h : Hw)

theorem posEdge_onlyHbr : OnlyHbr h (posEdge swi up h) :=
  forL_preserves (fun _ hu x e => e.trans (hbrPosEdge_kept swi up (List.mem_range.1 hu) x).frame) (OnlyHbr.refl h)

theorem rd_posEdge (i off : Nat) : rd (posEdge swi up h) 0x13 i off = rd h 0x13 i off :=
  forL_preserves (p := fun x => rd x 0x13 i off = rd h 0x13 i off)
    (fun _ hu x hx => ((hbrPosEdge_kept swi up (List.mem_range.1 hu) x).rd_inputs (by decide) i off).trans hx) rfl

@[simp] theorem posEdge_swi : (posEdge swi up h).swi = h.swi := by rw [posEdge_onlyHbr swi up h]

end

/-! ### A new debounced level -/

/-- The record of input `n` with the new debounced level `lvl` (R209, R211). -/
def debounced (h : Hw) (n : Nat) (lvl : Bool) : SwiIn := { swiIn h n with deb := lvl, kept := false, cnt := 0, first := false }

/-- `h` with the record of input `n` replaced. -/
def setSwi (h : Hw) (n : Nat) (r : SwiIn) : Hw := { h with swi := smPut {} n r h.swi }

/-- A change of the logical state of input `n` sets its CHG bit and, where CHG_EN has it, source 0 (R211). -/
def swiShown (n : Nat) (h : Hw) : Hw :=
  let x := wr h 0x13 (n / 32) 0x048 (setBit (rd h 0x13 (n / 32) 0x048) (n % 32) true)
  if bit (rd x 0x13 (n / 32) 0x04C) (n % 32) then pulse x 0x13 (n / 32) 0 else x

section
variable (n : Nat) (lvl : Bool) (h : Hw)

theorem swiShown_onlyRegs : OnlyRegs h (swiShown n h) := (OnlyRegs.refl h).wr.pulse.ite (OnlyRegs.refl h).wr

/-- No level changes: LEVEL is neither CHG nor EV_STAT. -/
theorem rd_level_swiShown (i : Nat) : rd (swiShown n h) 0x13 i 0x040 = rd h 0x13 i 0x040 := by
  have hwr (w : Word) : rd (wr h 0x13 (n / 32) 0x048 w) 0x13 i 0x040 = rd h 0x13 i 0x040 := rdA_wr (by simp [pgOff_pg])
  unfold swiShown
  dsimp only
  split
  · rw [← hwr]
    exact rdA_pulse (by simp [pgOff_pg])
  · exact hwr _

theorem swiChange_eq : swiChange n lvl h =
    if swiState h n = swiState (setSwi h n (debounced h n lvl)) n then setSwi h n (debounced h n lvl)
    else posEdge n (swiState (swiShown n (setSwi h n (debounced h n lvl))) n) (swiShown n (setSwi h n (debounced h n lvl))) := rfl

theorem swiChange_swi : (swiChange n lvl h).swi = smPut {} n (debounced h n lvl) h.swi := by
  rw [swiChange_eq]
  split
  · rfl
  · rw [posEdge_swi, swiShown_onlyRegs]
    rfl

theorem rd_level_swiChange (i : Nat) : rd (swiChange n lvl h) 0x13 i 0x040 = rd h 0x13 i 0x040 := by
  rw [swiChange_eq]
  split
  · rfl
  · rw [rd_posEdge, rd_level_swiShown]
    rfl

theorem swiChange_onlySwi : OnlySwi h (swiChange n lvl h) := by
  have hset : OnlySwi h (setSwi h n (debounced h n lvl)) := rfl
  rw [swiChange_eq]
  split
  · exact hset
  · exact (hset.onlyRegs (swiShown_onlyRegs ..)).onlyHbr (posEdge_onlyHbr ..)

end

/-! ### The sample of one input -/

/-- The level that the comparator of input `j` of page `i` gives for `mv` millivolts: between the two thresholds it keeps its level (R204). -/
def swiLevel (h : Hw) (i j : Nat) (mv : Int) : Bool :=
  let tsel := swiCfg h (32 * i + j) 4 2
  if thrHigh h tsel < mv then true else if mv < thrLow h tsel then false else bit (rd h 0x13 i 0x040) j

/-- The count of samples in a row that differ from the debounced level of input `n`, or that agree where there is none yet (R209, R213). -/
def swiCount (h : Hw) (n : Nat) (lvl : Bool) : Nat :=
  let r := swiIn h n
  if r.first then (if r.cnt = 0 ∨ r.cl ≠ lvl then 1 else r.cnt + 1) else if lvl = r.deb then 0 else r.cnt + 1

/-- DEB + 1 samples have come together. -/
def swiSettles (h : Hw) (n : Nat) (lvl : Bool) : Prop := swiCount h n lvl ≠ 0 ∧ swiCfg h n 0 4 + 1 ≤ swiCount h n lvl

section
variable {h : Hw} {i j : Nat} {mv : Int}

theorem swiOne_settles (hset : swiSettles h (32 * i + j) (swiLevel h i j mv)) : swiOne i j mv h =
    swiChange (32 * i + j) (swiLevel h i j mv) (wr h 0x13 i 0x040 (setBit (rd h 0x13 i 0x040) j (swiLevel h i j mv))) := if_pos hset

theorem swiOne_counts (hno : ¬ swiSettles h (32 * i + j) (swiLevel h i j mv)) : swiOne i j mv h =
    setSwi (wr h 0x13 i 0x040 (setBit (rd h 0x13 i 0x040) j (swiLevel h i j mv))) (32 * i + j)
      { swiIn h (32 * i + j) with cnt := swiCount h (32 * i + j) (swiLevel h i j mv), cl := swiLevel h i j mv } := if_neg hno

theorem rd_level_swiOne : rd (swiOne i j mv h) 0x13 i 0x040 = setBit (rd h 0x13 i 0x040) j (swiLevel h i j mv) := by
  by_cases hset : swiSettles h (32 * i + j) (swiLevel h i j mv)
  · rw [swiOne_settles hset, rd_level_swiChange, rd_wr_same]
  · rw [swiOne_counts hset]
    exact rd_wr_same h 0x13 i 0x040 _

theorem swiOne_onlySwi : OnlySwi h (swiOne i j mv h) := by
  by_cases hset : swiSettles h (32 * i + j) (swiLevel h i j mv)
  · rw [swiOne_settles hset]
    exact ((OnlySwi.refl h).onlyRegs (OnlyRegs.refl h).wr).trans (swiChange_onlySwi ..)
  · rw [swiOne_counts hset]
    rfl

/-- An input's sample leaves the record of every other input. -/
theorem swiIn_swiOne_ne {n : Nat} (hn : n ≠ 32 * i + j) : swiIn (swiOne i j mv h) n = swiIn h n := by
  by_cases hset : swiSettles h (32 * i + j) (swiLevel h i j mv)
  · rw [swiOne_settles hset, swiIn, swiChange_swi]
    exact smGet_smPut_ne _ _ _ hn _
  · rw [swiOne_counts hset]
    exact smGet_smPut_ne _ _ _ hn _

theorem swiIn_swiOne_settles (hset : swiSettles h (32 * i + j) (swiLevel h i j mv)) :
    swiIn (swiOne i j mv h) (32 * i + j) = debounced h (32 * i + j) (swiLevel h i j mv) := by
  rw [swiOne_settles hset, swiIn, swiChange_swi]
  exact smGet_smPut_same ..

theorem swiIn_swiOne_counts (hno : ¬ swiSettles h (32 * i + j) (swiLevel h i j mv)) : swiIn (swiOne i j mv h) (32 * i + j) =
    { swiIn h (32 * i + j) with cnt := swiCount h (32 * i + j) (swiLevel h i j mv), cl := swiLevel h i j mv } := by
  rw [swiOne_counts hno]
  exact smGet_smPut_same ..

end

/-! ### The sample of a page -/

/-- What the blocks hold of input `j` of page `i`: its record and its bit of LEVEL. -/
def swiView (i j : Nat) (h : Hw) : SwiIn × Bool := (swiIn h (32 * i + j), bit (rd h 0x13 i 0x040) j)

theorem swiView_swiOne_ne {i j k : Nat} (hne : j ≠ k) (mv : Int) (h : Hw) : swiView i k (swiOne i j mv h) = swiView i k h := by
  rw [swiView, swiIn_swiOne_ne (by omega), rd_level_swiOne, bit_setBit_ne _ _ hne.symm, swiView]

section
variable {h x : Hw} {i j : Nat} (e : OnlySwi h x) (hv : swiView i j x = swiView i j h)
include e hv

theorem swiLevel_eq (mv : Int) : swiLevel x i j mv = swiLevel h i j mv := by
  obtain ⟨-, hbit⟩ := Prod.mk.inj hv
  rw [swiLevel, e.swiCfg, e.thrHigh, e.thrLow, hbit, swiLevel]

theorem swiSettles_iff (lvl : Bool) : swiSettles x (32 * i + j) lvl ↔ swiSettles h (32 * i + j) lvl := by
  obtain ⟨hin, -⟩ := Prod.mk.inj hv
  rw [swiSettles, swiSettles, swiCount, swiCount, hin, e.swiCfg]

end

/-- `h` with the sample of page `i` taken at this instant. -/
def swiMarked (i : Nat) (h : Hw) : Hw := { h with swiAt := smPut 0 i (h.now + 1) h.swiAt }

section
variable {h : Hw} {i : Nat} (mvs : List Int) (hon : domOn h 41 = true) (hper : h.tbCopy % swiPeriod h i = 0)
  (hnew : smGet 0 h.swiAt i ≠ h.now + 1)
include hon hper hnew

theorem swiSample_runs : swiSample i mvs h = forN 32 (fun j x => swiOne i j (mvs.getD j 0) x) (swiMarked i h) :=
  if_pos (by simp [swiDue, swiTaken, hon, hper, hnew])

theorem swiAt_swiSample : smGet 0 (swiSample i mvs h).swiAt i = h.now + 1 := by
  have hk : OnlySwi (swiMarked i h) (swiSample i mvs h) := by
    rw [swiSample_runs mvs hon hper hnew]
    exact forL_preserves (fun j _ x e => e.trans swiOne_onlySwi) (OnlySwi.refl _)
  rw [hk]
  exact smGet_smPut_same 0 (h.now + 1) i h.swiAt

/-- Input `j` ends as its own sample leaves it, taken where it still stands as before. -/
theorem swiSample_input {j : Nat} (hj : j < 32) : ∃ x, OnlySwi (swiMarked i h) x ∧ swiView i j x = swiView i j (swiMarked i h) ∧
    swiView i j (swiSample i mvs h) = swiView i j (swiOne i j (mvs.getD j 0) x) := by
  rw [swiSample_runs mvs hon hper hnew]
  exact forN_reaches hj (fun _ _ e => e.trans swiOne_onlySwi) (fun k _ hne x => swiView_swiOne_ne hne _ x) (OnlySwi.refl _)

variable {j : Nat} (hj : j < 32)
include hj

theorem level_swiSample : bit (rd (swiSample i mvs h) 0x13 i 0x040) j = swiLevel h i j (mvs.getD j 0) := by
  obtain ⟨x, e, hv, hlast⟩ := swiSample_input mvs hon hper hnew hj
  rw [(Prod.mk.inj hlast).2, rd_level_swiOne, bit_setBit_same _ _ hj, swiLevel_eq e hv]
  rfl

theorem swiSample_settles (hset : swiSettles h (32 * i + j) (swiLevel h i j (mvs.getD j 0))) :
    swiIn (swiSample i mvs h) (32 * i + j) = debounced h (32 * i + j) (swiLevel h i j (mvs.getD j 0)) := by
  obtain ⟨x, e, hv, hlast⟩ := swiSample_input mvs hon hper hnew hj
  have hlvl : swiLevel x i j (mvs.getD j 0) = swiLevel h i j (mvs.getD j 0) := swiLevel_eq e hv _
  rw [(Prod.mk.inj hlast).1, swiIn_swiOne_settles (by rwa [hlvl, swiSettles_iff e hv]), debounced, (Prod.mk.inj hv).1, hlvl]
  rfl

theorem swiSample_counts (hno : ¬ swiSettles h (32 * i + j) (swiLevel h i j (mvs.getD j 0))) :
    swiIn (swiSample i mvs h) (32 * i + j) = { swiIn h (32 * i + j) with
      cnt := swiCount h (32 * i + j) (swiLevel h i j (mvs.getD j 0)), cl := swiLevel h i j (mvs.getD j 0) } := by
  obtain ⟨x, e, hv, hlast⟩ := swiSample_input mvs hon hper hnew hj
  have hlvl : swiLevel x i j (mvs.getD j 0) = swiLevel h i j (mvs.getD j 0) := swiLevel_eq e hv _
  rw [(Prod.mk.inj hlast).1, swiIn_swiOne_counts (by rwa [hlvl, swiSettles_iff e hv]), swiCount, (Prod.mk.inj hv).1, hlvl]
  rfl

end

end Sys2Proof.Machine

/-! ## Protection of the switch inputs (R206, R207) -/

namespace Sys2Proof.Machine

section
variable {h : Hw} {n : Nat}

/-- The wetting source of input `n` disconnects (R207). -/
def disconnected (n : Nat) (h : Hw) : Hw := setSwi h n { swiIn h n with disc := true }

theorem swiOver_runs (hon : domOn h 41 = true) : swiOver n h = if bit (rd h 0x13 (n / 32) 0x050) (n % 32) then disconnected n h
    else pulse (wr (disconnected n h) 0x13 (n / 32) 0x050 (setBit (rd h 0x13 (n / 32) 0x050) (n % 32) true)) 0x13 (n / 32) 1 := if_pos hon

variable (hon : domOn h 41 = true)
include hon

theorem swiOver_onlyRegs : OnlyRegs (disconnected n h) (swiOver n h) := by
  rw [swiOver_runs hon]
  exact (OnlyRegs.refl _).ite (OnlyRegs.refl _).wr.pulse

theorem swiOver_onlySwi : swiOver n h = { h with regs := (swiOver n h).regs, swi := (swiOver n h).swi } := by
  have hswi : (swiOver n h).swi = (disconnected n h).swi := by rw [swiOver_onlyRegs hon]
  rw [hswi]
  exact swiOver_onlyRegs hon

theorem swiIn_swiOver : swiIn (swiOver n h) n = { swiIn h n with disc := true } := by
  rw [swiIn, swiOver_onlyRegs hon]
  exact smGet_smPut_same ..

theorem swiIn_swiOver_ne {k : Nat} (hk : k ≠ n) : swiIn (swiOver n h) k = swiIn h k := by
  rw [swiIn, swiOver_onlyRegs hon]
  exact smGet_smPut_ne _ _ _ hk _

theorem ovr_swiOver : bit (rd (swiOver n h) 0x13 (n / 32) 0x050) (n % 32) = true := by
  rw [swiOver_runs hon]
  split
  case isTrue hset => exact hset
  case isFalse => rw [rd_pulse_off _ _ _ _ (by decide), rd_wr_same, bit_setBit_same _ _ (Nat.mod_lt _ (by decide))]

theorem evSeen_swiOver (hnew : bit (rd h 0x13 (n / 32) 0x050) (n % 32) = false) : evSeen (swiOver n h) 0x13 (n / 32) 1 := by
  rw [swiOver_runs hon, if_neg (Bool.eq_false_iff.1 hnew)]
  exact evSeen_pulse (by decide)

theorem swiOver_sameRegsBut : sameRegsBut h (swiOver n h) [pg 0x13 (n / 32) + oSTAT, pg 0x13 (n / 32) + 0x050] := by
  intro a ha
  simp only [List.mem_cons, List.not_mem_nil, or_false, not_or] at ha
  obtain ⟨hstat, hovr⟩ := ha
  rw [swiOver_runs hon]
  split
  · rfl
  · rw [rdA_pulse_ne hstat]
    exact rdA_wrA_ne _ _ hovr

end

end Sys2Proof.Machine

/-! ## The parking poll (R214 … R216) -/

namespace Sys2Proof.Machine

/-- From `h` to `h'` only stored registers and the Plinth's copies for the parking slots change. -/
def OnlyPark (h h' : Hw) : Prop := h' = { h with regs := h'.regs, park := h'.park }

namespace OnlyPark

section
variable {h x : Hw} (e : OnlyPark h x)
include e

theorem trans {y : Hw} (e' : OnlyPark x y) : OnlyPark h y := by
  unfold OnlyPark at *
  rw [e', e]

theorem cfg (ty i off : Nat) : cfg x ty i off = Machine.cfg h ty i off := cfg_congr _ _ _ (by rw [e]) (by rw [e])

theorem cfgF (ty i off lo w : Nat) : cfgF x ty i off lo w = Machine.cfgF h ty i off lo w := congrArg (fld · lo w) (e.cfg ..)

theorem slotOn (k : Nat) : slotOn x k = Machine.slotOn h k := congrArg (bit · _) (e.cfg ..)

theorem thrHigh (tsel : Nat) : thrHigh x tsel = Machine.thrHigh h tsel := thrHigh_congr (by rw [e]) tsel

end

end OnlyPark

/-- The copies that the Plinth keeps for slot `k`. -/
def parkRec (h : Hw) (k : Nat) : ParkSlot := smGet {} h.park k

/-- The logical state that a poll finds at slot `k`, of an input at `mv` millivolts (R215). -/
def pollState (h : Hw) (k : Nat) (mv : Int) : Bool := decide (thrHigh h (parkRec h k).tsel < mv) ^^ (parkRec h k).inv

/-- The count of successive polls that differ from the reference of slot `k`, with this one (R216). -/
def pollCount (h : Hw) (k : Nat) (mv : Int) : Nat :=
  if pollState h k mv = bit (rd h 0x13 0 0x060) (16 + k) then 0 else (parkRec h k).cnt + 1

/-- The poll takes slot `k` to the wake rule (R216). -/
def pollDue (h : Hw) (k : Nat) (mv : Int) : Bool := decide (cfgF h 0x13 0 0x404 0 2 + 1 ≤ pollCount h k mv)

/-- Slot `k` is polled: it is enabled and has not met the wake rule in this parking. -/
def slotPolled (h : Hw) (k : Nat) : Bool := slotOn h k && !(parkRec h k).met

theorem slotPolled_iff {h : Hw} {k : Nat} : slotPolled h k = true ↔ slotOn h k = true ∧ (parkRec h k).met = false := by simp [slotPolled]

/-- What the blocks hold of slot `k`: its copies, its SLOTS bit and its reference. -/
def slotView (k : Nat) (h : Hw) : ParkSlot × Bool × Bool := (parkRec h k, bit (rd h 0x13 0 0x060) k, bit (rd h 0x13 0 0x060) (16 + k))

theorem slotView_eq_iff {k : Nat} {h x : Hw} : slotView k x = slotView k h ↔ parkRec x k = parkRec h k ∧
    bit (rd x 0x13 0 0x060) k = bit (rd h 0x13 0 0x060) k ∧ bit (rd x 0x13 0 0x060) (16 + k) = bit (rd h 0x13 0 0x060) (16 + k) := by
  rw [slotView, slotView, Prod.mk.injEq, Prod.mk.injEq]

/-- `h` with the count of slot `k` after a poll. -/
def slotCounted (h : Hw) (k : Nat) (mv : Int) : Hw :=
  { h with park := smPut {} k { parkRec h k with cnt := min (pollCount h k mv) 4, met := pollDue h k mv } h.park }

section
variable {h : Hw} {k : Nat} {mvs : List Int}

theorem parkSlot_skips (hno : slotPolled h k = false) : parkSlot mvs k h = h := if_neg (Bool.eq_false_iff.1 hno)

theorem parkSlot_polls (hyes : slotPolled h k = true) : parkSlot mvs k h = if pollDue h k (mvs.getD k 0) then
    parkLevels (wr (slotCounted h k (mvs.getD k 0)) 0x13 0 0x060 (setBit (rd h 0x13 0 0x060) k true)) else slotCounted h k (mvs.getD k 0) :=
  if_pos hyes

theorem parkSlot_onlyPark (mvs : List Int) (k : Nat) (h : Hw) : OnlyPark h (parkSlot mvs k h) := by
  have hcnt : OnlyPark h (slotCounted h k (mvs.getD k 0)) := rfl
  cases hp : slotPolled h k with
  | false =>
    rw [parkSlot_skips hp]
    rfl
  | true =>
    rw [parkSlot_polls hp]
    split
    · refine hcnt.trans ?_
      unfold OnlyPark
      rw [parkLevels_park]
      exact (OnlyRegs.refl _).wr.trans (parkLevels_onlyRegs _)
    · exact hcnt

theorem parkRec_parkSlot (hyes : slotPolled h k = true) : parkRec (parkSlot mvs k h) k =
    { parkRec h k with cnt := min (pollCount h k (mvs.getD k 0)) 4, met := pollDue h k (mvs.getD k 0) } := by
  have hcnt : parkRec (slotCounted h k (mvs.getD k 0)) k =
      { parkRec h k with cnt := min (pollCount h k (mvs.getD k 0)) 4, met := pollDue h k (mvs.getD k 0) } := smGet_smPut_same ..
  rw [parkSlot_polls hyes]
  split
  · rw [parkRec, parkLevels_park]
    exact hcnt
  · exact hcnt

theorem rd_parkSlot (hyes : slotPolled h k = true) : rd (parkSlot mvs k h) 0x13 0 0x060 =
    if pollDue h k (mvs.getD k 0) then setBit (rd h 0x13 0 0x060) k true else rd h 0x13 0 0x060 := by
  rw [parkSlot_polls hyes]
  split
  · rw [rd_parkLevels_off _ (by decide) (by decide), rd_wr_same]
  · rfl

/-- A slot's poll leaves the copies and the bits of every other slot. -/
theorem slotView_parkSlot_ne {m : Nat} (hk : k < 16) (hm : m ≠ k) (mvs : List Int) (h : Hw) :
    slotView m (parkSlot mvs k h) = slotView m h := by
  have hcnt : slotView m (slotCounted h k (mvs.getD k 0)) = slotView m h := Prod.ext (smGet_smPut_ne _ _ _ hm _) rfl
  cases hp : slotPolled h k with
  | false => rw [parkSlot_skips hp]
  | true =>
    rw [parkSlot_polls hp, ← hcnt]
    split
    · rw [slotView, slotView, parkRec, parkLevels_park, rd_parkLevels_off _ (by decide) (by decide), rd_wr_same, bit_setBit_ne _ _ hm,
        bit_setBit_ne _ _ (by omega)]
      rfl
    · rfl

end

section
variable {h x : Hw} {k : Nat} (e : OnlyPark h x) (hv : slotView k x = slotView k h)
include e hv

theorem pollCount_eq (mv : Int) : pollCount x k mv = pollCount h k mv := by
  obtain ⟨hrec, -, href⟩ := slotView_eq_iff.1 hv
  rw [pollCount, pollState, hrec, e.thrHigh, href, pollCount, pollState]

theorem pollDue_eq (mv : Int) : pollDue x k mv = pollDue h k mv := by
  rw [pollDue, pollCount_eq e hv, e.cfgF, pollDue]

theorem slotPolled_eq : slotPolled x k = slotPolled h k := by
  obtain ⟨hrec, -⟩ := slotView_eq_iff.1 hv
  rw [slotPolled, e.slotOn, hrec, slotPolled]

end

section
variable {h : Hw} {k : Nat} (mvs : List Int) (hruns : parkRuns h = true) (hk : k < 16)
include hruns hk

/-- Slot `k` ends as its own poll leaves it, taken where the slot still stands as before. -/
theorem parkPoll_slot : ∃ x, OnlyPark h x ∧ slotView k x = slotView k h ∧ slotView k (parkPoll mvs h) = slotView k (parkSlot mvs k x) := by
  rw [parkPoll, if_pos hruns]
  exact forN_reaches hk (fun j x e => e.trans (parkSlot_onlyPark mvs j x)) (fun j hj hne x => slotView_parkSlot_ne hj hne.symm mvs x) rfl

theorem parkPoll_skips (hno : slotPolled h k = false) : slotView k (parkPoll mvs h) = slotView k h := by
  obtain ⟨x, e, hv, hlast⟩ := parkPoll_slot mvs hruns hk
  rw [hlast, parkSlot_skips (by rwa [slotPolled_eq e hv]), hv]

theorem parkRec_parkPoll (hyes : slotPolled h k = true) : parkRec (parkPoll mvs h) k =
    { parkRec h k with cnt := min (pollCount h k (mvs.getD k 0)) 4, met := pollDue h k (mvs.getD k 0) } := by
  obtain ⟨x, e, hv, hlast⟩ := parkPoll_slot mvs hruns hk
  obtain ⟨hrec, -⟩ := slotView_eq_iff.1 hv
  rw [(slotView_eq_iff.1 hlast).1, parkRec_parkSlot (by rwa [slotPolled_eq e hv]), pollCount_eq e hv, pollDue_eq e hv, hrec]

theorem slots_parkPoll (hyes : slotPolled h k = true) : bit (rd (parkPoll mvs h) 0x13 0 0x060) k =
    (bit (rd h 0x13 0 0x060) k || pollDue h k (mvs.getD k 0)) := by
  obtain ⟨x, e, hv, hlast⟩ := parkPoll_slot mvs hruns hk
  obtain ⟨-, hslots, -⟩ := slotView_eq_iff.1 hv
  obtain ⟨-, hafter, -⟩ := slotView_eq_iff.1 hlast
  rw [hafter, rd_parkSlot (by rwa [slotPolled_eq e hv]), pollDue_eq e hv]
  cases pollDue h k (mvs.getD k 0) with
  | false => rw [if_neg Bool.false_ne_true, Bool.or_false, hslots]
  | true => rw [if_pos rfl, Bool.or_true, bit_setBit_same _ _ (by omega)]

end

theorem parkRuns_iff {h : Hw} : parkRuns h = true ↔ cfgF h 0x13 0 0x404 31 1 = 1 ∧ domOn h 41 = false := by simp [parkRuns]

/-- Settles O22: each input ends as its own sample leaves it (`swiSample_settles`, `swiSample_counts`), each slot as its own poll leaves it
(`parkRec_parkPoll`, `slots_parkPoll`). -/
theorem switchInputs : Obligations.SwitchInputs := by
  refine ⟨fun g mvs s ha hon hper hnew => ?sample, fun s ha => ⟨fun n mV hon hmV => ?disconnect, fun n => ?reconnect, fun g degC hon => ⟨fun hT => ?hot,
    fun hT => ?cool⟩⟩, fun mvs s ha => ?poll⟩
  case sample =>
    refine answers_hw rfl ha rfl ⟨fun _ => rfl, swiAt_swiSample mvs hon hper hnew, fun j hj => ?_⟩
    intro n r mv tsel lvl cnt
    refine ⟨level_swiSample mvs hon hper hnew hj, ?_⟩
    split
    case isTrue hset =>
      have hrec := swiSample_settles mvs hon hper hnew hj hset
      exact ⟨congrArg SwiIn.deb hrec, congrArg SwiIn.first hrec, congrArg SwiIn.cnt hrec⟩
    case isFalse hno =>
      have hrec := swiSample_counts mvs hon hper hnew hj hno
      exact ⟨(congrArg SwiIn.deb hrec :), (congrArg SwiIn.first hrec :), congrArg SwiIn.cnt hrec⟩
  case disconnect =>
    refine answers_hw rfl ha (if_pos hmV) ⟨swiIn_swiOver hon, ovr_swiOver hon, evSeen_swiOver hon, ?_, swiOver_sameRegsBut hon,
      fun k hk => swiIn_swiOver_ne hon hk⟩
    exact congrArg (fun h => { s with m := { s.m with hw := h } }) (swiOver_onlySwi hon)
  case reconnect => exact gives_hw rfl ha rfl
  case hot => exact gives_hw rfl ha ((if_pos hT).trans (if_pos hon))
  case cool => exact gives_hw rfl ha ((if_pos hT).trans (if_pos hon))
  case poll =>
    refine ⟨wakes_hw rfl ha, fun hno => if_neg fun hruns => ?rests, fun hen hoff k hk => ?slot⟩
    case rests =>
      obtain ⟨hen, hoff⟩ := parkRuns_iff.1 hruns
      exact hno.elim (· hen) fun hon => Bool.false_ne_true (hoff.symm.trans hon)
    case slot =>
      have hruns := parkRuns_iff.2 ⟨hen, hoff⟩
      intro p st cnt due
      refine ⟨fun hslot hmet => ?polled, fun hskip => ?skipped⟩
      case polled =>
        have hyes : slotPolled s.m.hw k = true := slotPolled_iff.2 ⟨hslot, hmet⟩
        exact ⟨parkRec_parkPoll mvs hruns hk hyes, slots_parkPoll mvs hruns hk hyes⟩
      case skipped =>
        have hno : slotPolled s.m.hw k = false := Bool.eq_false_iff.2 fun hyes => by
          obtain ⟨hslot, hmet⟩ := slotPolled_iff.1 hyes
          rcases hskip with hslot' | hmet'
          · exact Bool.false_ne_true (hslot'.symm.trans hslot)
          · exact Bool.false_ne_true (hmet.symm.trans hmet')
        obtain ⟨hrec, hslots, -⟩ := slotView_eq_iff.1 (parkPoll_skips mvs hruns hk hno)
        exact ⟨hrec, hslots⟩

end Sys2Proof.Machine

/-! ## The records of the cores: what their updates change -/

namespace Sys2Proof.Machine

theorem olk_setOlk_ne {h : Hw} {c k : Nat} (r : Olk) (hk : k ≠ c) : olk (setOlk h c r) k = olk h k := smGet_smPut_ne _ _ _ hk _

/-- A record is stored as it is where the watchdog does not begin to watch the core with it (R485). -/
theorem olk_setOlk_same {h : Hw} {c : Nat} {r : Olk} (hw : watched r = true → watched (olk h c) = true) : olk (setOlk h c r) c = r := by
  have hno : (watched r && !watched (olk h c)) = false := by
    cases hr : watched r with
    | false => rfl
    | true => rw [hw hr]; rfl
  rw [olk, setOlk, if_neg (Bool.eq_false_iff.1 hno)]
  exact smGet_smPut_same ..

theorem olk_setOlk_self (h : Hw) (c k : Nat) : olk (setOlk h c (olk h c)) k = olk h k := by
  by_cases hk : k = c
  · rw [hk, olk_setOlk_same id]
  · exact olk_setOlk_ne _ hk

/-- From `h` to `h'` only the records of the cores change. -/
def OnlyOlk (h h' : Hw) : Prop := h' = { h with olk := h'.olk }

theorem OnlyOlk.trans {h x y : Hw} (e : OnlyOlk h x) (e' : OnlyOlk x y) : OnlyOlk h y := by
  unfold OnlyOlk at *
  rw [e', e]

theorem setOlk_onlyOlk (h : Hw) (c : Nat) (r : Olk) : OnlyOlk h (setOlk h c r) := rfl

/-! ### Reservations (R284) -/

/-- The record of a core with the reservation `q`. -/
def withResv (q : Option Nat) (r : Olk) : Olk := { r with resv := q }

theorem olkCore_eq (h : Hw) (c : Nat) : olkCore h c = withResv none (olk h c) := rfl

theorem olkCore_setOlk_resv (h : Hw) (c k : Nat) (q : Option Nat) : olkCore (setOlk h c (withResv q (olk h c))) k = olkCore h k := by
  by_cases hk : k = c
  · rw [hk, olkCore_eq, olk_setOlk_same (r := withResv q (olk h c)) fun hw => hw]
    rfl
  · rw [olkCore_eq, olk_setOlk_ne _ hk, olkCore_eq]

/-- What the clearing of one core's reservation leaves alone, `clearResv` leaves alone. -/
theorem clearResv_keeps {β : Type} (p : Hw → β) (hp : ∀ h c, p (setOlk h c (withResv none (olk h c))) = p h) (a n : Nat) (h : Hw) :
    p (clearResv a n h) = p h := by
  refine forN_keeps p (fun c x => ?_) 12 h
  split
  · split
    · exact hp x c
    · rfl
  · rfl

theorem olkCore_clearResv (a n : Nat) (h : Hw) (k : Nat) : olkCore (clearResv a n h) k = olkCore h k :=
  clearResv_keeps (olkCore · k) (fun x c => olkCore_setOlk_resv x c k none) a n h

/-- The blocks with the records `l` of the cores. -/
def withCores (l : List (Nat × Olk)) (h : Hw) : Hw := { h with olk := l }

theorem onlyOlk_of_withCores {h x : Hw} (hx : withCores [] x = withCores [] h) : OnlyOlk h x :=
  show withCores x.olk (withCores [] x) = withCores x.olk (withCores [] h) from congrArg (withCores _) hx

theorem clearResv_onlyOlk (a n : Nat) (h : Hw) : OnlyOlk h (clearResv a n h) :=
  onlyOlk_of_withCores (clearResv_keeps (withCores []) (fun _ _ => rfl) a n h)

@[simp] theorem store_hw (a n v : Nat) (m : Mach) : (store a n v m).hw = clearResv a n m.hw := by rw [store]
@[simp] theorem store_mem (a n v : Nat) (m : Mach) : (store a n v m).mem = wrMem m.mem a n v := by rw [store]

/-- From `h` to `h'` only the records of the cores change, those of the cores but `c` at most in their reservations; that of core `c` is `r` but
for its reservation. -/
structure CoreMoved (c : Nat) (r : Olk) (h h' : Hw) : Prop where
  blocks : OnlyOlk h h'
  others : ∀ k, k ≠ c → olkCore h' k = olkCore h k
  own : olkCore h' c = withResv none r

namespace CoreMoved

theorem refl (c : Nat) (h : Hw) : CoreMoved c (olk h c) h h := ⟨rfl, fun _ _ => rfl, rfl⟩

section
variable {c : Nat} {r : Olk} {h x : Hw} (e : CoreMoved c r h x)
include e

theorem olk_eq : olk x c = withResv (olk x c).resv r :=
  show withResv (olk x c).resv (olkCore x c) = withResv (olk x c).resv (withResv none r) from congrArg (withResv _) e.own

theorem clearResv (a n : Nat) : CoreMoved c r h (clearResv a n x) where
  blocks := e.blocks.trans (clearResv_onlyOlk a n x)
  others k hk := (olkCore_clearResv a n x k).trans (e.others k hk)
  own := (olkCore_clearResv a n x c).trans e.own

/-- Core `c`, which the watchdog watches, changes its record by `f`, which does not look at the reservation and leaves it. -/
theorem update (hw : watched r = true) {f : Olk → Olk} (hf : ∀ o q, f (withResv q o) = withResv q (f o)) :
    CoreMoved c (f r) h (setOlk x c (f (olk x c))) where
  blocks := e.blocks.trans (setOlk_onlyOlk ..)
  others k hk := (congrArg (withResv none) (olk_setOlk_ne _ hk)).trans (e.others k hk)
  own := by
    have hx : watched (olk x c) = true := by rw [e.olk_eq]; exact hw
    have hnew : olk (setOlk x c (f (olk x c))) c = f (olk x c) := olk_setOlk_same fun _ => hx
    rw [olkCore_eq, hnew, e.olk_eq, hf]
    rfl

end

theorem store {c : Nat} {r : Olk} {h : Hw} {m : Mach} (e : CoreMoved c r h m.hw) (a n v : Nat) : CoreMoved c r h (store a n v m).hw := by
  rw [store_hw]
  exact e.clearResv a n

theorem applyPtrs {c : Nat} {r : Olk} {h : Hw} {win : Nat} {l : List (Nat × Int)} {m : Mach} (e : CoreMoved c r h m.hw) :
    CoreMoved c r h (applyPtrs win l m).hw := by
  induction l generalizing m with
  | nil => exact e
  | cons p l ih =>
    obtain ⟨w, d⟩ := p
    exact ih (e.store ..)

theorem coreAfter {s t : State} {c : Nat} {r : Olk} (e : CoreMoved c r s.m.hw t.m.hw) (hp : t.pending = s.pending) : coreAfter s t c r :=
  ⟨e.blocks, hp, e.others, e.own⟩

end CoreMoved

/-! ### The end of an instruction -/

/-- Late writes with one instruction less to end (R247). -/
def lateLess (l : List Late) : List Late := l.map fun e => { e with left := e.left - 1 }

/-- Products with one instruction less to end (R251). -/
def latePLess (l : List LateP) : List LateP := l.map fun e => { e with left := e.left - 1 }

theorem lateLess_left {l : List Late} (hl : ∀ e ∈ l, 1 < e.left) : ∀ e ∈ lateLess l, e.left ≠ 0 := by
  intro e he
  obtain ⟨d, hd, rfl⟩ := List.mem_map.1 he
  have := hl d hd
  dsimp only
  omega

theorem latePLess_left {l : List LateP} (hl : ∀ e ∈ l, 1 < e.left) : ∀ e ∈ latePLess l, e.left ≠ 0 := by
  intro e he
  obtain ⟨d, hd, rfl⟩ := List.mem_map.1 he
  have := hl d hd
  dsimp only
  omega

/-- What the end of an instruction does to the record where nothing lands. -/
def endLate (r : Olk) : Olk := { r with late := lateLess r.late, lateP := latePLess r.lateP }

/-- The end of an instruction at which nothing lands. -/
theorem endInstr_lands_none {c : Nat} {m : Mach} (hl : ∀ e ∈ (olk m.hw c).late, 1 < e.left) (hp : ∀ e ∈ (olk m.hw c).lateP, 1 < e.left) :
    endInstr c m = m.onHw (fun h => setOlk h c (endLate (olk h c))) := by
  have hl' := lateLess_left hl
  have hp' := latePLess_left hp
  unfold endInstr
  dsimp only
  rw [← lateLess, ← latePLess, List.filter_eq_nil_iff.2 (by simpa using hl'), List.filter_eq_nil_iff.2 (by simpa using hp'),
    List.filter_eq_self.2 (by simpa using hl'), List.filter_eq_self.2 (by simpa using hp')]
  rfl

end Sys2Proof.Machine

/-! ## Accesses of a memory (R228, R284, R482) -/

namespace Sys2Proof.Machine

theorem mem_splitWords_self (a n : Nat) : a ∈ splitWords a n := by
  unfold splitWords
  split
  · exact List.mem_singleton_self a
  · exact List.mem_map.2 ⟨0, List.mem_range.2 (by omega), rfl⟩

/-- The access of `n` bytes at `a`, in a memory, ends in no bus error and finds its way open. -/
structure MemOpen (h : Hw) (ini : Initiator) (a n : Nat) (wr : Bool) : Prop where
  memory : a < 0x40000000
  noError : busKind a n wr = none
  way : (splitWords a n).all (fun b => accessOpen h ini b) = true

/-- An access whose way is open needs no fabric, or finds PD18 open. -/
theorem MemOpen.fabric {h : Hw} {ini : Initiator} {a n : Nat} {wr : Bool} (e : MemOpen h ini a n wr) :
    (!ownNear ini a && !domOpen h 18) = false := by
  have ha : accessOpen h ini a = true := List.all_eq_true.1 e.way a (mem_splitWords_self a n)
  cases hown : ownNear ini a with
  | true => rfl
  | false =>
    rw [accessOpen, hown, Bool.false_or, Bool.and_eq_true] at ha
    obtain ⟨h18, -⟩ := ha
    rw [h18]
    rfl

theorem busRead_memory {ini : Initiator} {a n : Nat} {m : Mach} (e : MemOpen m.hw ini a n false) : busRead ini a n m = .ok (rdMem m.mem a n) m := by
  simp only [busRead, e.fabric, e.noError, e.way, e.memory, Bool.false_eq_true, if_false, if_true]

theorem busWrite_memory {ini : Initiator} {a n v : Nat} {m : Mach} (e : MemOpen m.hw ini a n true) :
    busWrite ini a n v m = .ok 0 (store a n v m) := by
  simp only [busWrite, e.fabric, e.noError, e.way, e.memory, Bool.false_eq_true, if_false, if_true]

theorem access_write_memory {ini : Initiator} {a n v : Nat} {m : Mach} (hl : iniLive m.hw ini = true) (hg : ungranted m.hw ini a n true = false)
    (e : MemOpen m.hw ini a n true) : access true ini a n v m = store a n v m := by
  simp only [access, hl, hg, busWrite_memory e, Bool.not_true, Bool.false_eq_true, if_false, if_true]

/-- An aligned access of an address that some memory has, above the NV store, ends in no bus error (R32). -/
theorem busKind_memory {a n : Nat} {wr : Bool} (hd : (addrDomain a).isSome = true) (hlo : 0x01000000 ≤ a) (hhi : a < 0x40000000)
    (hal : a % n = 0) : busKind a n wr = none := by
  have hpage : ¬ (0x40000000 ≤ a ∧ a < 0x50000000) := by omega
  have hnv : ¬ a < 0x01000000 := by omega
  have hsome : addrDomain a ≠ none := Option.isSome_iff_ne_none.1 hd
  simp [busKind, hpage, hnv, hsome, hal]

theorem store_pwr (a n v : Nat) (m : Mach) : (store a n v m).hw.pwr = m.hw.pwr := by
  rw [store_hw, clearResv_onlyOlk]

/-- A command that changes a supplied module by `f`, which leaves the sequencer alone, answers what holds of the module after `f`. -/
theorem answers_run {c : Instr} {s : State} {f : Mach → Mach} {m : Mach} {P : State → Prop} (hx : exec c s = .next (s.run f))
    (ha : s.alive = true) (hf : f s.m = m) (hpwr : m.hw.pwr = s.m.hw.pwr) (hp : P { s with m := m }) : Answers c s P := by
  refine ⟨_, hx, ?_⟩
  rwa [State.run_alive _ ha, hf, proceed_same (congrArg Pwr.cur hpwr)]

/-- Settles O7: the access is `store`, whose bytes `rdMem_wrMem` reads back and `rdByte_wrMem_out` finds unchanged elsewhere. -/
theorem memoryWriteReadsBack : Obligations.MemoryWriteReadsBack := by
  intro ini a k v s hal hhi hlo halign hd hl hg hway
  have hopen : MemOpen s.m.hw ini a.toNat (2 ^ k.val) true := ⟨hhi, busKind_memory hd hlo hhi halign, hway⟩
  refine answers_run rfl hal (access_write_memory hl hg hopen) (store_pwr ..) ⟨?back, fun b hb => ?others, store_hw .., rfl⟩
  case back => rw [store_mem, rdMem_wrMem]
  case others => rw [store_mem, rdByte_wrMem_out _ _ _ _ b hb]

end Sys2Proof.Machine

/-! ## Exceptions and interrupts (R259 … R264) -/

namespace Sys2Proof.Machine

/-- Core `c` runs code and nothing of it is late. -/
structure Settled (h : Hw) (c : Nat) : Prop where
  runs : (olk h c).phase = .run
  late : (olk h c).late = []
  lateP : (olk h c).lateP = []

theorem Settled.watched {h : Hw} {c : Nat} (e : Settled h c) : watched (olk h c) = true := by simp [Machine.watched, e.runs]

theorem phase_run_of_iniLive {h : Hw} {c : Fin 12} (hl : iniLive h (.core c) = true) : (olk h c.val).phase = .run := by
  simp only [iniLive, coreRuns, Bool.and_eq_true, decide_eq_true_eq] at hl
  obtain ⟨-, ⟨hrun, -⟩, -⟩ := hl
  exact hrun

/-- What the landing of everything late does to the record (R248, R253). -/
def landRec (r : Olk) : Olk := { r with late := [], lateP := [], prods := landProds r.lateP r.prods }

theorem landRec_settled {h : Hw} {c : Nat} (e : Settled h c) : landRec (olk h c) = olk h c := by
  obtain ⟨-, hl, hp⟩ := e
  generalize olk h c = r at hl hp ⊢
  cases r
  cases hl
  cases hp
  rfl

section
variable {c : Nat} {m : Mach} (e : Settled m.hw c)
include e

/-- With nothing late the record is put back as it was. -/
theorem landAll_settled : landAll c m = m.onHw (fun h => setOlk h c (olk h c)) := by
  have hland : landAll c m = landList c (olk m.hw c).late (m.onHw fun h => setOlk h c (landRec (olk m.hw c))) := rfl
  rw [hland, e.late, landRec_settled e]
  rfl

theorem mem_enterSup (cause opnd : Nat) (wr : Bool) (epc : Word) (eaddr : Option Word) : (enterSup c cause opnd wr epc eaddr m).mem = m.mem := by
  rw [enterSup, landAll_settled e, Mach.onHw_mem, Mach.onHw_mem]

/-- The blocks after an entry (R262), but for the count of free values: the core's record as entered, without a reservation, and with an open
EADDR where the cause gives none. -/
theorem hw_enterSup {β : Type} (p : Hw → β) (hp : ∀ h n, p { h with freeCnt := n } = p h) (cause opnd : Nat) (wr : Bool) (epc : Word)
    (eaddr : Option Word) : p (enterSup c cause opnd wr epc eaddr m).hw =
      p (setOlk (setOlk m.hw c (olk m.hw c)) c (withResv none (entered (olk m.hw c) cause epc (eaddr.getD (Config.openWord m.hw.freeCnt))
        (ecauseWord cause opnd wr)))) := by
  have hsame : olk (setOlk m.hw c (olk m.hw c)) c = olk m.hw c := olk_setOlk_self ..
  rw [enterSup, landAll_settled e, Mach.onHw_hw, Mach.onHw_hw, hsame]
  cases eaddr with
  | none => exact hp _ _
  | some a => rfl

theorem pwr_enterSup (cause opnd : Nat) (wr : Bool) (epc : Word) (eaddr : Option Word) :
    (enterSup c cause opnd wr epc eaddr m).hw.pwr = m.hw.pwr := by
  rw [hw_enterSup e Hw.pwr fun _ _ => rfl, setOlk_pwr, setOlk_pwr]

theorem olk_enterSup_same (cause opnd : Nat) (wr : Bool) (epc : Word) (eaddr : Option Word) :
    olk (enterSup c cause opnd wr epc eaddr m).hw c = withResv none (entered (olk m.hw c) cause epc
      (eaddr.getD (Config.openWord m.hw.freeCnt)) (ecauseWord cause opnd wr)) := by
  have hw : watched (olk (setOlk m.hw c (olk m.hw c)) c) = true := by rw [olk_setOlk_self]; exact e.watched
  rw [hw_enterSup e (olk · c) fun _ _ => rfl, olk_setOlk_same fun _ => hw]

theorem olk_enterSup_ne (cause opnd : Nat) (wr : Bool) (epc : Word) (eaddr : Option Word) {k : Nat} (hk : k ≠ c) :
    olk (enterSup c cause opnd wr epc eaddr m).hw k = olk m.hw k := by
  rw [hw_enterSup e (olk · k) fun _ _ => rfl, olk_setOlk_ne _ hk, olk_setOlk_ne _ hk]

end

section
variable {c : Nat} {i : Instr} {s : State} {f : Mach → Mach} {cause : Nat} (hx : exec i s = .next (s.run f)) (ha : s.alive = true)
  (e : Settled s.m.hw c)
include hx ha e

/-- A command that makes core `c` enter supervisor mode with a cause that has no address (R262). -/
theorem answers_enterSup {epc : Word} (hf : f s.m = enterSup c cause 0 false epc none s.m) :
    Answers i s (fun t => sameMem s t ∧ (∀ k, k ≠ c → olk t.m.hw k = olk s.m.hw k) ∧
      olk t.m.hw c = withResv none (entered (olk s.m.hw c) cause epc (Config.openWord s.m.hw.freeCnt) (BitVec.ofNat 32 cause))) := by
  refine answers_run hx ha hf (pwr_enterSup e ..) ⟨fun a => ?mem, fun k hk => olk_enterSup_ne e _ _ _ _ _ hk, ?own⟩
  case mem => rw [mem_enterSup e]
  case own =>
    rw [olk_enterSup_same e, ecauseWord]
    simp

/-- A command that raises an exception without an address on core `c`, outside a repeat: the entry, or the halt while EXL is 1 (R263). -/
theorem answers_raisePlain (hrep : (olk s.m.hw c).rep = none) (hf : f s.m = raisePlain c cause s.m) :
    Answers i s (fun t => sameMem s t ∧ (∀ k, k ≠ c → olk t.m.hw k = olk s.m.hw k) ∧
      ((olk s.m.hw c).exl = false → olk t.m.hw c = withResv none (entered (olk s.m.hw c) cause (olk s.m.hw c).pc
        (Config.openWord s.m.hw.freeCnt) (BitVec.ofNat 32 cause))) ∧
      ((olk s.m.hw c).exl = true → olk t.m.hw c = { olk s.m.hw c with phase := .halted })) := by
  have hpc : faultPc (olk s.m.hw c) = (olk s.m.hw c).pc := by rw [faultPc, hrep]
  rw [raisePlain, raiseAt, hpc] at hf
  cases hexl : (olk s.m.hw c).exl with
  | false =>
    rw [hexl, if_neg Bool.false_ne_true] at hf
    obtain ⟨t, ht, hmem, hothers, hown⟩ := answers_enterSup hx ha e hf
    exact ⟨t, ht, hmem, hothers, fun _ => hown, fun hno => absurd hno Bool.false_ne_true⟩
  | true =>
    rw [hexl, if_pos rfl] at hf
    refine answers_run hx ha hf rfl ⟨fun _ => rfl, fun k hk => olk_setOlk_ne _ hk, fun hno => absurd hno.symm Bool.false_ne_true, fun _ => ?_⟩
    exact olk_setOlk_same fun _ => e.watched

end

end Sys2Proof.Machine

/-! ## From the fetch of an instruction to its operands (R231 … R261) -/

namespace Sys2Proof.Machine

/-- Every parcel of the instruction may be fetched, from memory that is open (R231, R482). -/
def fetched (h : Hw) (i : CoreInstr) : Bool :=
  (List.range (instrLen i / 2)).all fun k =>
    let a := ((olk h i.core.val).pc.toNat + 2 * k) % 4294967296
    (fetchFault h i.core.val a).isNone && fetchOpen h i a

section
variable {i : CoreInstr} {m : Mach} (hl : iniLive m.hw (.core i.core) = true) (hf : fetched m.hw i = true)
  (hrep : (olk m.hw i.core.val).rep = none)
include hl hf hrep

/-- What an instruction does that is fetched and stands in no repeat. -/
theorem coreStep_fetched : coreStep i m =
    if isIllegal i (olk m.hw i.core.val).sup || i.hd.rpt then raisePlain i.core.val 1 m
    else if isPriv i.op && !(olk m.hw i.core.val).sup then raisePlain i.core.val 2 m
    else if condHolds (olk m.hw i.core.val).flags i.hd.cond.val then coreBody i (winBase i.core.val (olk m.hw i.core.val)) (instrLen i) m
    else if i.op = .rep ∨ i.op = .repi then
      coreEnd i.core.val (((olk m.hw i.core.val).pc.toNat + instrLen i) % 4294967296) (m.onHw fun h => setOlk h i.core.val
        { olk m.hw i.core.val with rep := some ⟨decide (i.op = .repi), (olk m.hw i.core.val).pc, 0, 0, true⟩ })
    else coreNext i.core.val (winBase i.core.val (olk m.hw i.core.val)) (instrLen i) m := by
  simp only [fetched, List.all_eq_true, Bool.and_eq_true, Option.isNone_iff_eq_none] at hf
  have hfind : ((List.range (instrLen i / 2)).map fun k => ((olk m.hw i.core.val).pc.toNat + 2 * k) % 4294967296).find?
      (fun a => (fetchFault m.hw i.core.val a).isSome) = none := by
    simp only [List.find?_eq_none, List.mem_map]
    rintro _ ⟨k, hk, rfl⟩
    rw [(hf k hk).1]
    exact Bool.false_ne_true
  have hopen : (((List.range (instrLen i / 2)).map fun k => ((olk m.hw i.core.val).pc.toNat + 2 * k) % 4294967296).all
      (fetchOpen m.hw i)) = true := by
    simp only [List.all_eq_true, List.mem_map]
    rintro _ ⟨k, hk, rfl⟩
    exact (hf k hk).2
  simp only [coreStep, hl, hfind, hopen, hrep, rptBad, Bool.not_true, Bool.false_eq_true, if_false]

end

/-- The parts of `coreReady`. -/
structure Ready (s : State) (i : CoreInstr) : Prop where
  alive : s.alive = true
  live : iniLive s.m.hw (.core i.core) = true
  rep : (olk s.m.hw i.core.val).rep = none
  late : (olk s.m.hw i.core.val).late = []
  lateP : (olk s.m.hw i.core.val).lateP = []
  fetched : fetched s.m.hw i = true
  legal : isIllegal i (olk s.m.hw i.core.val).sup = false
  rpt : i.hd.rpt = false
  mode : (isPriv i.op && !(olk s.m.hw i.core.val).sup) = false
  cond : condHolds (olk s.m.hw i.core.val).flags i.hd.cond.val = true

theorem ready_of_coreReady {s : State} {i : CoreInstr} (h : coreReady s i = true) : Ready s i := by
  simp only [coreReady, Bool.and_eq_true, Bool.or_eq_true, Bool.not_eq_true', decide_eq_true_eq] at h
  obtain ⟨⟨⟨⟨⟨⟨⟨ha, hl⟩, hrep, hlate, hlateP⟩, hf⟩, hleg⟩, hrpt⟩, hmode⟩, hcond⟩ := h
  refine ⟨ha, hl, hrep, hlate, hlateP, hf, hleg, hrpt, ?_, hcond⟩
  rcases hmode with h | h
  · rw [h, Bool.false_and]
  · rw [h, Bool.not_true, Bool.and_false]

theorem opSizes_le {o : Op} {n : Nat} (h : n ∈ opSizes o) : n ≤ 4 := by
  revert n
  cases o <;> decide

section
variable {s : State} {i : CoreInstr} (e : Ready s i)
include e

theorem Ready.settled : Settled s.m.hw i.core.val := ⟨phase_run_of_iniLive e.live, e.late, e.lateP⟩

theorem coreStep_ready : coreStep i s.m = coreBody i (coreWin s i) (instrLen i) s.m := by
  rw [coreStep_fetched e.live e.fetched e.rep, e.legal, e.rpt, e.mode, e.cond]
  rfl

/-- A legal instruction has a SIZE code of at most 4 (R266). -/
theorem Ready.size_le : i.hd.size.val ≤ 4 := by
  have hleg := e.legal
  simp only [isIllegal, Bool.or_eq_false_iff, Bool.not_eq_false', List.contains_iff_mem] at hleg
  obtain ⟨⟨⟨⟨hsize, -⟩, -⟩, -⟩, -⟩ := hleg
  exact opSizes_le hsize

end

/-! ### The accesses of the operands -/

theorem specSize_dvd (o : Op) {size : Nat} (k : Nat) (hs : size ≤ 4) : specSize o size k ∣ 16 := by
  have hp : 2 ^ size ∣ 2 ^ 4 := Nat.pow_dvd_pow 2 hs
  unfold specSize
  split
  · exact dvd_rfl
  · split
    · exact dvd_rfl
    · exact dvd_rfl
    · exact dvd_rfl
    · exact hp

/-- The width of an operand in memory is that of one of the instruction's specifiers (R233). -/
theorem width_of_mem_acsFrom {i : CoreInstr} {m : Mem} {win k : Nat} {l : List Spec} {x : Acs} (hx : x ∈ acsFrom i m win k l) :
    ∃ j, x.n = specSize i.op i.hd.size.val j := by
  induction l generalizing k with
  | nil => simp [acsFrom] at hx
  | cons p l ih =>
    rw [acsFrom] at hx
    rcases List.mem_append.1 hx with hx | hx
    · refine ⟨k, ?_⟩
      split at hx
      · simp at hx
      · split at hx
        · simp only [List.mem_cons, List.not_mem_nil, or_false] at hx
          rcases hx with rfl | rfl <;> rfl
        · rw [List.mem_singleton.1 hx]
        · simp at hx
        · rw [List.mem_singleton.1 hx]
    · exact ih hx

/-- A source operand in memory is an access of the instruction. -/
theorem source_mem_acsFrom {i : CoreInstr} {m : Mem} {win k a : Nat} {p : Spec} (l : List Spec) (ho : i.op ≠ .repi)
    (hk : ¬ (k = 0 ∧ (hasDst i.op = true ∨ i.op = .sc))) (ha : opAddr m win (specSize i.op i.hd.size.val k) p = some a) :
    ∃ x ∈ acsFrom i m win k (p :: l), x.a = a ∧ x.n = specSize i.op i.hd.size.val k ∧ x.wr = false := by
  have hwr : (decide (k = 0) && hasDst i.op) = false := by
    rw [← Bool.not_eq_true, Bool.and_eq_true, decide_eq_true_eq]
    exact fun h => hk ⟨h.1, .inl h.2⟩
  rw [acsFrom]
  simp only [ha]
  split
  case h_1 => exact ⟨_, List.mem_append_left _ List.mem_cons_self, rfl, rfl, rfl⟩
  case h_2 hop => exact absurd ⟨rfl, .inr hop⟩ hk
  case h_3 hop => exact absurd hop ho
  case h_4 => exact ⟨_, List.mem_append_left _ (List.mem_singleton_self _), rfl, rfl, hwr⟩

/-- The accesses of a list that lie in memory and whose way is open. -/
def allOpen (h : Hw) (ini : Initiator) (l : List Acs) : Prop := ∀ x ∈ l, MemOpen h ini x.a x.n x.wr

/-- Sources in open memory or immediate are read as the memory holds them, and their reading changes nothing. -/
theorem readSources_open {i : CoreInstr} {ini : Initiator} {m : Mach} {win k : Nat} {l : List Spec} (ho : i.op ≠ .repi)
    (hl : allOpen m.hw ini (acsFrom i m.mem win k l)) : readSources i ini m.mem win k l m = (sourceVals i m.mem win k l, m) := by
  induction l generalizing k with
  | nil => rfl
  | cons p l ih =>
    have hrest := ih fun x hx => hl x (by rw [acsFrom]; exact List.mem_append_right _ hx)
    have hskip : ((decide (k = 0) && hasDst i.op) || (decide (i.op = .sc) && decide (k = 0))) =
        decide (k = 0 ∧ (hasDst i.op = true ∨ i.op = .sc)) := by
      rw [Bool.eq_iff_iff]
      simp only [Bool.or_eq_true, Bool.and_eq_true, decide_eq_true_eq]
      tauto
    by_cases hk : k = 0 ∧ (hasDst i.op = true ∨ i.op = .sc)
    · rw [readSources, sourceVals, hskip, if_pos hk, if_pos (decide_eq_true hk), hrest]
    · rw [readSources, sourceVals, hskip, if_neg hk, if_neg (by simpa using hk)]
      cases himm : immRule i.op k with
      | some n => simp only [hrest]
      | none =>
        cases ha : opAddr m.mem win (specSize i.op i.hd.size.val k) p with
        | none => simp only [ha, hrest]
        | some a =>
          obtain ⟨x, hx, hxa, hxn, hwr⟩ := source_mem_acsFrom l ho hk ha
          have hopen := hl x hx
          rw [hxa, hxn, hwr] at hopen
          have hread := busRead_memory hopen
          simp only [ha, hread, hrest]

end Sys2Proof.Machine

/-! ## Instructions that only compute: from the operands to the result (R228, R244, R268 … R272) -/

namespace Sys2Proof.Machine

/-! ### Operands that neither fault nor wait -/

theorem busKind_of_acsFault {h : Hw} {c : Nat} {atomic : Bool} {x : Acs} (hx : acsFault h c atomic x = none) : busKind x.a x.n x.wr = none := by
  cases hk : busKind x.a x.n x.wr with
  | none => rfl
  | some kd =>
    unfold acsFault at hx
    rw [hk] at hx
    split_ifs at hx

theorem busKind_of_acsFaults {i : CoreInstr} {h : Hw} {c : Nat} {l : List Acs} (hl : (acsFaults i h c l).isEmpty = true) :
    ∀ x ∈ l, busKind x.a x.n x.wr = none := fun x hx =>
  busKind_of_acsFault (List.filterMap_eq_nil_iff.1 (List.isEmpty_iff.1 hl) x hx)

theorem aligned_of_busKind {a n : Nat} {wr : Bool} (h : busKind a n wr = none) : a % n = 0 := by
  by_contra hne
  unfold busKind at h
  dsimp only at h
  split_ifs at h

theorem isNear_iff {c a : Nat} : isNear c a = true ↔ 0x10000000 + c * 0x40000 ≤ a ∧ a < 0x10000000 + c * 0x40000 + 0x40000 := by
  rw [isNear, decide_eq_true_eq, nearBase]

/-- An aligned access that begins in near memory lies in it: near memory ends at a multiple of 16 bytes. -/
theorem splitWords_near {c a n : Nat} (ha : isNear c a = true) (hn : n ∣ 16) (hal : a % n = 0) : ∀ b ∈ splitWords a n, isNear c b = true := by
  intro b hb
  unfold splitWords at hb
  split at hb
  · rwa [List.mem_singleton.1 hb]
  · obtain ⟨k, hk, rfl⟩ := List.mem_map.1 hb
    have hk := List.mem_range.1 hk
    have hle := Nat.le_of_dvd (by decide) hn
    rw [isNear_iff] at ha ⊢
    have h8 : n = 8 ∨ n = 16 := by
      obtain ⟨d, hd⟩ := hn
      have hd4 : d < 4 := by
        by_contra hge
        nlinarith
      interval_cases d <;> omega
    rcases h8 with rfl | rfl <;> omega

/-- An operand in near memory that ends in no bus error needs no other domain (R228, R482). -/
theorem memOpen_near {h : Hw} {core : Fin 12} {a n : Nat} {wr : Bool} (ha : isNear core.val a = true) (hn : n ∣ 16)
    (hk : busKind a n wr = none) : MemOpen h (.core core) a n wr where
  memory := by
    have := core.isLt
    rw [isNear_iff] at ha
    omega
  noError := hk
  way := List.all_eq_true.2 fun b hb => by
    have hnear := splitWords_near ha hn (aligned_of_busKind hk) b hb
    rw [accessOpen, ownNear, hnear, Bool.true_or]

section
variable {s : State} {i : CoreInstr}

theorem coreAcs_width (e : Ready s i) : ∀ x ∈ coreAcs s i, x.n ∣ 16 := by
  intro x hx
  obtain ⟨j, hj⟩ := width_of_mem_acsFrom hx
  exact hj ▸ specSize_dvd _ j e.size_le

theorem nearOps_iff : nearOps s i = true ↔ (acsFaults i s.m.hw i.core.val (coreAcs s i)).isEmpty = true ∧
    ∀ x ∈ coreAcs s i, isNear i.core.val x.a = true := by
  rw [nearOps, Bool.and_eq_true, List.all_eq_true]

theorem nearOps_open (e : Ready s i) (h : nearOps s i = true) (hw : Hw) : allOpen hw (.core i.core) (coreAcs s i) := by
  obtain ⟨hf, hnear⟩ := nearOps_iff.1 h
  exact fun x hx => memOpen_near (hnear x hx) (coreAcs_width e x hx) (busKind_of_acsFaults hf x hx)

theorem farOps_iff : farOps s i = true ↔ (acsFaults i s.m.hw i.core.val (coreAcs s i)).isEmpty = true ∧
    dstNear i.core.val (dstOf i.op (coreAcs s i)) = true ∧
    ∀ x ∈ coreAcs s i, x.a < 0x40000000 ∧ acsOpen s.m.hw (.core i.core) x = true := by
  simp only [farOps, Bool.and_eq_true, List.all_eq_true, decide_eq_true_eq, and_assoc]

theorem farOps_open (h : farOps s i = true) : allOpen s.m.hw (.core i.core) (coreAcs s i) := by
  obtain ⟨hf, -, hall⟩ := farOps_iff.1 h
  intro x hx
  obtain ⟨hlt, hopen⟩ := hall x hx
  refine ⟨hlt, busKind_of_acsFaults hf x hx, ?_⟩
  have hpage : pwrAhead s.m.hw (.core i.core) x.a x.n = false := by
    have : ¬ (x.n = 8 ∧ 0x40000000 ≤ x.a) := by omega
    simp [pwrAhead, this]
  rwa [acsOpen, hpage, Bool.and_false, Bool.or_false] at hopen

end

/-! ### The opcodes that only compute -/

/-- The opcode only computes: it changes neither the flow nor the mode, and neither uses a reservation nor searches. -/
def computes (o : Op) : Bool := !(controlling.map Prod.fst).contains o

theorem computes_of_mem : ∀ e ∈ computing, computes e.1 = true := by decide

theorem exec_core : ∀ e ∈ computing ++ controlling, ∀ (core : Fin 12) (hd : Head) (specs : List Spec) (s : State),
    exec (e.2 core hd specs) s = .next (s.run (coreStep ⟨core, e.1, hd, specs⟩)) := by
  intro e he
  fin_cases he <;> exact fun _ _ _ _ => rfl

theorem computes_ne {o : Op} (h : computes o = true) : isAtomic o = false ∧ o ≠ .probe ∧ o ≠ .repi := by
  revert h
  cases o <;> decide

theorem coreSpecial_none {i : CoreInstr} (win len : Nat) (xs : List Nat) (m : Mach) (h : computes i.op = true) :
    coreSpecial i win len xs m = none := by
  unfold coreSpecial
  dsimp only
  split
  case h_7 => rfl
  all_goals
    rename_i hop
    rw [hop] at h
    exact absurd h (by decide)

theorem ofDiv_target (b : Nat) (a : AluOut) : (ofDiv b a).target = none := by
  unfold ofDiv
  split <;> rfl

theorem ofDiv_val {b : Nat} {a : AluOut} (ha : a.val.isSome = true) (hf : (ofDiv b a).fault = false) : (ofDiv b a).val.isSome = true := by
  unfold ofDiv at hf ⊢
  split
  case isTrue hb => rw [if_pos hb] at hf; exact absurd hf (by decide)
  case isFalse => exact ha

theorem opEff_target {i : CoreInstr} (r : Olk) (c len rel frame : Nat) (xs : List Nat) (h : computes i.op = true) :
    (opEff i r c len rel frame xs).target = none := by
  obtain ⟨core, o, head, specs⟩ := i
  cases o
  case br | jmp | call => exact absurd h Bool.false_ne_true
  case divu | divs | remu | rems => exact ofDiv_target ..
  all_goals rfl

/-- An instruction with a destination that computes without a fault has a value for it. -/
theorem opEff_val {i : CoreInstr} {r : Olk} {c len rel frame : Nat} {xs : List Nat} (h : computes i.op = true) (hd : hasDst i.op = true)
    (hf : (opEff i r c len rel frame xs).fault = false) : (opEff i r c len rel frame xs).val.isSome = true := by
  obtain ⟨core, o, head, specs⟩ := i
  cases o
  case divu | divs | remu | rems => exact ofDiv_val rfl hf
  case tas | lr | probe => exact absurd h Bool.false_ne_true
  case nop | trap | eret | done | cwr | rep | repi | br | jmp | cmp | tst | mulu | muls | macu | macs | vmulu | vmuls | vmacu | vmacs | sc =>
    exact absurd hd Bool.false_ne_true
  all_goals rfl

/-! ### The instruction -/

/-- The machine once the instruction's pointer words have changed (R243, R244). -/
def ptrsDone (s : State) (i : CoreInstr) : Mach := applyPtrs (coreWin s i) (ptrList i 0 i.specs) s.m

/-- The machine once its result is written as well, or waits (R245, R269), and its product is issued. -/
def coreResult (s : State) (i : CoreInstr) : Mach :=
  issueProd i.core.val (coreEff s i).prod (writeResult i.core.val (farSourced i.core.val i (coreAcs s i)) (dstOf i.op (coreAcs s i))
    (coreEff s i) (ptrsDone s i))

theorem acsOpen_of_memOpen {h : Hw} {ini : Initiator} {x : Acs} (e : MemOpen h ini x.a x.n x.wr) : acsOpen h ini x = true := by
  rw [acsOpen, e.way, Bool.true_or]

section
variable {s : State} {i : CoreInstr} (ho : computes i.op = true) (hf : (acsFaults i s.m.hw i.core.val (coreAcs s i)).isEmpty = true)
  (hopen : allOpen s.m.hw (.core i.core) (coreAcs s i))
include ho hf hopen

/-- An instruction that is ready to run, whose operands neither fault nor wait, goes on to its effect. -/
theorem coreBody_open : coreBody i (coreWin s i) (instrLen i) s.m = coreEffect i (coreWin s i) (instrLen i) (coreAcs s i)
    (sourceVals i s.m.mem (coreWin s i) 0 i.specs) s.m := by
  obtain ⟨-, -, hrepi⟩ := computes_ne ho
  have hread : readSources i (.core i.core) s.m.mem (coreWin s i) 0 i.specs s.m = (sourceVals i s.m.mem (coreWin s i) 0 i.specs, s.m) :=
    readSources_open hrepi hopen
  have hall : (coreAcs s i).all (acsOpen s.m.hw (.core i.core)) = true := List.all_eq_true.2 fun x hx => acsOpen_of_memOpen (hopen x hx)
  rw [coreBody]
  dsimp only
  rw [← coreAcs, List.isEmpty_iff.1 hf, hread]
  simp [hall]

theorem coreStep_computes (e : Ready s i) : coreStep i s.m = if (coreEff s i).fault then raisePlain i.core.val 5 s.m
    else coreNext i.core.val (coreWin s i) (instrLen i) (coreResult s i) := by
  obtain ⟨hatomic, hprobe, -⟩ := computes_ne ho
  rw [coreStep_ready e, coreBody_open ho hf hopen, coreEffect]
  dsimp only
  rw [coreSpecial_none _ _ _ _ ho, hatomic, if_neg Bool.false_ne_true, if_neg hprobe, opEff_target _ _ _ _ _ _ ho]
  rfl

end

end Sys2Proof.Machine

/-! ## Where an instruction traps (R236, R259 … R264, R272) -/

namespace Sys2Proof.Machine

section
variable {i : CoreInstr} {m : Mach} (hl : iniLive m.hw (.core i.core) = true) (hf : fetched m.hw i = true)
  (hrep : (olk m.hw i.core.val).rep = none)
include hl hf hrep

theorem coreStep_illegal (h : isIllegal i (olk m.hw i.core.val).sup = true) : coreStep i m = raisePlain i.core.val 1 m := by
  rw [coreStep_fetched hl hf hrep, h]
  rfl

theorem coreStep_privileged (h : isIllegal i (olk m.hw i.core.val).sup = false) (hrpt : i.hd.rpt = false) (hpriv : isPriv i.op = true)
    (htask : (olk m.hw i.core.val).sup = false) : coreStep i m = raisePlain i.core.val 2 m := by
  rw [coreStep_fetched hl hf hrep, h, hrpt, hpriv, htask]
  rfl

end

theorem coreStep_fault {s : State} {i : CoreInstr} (ho : computes i.op = true) (hr : coreReady s i = true) (hn : nearOps s i = true)
    (hfault : (coreEff s i).fault = true) : coreStep i s.m = raisePlain i.core.val 5 s.m := by
  have e := ready_of_coreReady hr
  rw [coreStep_computes ho (nearOps_iff.1 hn).1 (nearOps_open e hn _) e, if_pos hfault]

theorem coreIllegal_fetched {c : Fin 12} {m : Mach} (hl : iniLive m.hw (.core c) = true)
    (hf : fetchFault m.hw c.val (olk m.hw c.val).pc.toNat = none) : coreIllegal c m = raisePlain c.val 1 m := by
  rw [coreIllegal, if_pos hl, hf]

theorem coreInterrupt_taken {c : Fin 12} {m : Mach} (hl : iniLive m.hw (.core c) = true) (hrep : (olk m.hw c.val).rep = none)
    (hie : (olk m.hw c.val).ie = true) (hexl : (olk m.hw c.val).exl = false) (hirq : coreIrq m.hw c.val = true) :
    coreInterrupt c m = enterSup c.val 0x10 0 false (olk m.hw c.val).pc none m := by
  have hrun := phase_run_of_iniLive hl
  simp [coreInterrupt, hl, hrep, hie, hexl, hirq, hrun, faultPc]

/-- Settles O28: each trap is `raisePlain` of its cause, which enters or halts (`answers_raisePlain`); the interrupt is the entry itself. -/
theorem coreExceptionEntries : Obligations.CoreExceptionEntries := by
  refine ⟨?traps, ?entries⟩
  case traps =>
    intro e he core hd specs s hal hl i r hrep hlate hlateP hfetch trap
    have hx := exec_core e he core hd specs s
    have hset : Settled s.m.hw core.val := ⟨phase_run_of_iniLive hl, hlate, hlateP⟩
    have htrap (cause : Nat) (hc : coreStep i s.m = raisePlain core.val cause s.m) : trap cause := answers_raisePlain hx hal hset hrep hc
    exact ⟨fun hill => htrap 1 (coreStep_illegal hl hfetch hrep hill),
      fun hleg hrpt hpriv htask => htrap 2 (coreStep_privileged hl hfetch hrep hleg hrpt hpriv htask),
      fun hc hready hnear hfault => htrap 5 (coreStep_fault (computes_of_mem e hc) hready hnear hfault)⟩
  case entries =>
    intro c s hal r hlate hlateP hrep hexl hl
    have hset : Settled s.m.hw c.val := ⟨phase_run_of_iniLive hl, hlate, hlateP⟩
    refine ⟨fun hfetch => ?illegal, fun hie hirq => ?interrupt⟩
    case illegal =>
      obtain ⟨t, ht, hmem, -, hown, -⟩ := answers_raisePlain (i := .illegalInstruction c) rfl hal hset hrep (coreIllegal_fetched hl hfetch)
      exact ⟨t, ht, hmem, hown hexl⟩
    case interrupt =>
      obtain ⟨t, ht, hmem, -, hown⟩ := answers_enterSup (i := .coreInterrupt c) rfl hal hset (coreInterrupt_taken hl hrep hie hexl hirq)
      exact ⟨t, ht, hmem, hown⟩

end Sys2Proof.Machine

/-! ## What an instruction that only computes leaves (R228, R244, R245, R247, R251, R268, R269) -/

namespace Sys2Proof.Machine

theorem ofNat_core (core : Fin 12) : Fin.ofNat 12 core.val = core := Fin.ext (Nat.mod_eq_of_lt core.isLt)

/-- The record of a core that goes on at `next`. -/
def withPc (next : Nat) (r : Olk) : Olk := { r with pc := BitVec.ofNat 32 next }

/-- The record with the flags of an effect, where it sets any. -/
def withFlags (f : Option Flags) (r : Olk) : Olk := { r with flags := f.getD r.flags }

/-- A product issued, to land after this instruction and three more (R251). -/
def withProd (p : Option (Nat × Nat)) (r : Olk) : Olk :=
  { r with lateP := r.lateP ++ p.toList.map fun q => ⟨4, q.1, BitVec.ofNat 256 q.2⟩ }

/-- The record with one more late result that waits. -/
def withLate (l : Late) (r : Olk) : Olk := { r with late := r.late ++ [l] }

/-- The late result of an instruction with destination `dst` and effect `e`, to land after this instruction and two more (R245, R269). -/
def lateResult (c : Nat) (dst : Option Acs) (e : Eff) : Late :=
  ⟨3, (lateDst c dst e).1, (lateDst c dst e).2, e.val.getD 0 % 2 ^ (8 * (lateDst c dst e).2), e.flags⟩

namespace CoreMoved

section
variable {c : Nat} {r : Olk} {h : Hw} {m : Mach} (e : CoreMoved c r h m.hw)
include e

theorem writeDst {core : Fin 12} {far : Bool} {dst : Option Acs} {f : Eff} (hd : ∀ x, dst = some x → MemOpen m.hw (.core core) x.a x.n true) :
    CoreMoved c r h (writeDst core.val far dst f m).hw := by
  unfold Machine.writeDst
  split
  · split
    · exact e
    · simp only [ofNat_core, busWrite_memory (hd _ rfl)]
      exact e.store ..
  · exact e

theorem issueProd (hw : watched r = true) (p : Option (Nat × Nat)) : CoreMoved c (withProd p r) h (issueProd c p m).hw := by
  cases p with
  | none =>
    have hr : withProd none r = r := by rw [withProd, Option.toList_none, List.map_nil, List.append_nil]
    rw [hr]
    exact e
  | some p => exact e.update hw (f := withProd (some p)) fun _ _ => rfl

/-- The end of an instruction outside a repeat at which nothing lands: it goes on behind itself. -/
theorem coreNext {win len : Nat} (hw : watched r = true) (hrep : r.rep = none) (hl : ∀ x ∈ r.late, 1 < x.left)
    (hp : ∀ x ∈ r.lateP, 1 < x.left) :
    (coreNext c win len m).mem = m.mem ∧
      CoreMoved c (endLate (withPc ((r.pc.toNat + len) % 4294967296) r)) h (coreNext c win len m).hw := by
  have hnext : Machine.coreNext c win len m =
      endInstr c (m.onHw fun h => setOlk h c (withPc ((r.pc.toNat + len) % 4294967296) (olk h c))) := by
    rw [Machine.coreNext, e.olk_eq]
    simp only [withResv, hrep]
    rfl
  have e1 := e.update hw (f := withPc ((r.pc.toNat + len) % 4294967296)) fun _ _ => rfl
  have hend := endInstr_lands_none (c := c) (m := m.onHw fun h => setOlk h c (withPc ((r.pc.toNat + len) % 4294967296) (olk h c)))
    (by rw [Mach.onHw_hw, e1.olk_eq]; exact hl) (by rw [Mach.onHw_hw, e1.olk_eq]; exact hp)
  rw [hnext, hend, Mach.onHw_mem, Mach.onHw_mem, Mach.onHw_hw, Mach.onHw_hw]
  exact ⟨rfl, e1.update hw (f := endLate) fun _ _ => rfl⟩

end

end CoreMoved

/-- The result of an instruction whose sources are near: its destination, then its flags. -/
theorem writeResult_near {c : Nat} {r : Olk} {h : Hw} {m : Mach} {dst : Option Acs} {f : Eff} (hw : watched r = true)
    (e : CoreMoved c r h (writeDst c false dst f m).hw) : (writeResult c false dst f m).mem = (writeDst c false dst f m).mem ∧
      CoreMoved c (withFlags f.flags r) h (writeResult c false dst f m).hw := by
  unfold writeResult
  dsimp only
  rw [if_neg Bool.false_ne_true]
  cases f.flags with
  | none => exact ⟨rfl, e⟩
  | some g => exact ⟨rfl, e.update hw (f := withFlags (some g)) fun _ _ => rfl⟩

/-- The result of an instruction with a far source and a near destination waits, where there is any. -/
theorem writeResult_far {c : Nat} {r : Olk} {h : Hw} {m : Mach} {dst : Option Acs} {f : Eff} (hw : watched r = true) (e : CoreMoved c r h m.hw)
    (hn : dstNear c dst = true) (hany : ¬ ((lateDst c dst f).2 = 0 ∧ f.flags = none)) :
    (writeResult c true dst f m).mem = m.mem ∧ CoreMoved c (withLate (lateResult c dst f) r) h (writeResult c true dst f m).hw := by
  have hdst : writeDst c true dst f m = m := by
    unfold writeDst
    split
    · rw [hn]
      rfl
    · rfl
  unfold writeResult
  dsimp only
  rw [hdst, if_pos rfl, if_neg hany]
  exact ⟨rfl, e.update hw (f := withLate (lateResult c dst f)) fun _ _ => rfl⟩

section
variable {s : State} {i : CoreInstr}

theorem dstOf_some {x : Acs} (h : dstOf i.op (coreAcs s i) = some x) : hasDst i.op = true ∧ x ∈ coreAcs s i ∧ x.wr = true := by
  unfold dstOf at h
  split_ifs at h with hd
  have hx := List.find?_some h
  rw [Bool.and_eq_true] at hx
  exact ⟨hd, List.mem_of_find?_eq_some h, hx.1⟩

theorem dst_open {hw : Hw} {ini : Initiator} (h : allOpen hw ini (coreAcs s i)) :
    ∀ x, dstOf i.op (coreAcs s i) = some x → MemOpen hw ini x.a x.n true := by
  intro x hx
  obtain ⟨-, hmem, hwr⟩ := dstOf_some hx
  exact hwr ▸ h x hmem

/-- The destination of an instruction with near sources, written. -/
theorem mem_writeDst (f : Eff) (hd : ∀ x, dstOf i.op (coreAcs s i) = some x → MemOpen (ptrsDone s i).hw (.core i.core) x.a x.n true) :
    (writeDst i.core.val false (dstOf i.op (coreAcs s i)) f (ptrsDone s i)).mem = memDst s i f.val := by
  unfold writeDst memDst
  cases hx : dstOf i.op (coreAcs s i) with
  | none => rfl
  | some x =>
    cases hv : f.val with
    | none => rfl
    | some v =>
      simp only [ofNat_core, busWrite_memory (hd x hx), Bool.false_and, Bool.false_eq_true, if_false, store_mem]
      rfl

end

end Sys2Proof.Machine

/-! ## The instructions that only compute, with near and with far sources (R228, R244, R245, R269) -/

namespace Sys2Proof.Machine

theorem mem_issueProd (c : Nat) (p : Option (Nat × Nat)) (m : Mach) : (issueProd c p m).mem = m.mem := by
  cases p <;> rfl

theorem answers_coreMoved {i : Instr} {s : State} {f : Mach → Mach} {m : Mach} {c : Nat} {r : Olk} (hx : exec i s = .next (s.run f))
    (ha : s.alive = true) (hf : f s.m = m) (e : CoreMoved c r s.m.hw m.hw) : Answers i s (fun t => t.m.mem = m.mem ∧ coreAfter s t c r) :=
  answers_run hx ha hf (by rw [e.blocks]) ⟨rfl, e.coreAfter rfl⟩

section
variable {s : State} {i : CoreInstr}

theorem farSourced_near (ho : computes i.op = true) (hn : nearOps s i = true) : farSourced i.core.val i (coreAcs s i) = false := by
  obtain ⟨hatomic, -⟩ := computes_ne ho
  obtain ⟨-, hnear⟩ := nearOps_iff.1 hn
  have hany : (coreAcs s i).any (fun x => !x.wr && !isNear i.core.val x.a) = false :=
    List.any_eq_false.2 fun x hx => by rw [hnear x hx, Bool.not_true, Bool.and_false]; exact Bool.false_ne_true
  rw [farSourced, hatomic, hany, Bool.and_false, Bool.or_false]

theorem farSourced_far (hfrn : i.op ≠ .frn) (hfar : (coreAcs s i).any (fun x => !x.wr && !isNear i.core.val x.a) = true) :
    farSourced i.core.val i (coreAcs s i) = true := by
  rw [farSourced, hfar, decide_eq_true hfrn, Bool.and_true, Bool.or_true]

theorem ptrsDone_moved : CoreMoved i.core.val (olk s.m.hw i.core.val) s.m.hw (ptrsDone s i).hw := (CoreMoved.refl _ _).applyPtrs

/-- The result of an instruction with near sources is there at once; its product is issued (R228, R251, R268). -/
theorem coreResult_near (e : Ready s i) (ho : computes i.op = true) (hn : nearOps s i = true) :
    (coreResult s i).mem = memDst s i (coreEff s i).val ∧ CoreMoved i.core.val
      (withProd (coreEff s i).prod (withFlags (coreEff s i).flags (olk s.m.hw i.core.val))) s.m.hw (coreResult s i).hw := by
  have hopen := dst_open (nearOps_open e hn (ptrsDone s i).hw)
  have hdst := (ptrsDone_moved (s := s) (i := i)).writeDst (far := false) (f := coreEff s i) hopen
  obtain ⟨hmem, hres⟩ := writeResult_near e.settled.watched hdst
  rw [coreResult, farSourced_near ho hn]
  exact ⟨(mem_issueProd ..).trans (hmem.trans (mem_writeDst _ hopen)), hres.issueProd e.settled.watched _⟩

/-- The result of an instruction with a far source and a near destination waits (R245, R269). -/
theorem coreResult_far (e : Ready s i) (hd : dstNear i.core.val (dstOf i.op (coreAcs s i)) = true) (hprod : (coreEff s i).prod = none)
    (hfar : farSourced i.core.val i (coreAcs s i) = true)
    (hany : ¬ ((lateDst i.core.val (dstOf i.op (coreAcs s i)) (coreEff s i)).2 = 0 ∧ (coreEff s i).flags = none)) :
    (coreResult s i).mem = memPtrs s i ∧ CoreMoved i.core.val
      (withLate (lateResult i.core.val (dstOf i.op (coreAcs s i)) (coreEff s i)) (olk s.m.hw i.core.val)) s.m.hw (coreResult s i).hw := by
  rw [coreResult, hfar, hprod]
  exact writeResult_far e.settled.watched ptrsDone_moved hd hany

/-- Of an instruction that computes, whose destination is near, something waits where it has a destination or flags. -/
theorem lateDst_waits (e : Ready s i) (ho : computes i.op = true) (hd : dstNear i.core.val (dstOf i.op (coreAcs s i)) = true)
    (hf : (coreEff s i).fault = false) (hsome : (dstOf i.op (coreAcs s i)).isSome = true ∨ (coreEff s i).flags.isSome = true) :
    ¬ ((lateDst i.core.val (dstOf i.op (coreAcs s i)) (coreEff s i)).2 = 0 ∧ (coreEff s i).flags = none) := by
  rintro ⟨hsize, hflags⟩
  rw [hflags] at hsome
  obtain ⟨x, hx⟩ := Option.isSome_iff_exists.1 (hsome.resolve_right Bool.false_ne_true)
  obtain ⟨hdst, hmem, -⟩ := dstOf_some hx
  obtain ⟨v, hv⟩ := Option.isSome_iff_exists.1 (opEff_val ho hdst hf)
  have hv : (coreEff s i).val = some v := hv
  have hn : x.n = 0 := by
    rw [hx] at hd hsize
    simpa [lateDst, hv, hd] using hsize
  have := coreAcs_width e x hmem
  rw [hn] at this
  exact absurd this (by decide)

end

/-- The record after an instruction with near sources. -/
theorem endLate_near {r : Olk} (hl : r.late = []) (hp : r.lateP = []) (next : Nat) (p : Option (Nat × Nat)) (f : Option Flags) :
    endLate (withPc next (withProd p (withFlags f r))) = { r with
      pc := BitVec.ofNat 32 next, flags := f.getD r.flags
      lateP := p.toList.map fun q => ⟨3, q.1, BitVec.ofNat 256 q.2⟩ } := by
  cases r
  cases hl
  cases hp
  cases p <;> rfl

/-- The record after an instruction with a far source. -/
theorem endLate_far {r : Olk} (hl : r.late = []) (hp : r.lateP = []) (next : Nat) (l : Late) :
    endLate (withPc next (withLate l r)) = { r with pc := BitVec.ofNat 32 next, late := [{ l with left := l.left - 1 }] } := by
  cases r
  cases hl
  cases hp
  rfl

theorem withProd_lateP_left {r : Olk} (hp : r.lateP = []) (p : Option (Nat × Nat)) (f : Option Flags) :
    ∀ x ∈ (withProd p (withFlags f r)).lateP, 1 < x.left := by
  intro x hx
  simp only [withProd, withFlags, hp, List.nil_append, List.mem_map] at hx
  obtain ⟨q, -, rfl⟩ := hx
  exact Nat.one_lt_succ_succ 2

theorem withLate_late_left {r : Olk} {l : Late} (hr : r.late = []) (hl : 1 < l.left) : ∀ x ∈ (withLate l r).late, 1 < x.left := by
  intro x hx
  rw [withLate, hr, List.nil_append, List.mem_singleton] at hx
  exact hx ▸ hl

section
variable {s : State} {i : CoreInstr} (e : Ready s i) (ho : computes i.op = true) (hfault : (coreEff s i).fault = false)
include e ho hfault

/-- An instruction with near operands that computes without a fault. -/
theorem coreStep_near (hn : nearOps s i = true) : (coreStep i s.m).mem = memDst s i (coreEff s i).val ∧
    CoreMoved i.core.val { olk s.m.hw i.core.val with
      pc := BitVec.ofNat 32 (pcNext s i), flags := (coreEff s i).flags.getD (olk s.m.hw i.core.val).flags
      lateP := (coreEff s i).prod.toList.map fun q => ⟨3, q.1, BitVec.ofNat 256 q.2⟩ } s.m.hw (coreStep i s.m).hw := by
  obtain ⟨hmem, hres⟩ := coreResult_near e ho hn
  obtain ⟨hkeep, hend⟩ := hres.coreNext (win := coreWin s i) (len := instrLen i) e.settled.watched e.rep
    (fun x hx => absurd (e.late ▸ hx) List.not_mem_nil) (withProd_lateP_left e.lateP _ _)
  rw [coreStep_computes ho (nearOps_iff.1 hn).1 (nearOps_open e hn _) e, hfault, if_neg Bool.false_ne_true]
  rw [endLate_near e.late e.lateP] at hend
  exact ⟨hkeep.trans hmem, hend⟩

/-- An instruction with a far source and a near destination that computes without a fault and without a product. -/
theorem coreStep_far (hn : farOps s i = true) (hprod : (coreEff s i).prod = none) (hfar : farSourced i.core.val i (coreAcs s i) = true)
    (hsome : (dstOf i.op (coreAcs s i)).isSome = true ∨ (coreEff s i).flags.isSome = true) : (coreStep i s.m).mem = memPtrs s i ∧
    CoreMoved i.core.val { olk s.m.hw i.core.val with
      pc := BitVec.ofNat 32 (pcNext s i)
      late := [{ lateResult i.core.val (dstOf i.op (coreAcs s i)) (coreEff s i) with left := 2 }] } s.m.hw (coreStep i s.m).hw := by
  obtain ⟨hfaults, hdst, -⟩ := farOps_iff.1 hn
  obtain ⟨hmem, hres⟩ := coreResult_far e hdst hprod hfar (lateDst_waits e ho hdst hfault hsome)
  obtain ⟨hkeep, hend⟩ := hres.coreNext (win := coreWin s i) (len := instrLen i) e.settled.watched e.rep
    (withLate_late_left e.late (Nat.one_lt_succ_succ 1)) (fun x hx => absurd (e.lateP ▸ hx) List.not_mem_nil)
  rw [coreStep_computes ho hfaults (farOps_open hn) e, hfault, if_neg Bool.false_ne_true]
  rw [endLate_far e.late e.lateP] at hend
  exact ⟨hkeep.trans hmem, hend⟩

end

/-- Settles O24: `coreStep_near` says what the instruction leaves; a product is the one element of its list. -/
theorem coreComputes : Obligations.CoreComputes := by
  intro e he core hd specs s i hr hn hfault
  have hready : Ready s i := ready_of_coreReady hr
  obtain ⟨hmem, hmoved⟩ := coreStep_near hready (computes_of_mem e he) hfault hn
  obtain ⟨t, ht, htmem, htafter⟩ := answers_coreMoved (exec_core e (List.mem_append_left _ he) core hd specs s) hready.alive rfl hmoved
  refine ⟨t, ht, htmem.trans hmem, ?_⟩
  cases hp : (coreEff s i).prod with
  | none => rwa [hp] at htafter
  | some p => rwa [hp] at htafter

/-! ### Late results land (R247) -/

/-- The record at the end of an instruction at which every late result is due, before they land. -/
def dueRec (r : Olk) : Olk :=
  { r with
    late := [], lateP := (latePLess r.lateP).filter fun e => decide (e.left ≠ 0)
    prods := landProds ((latePLess r.lateP).filter fun e => decide (e.left = 0)) r.prods }

/-- The end of an instruction that lands the one late result, bytes and flags (R245, R247, R269). -/
theorem endInstr_lands_result {c a n d : Nat} {f : Flags} {m : Mach} (hn : n ≠ 0) (hl : (olk m.hw c).late = [⟨1, a, n, d, some f⟩]) :
    endInstr c m = (store a n d (m.onHw fun h => setOlk h c (dueRec (olk h c)))).onHw fun h => setOlk h c (withFlags (some f) (olk h c)) := by
  have hless : (olk m.hw c).late.map (fun e => { e with left := e.left - 1 }) = [⟨0, a, n, d, some f⟩] := by rw [hl]; rfl
  have hland (x : Mach) : landOne c ⟨0, a, n, d, some f⟩ x = (store a n d x).onHw fun h => setOlk h c (withFlags (some f) (olk h c)) := by
    rw [landOne]
    dsimp only
    rw [if_neg hn]
    rfl
  rw [← hland]
  unfold endInstr
  dsimp only
  rw [hless]
  rfl

theorem late_of_withResv {q : Option Nat} {r o : Olk} (h : withResv q r = withResv q o) : r.late = o.late := (congrArg Olk.late h :)

theorem late_clearResv (a n : Nat) (h : Hw) (c : Nat) : (olk (clearResv a n h) c).late = (olk h c).late :=
  late_of_withResv (r := olk (clearResv a n h) c) (o := olk h c) (olkCore_clearResv a n h c)

theorem lateResult_some {c : Nat} {x : Acs} {e : Eff} {v : Nat} (hn : dstNear c (some x) = true) (hv : e.val = some v) :
    lateResult c (some x) e = ⟨3, x.a, x.n, v % 2 ^ (8 * x.n), e.flags⟩ := by
  simp only [lateResult, lateDst, hv, hn, if_true, Option.getD_some]

theorem lateResult_none {c : Nat} {dst : Option Acs} {e : Eff} (h : dst = none ∨ e.val = none) :
    lateResult c dst e = ⟨3, 0, 0, 0, e.flags⟩ := by
  have hd : lateDst c dst e = (0, 0) := by
    unfold lateDst
    rcases h with rfl | hv
    · rfl
    · rw [hv]
      cases dst <;> rfl
  rw [lateResult, hd, Nat.mul_zero, pow_zero, Nat.mod_one]

/-- Settles O25: the result of an instruction with a far source waits over the end of it (`coreStep_far`); the end of the last of two more lands
it (`endInstr_lands_result`). -/
theorem farSourcesAreLate : Obligations.FarSourcesAreLate := by
  refine ⟨?waits, fun c a n d f m hn hl => ?lands⟩
  case waits =>
    intro e he hfrn core hd specs s i hr hn hfar hfault hprod hsome
    have hready : Ready s i := ready_of_coreReady hr
    obtain ⟨hmem, hmoved⟩ := coreStep_far hready (computes_of_mem e he) hfault hn hprod (farSourced_far hfrn hfar) hsome
    obtain ⟨t, ht, htmem, htafter⟩ := answers_coreMoved (exec_core e (List.mem_append_left _ he) core hd specs s) hready.alive rfl hmoved
    refine ⟨t, ht, htmem.trans hmem, ?_⟩
    obtain ⟨-, hnear, -⟩ : _ ∧ dstNear core.val (dstOf e.1 (coreAcs s i)) = true ∧ _ := farOps_iff.1 hn
    cases hx : dstOf e.1 (coreAcs s i) with
    | none =>
      rw [hx, lateResult_none (.inl rfl)] at htafter
      exact htafter
    | some x =>
      rw [hx] at hnear htafter
      cases hv : (coreEff s i).val with
      | none =>
        rw [lateResult_none (.inr hv)] at htafter
        exact htafter
      | some v =>
        rw [lateResult_some hnear hv] at htafter
        exact htafter
  case lands =>
    have hsame (h : Hw) : olk (setOlk h c (withFlags (some f) (olk h c))) c = withFlags (some f) (olk h c) := olk_setOlk_same fun hw => hw
    have hdue : olk (setOlk m.hw c (dueRec (olk m.hw c))) c = dueRec (olk m.hw c) := olk_setOlk_same fun hw => hw
    rw [endInstr_lands_result hn hl, Mach.onHw_mem, Mach.onHw_hw, store_mem, store_hw, hsame, Mach.onHw_hw]
    refine ⟨rdMem_wrMem .., rfl, ?_⟩
    rw [withFlags, late_clearResv, hdue, dueRec]

end Sys2Proof.Machine

/-! ## The parts of an instruction that any opcode shares (R236, R244, R247, R260, R261) -/

namespace Sys2Proof.Machine

theorem coreEffect_special {i : CoreInstr} {win len : Nat} {l : List Acs} {xs : List Nat} {m m' : Mach}
    (h : coreSpecial i win len xs m = some m') : coreEffect i win len l xs m = m' := by
  rw [coreEffect]
  dsimp only
  rw [h]

/-- The opcodes outside `computing` whose effect begins with the values of their sources. -/
def sourced : List Op := [.br, .jmp, .call, .tas, .lr, .sc, .probe]

theorem sourced_ne_repi {o : Op} (h : o ∈ sourced) : o ≠ .repi := by
  rintro rfl
  exact absurd h (by decide)

theorem coreSpecial_sourced {i : CoreInstr} (h : i.op ∈ sourced) (win len : Nat) (xs : List Nat) (m : Mach) :
    coreSpecial i win len xs m = none := by
  simp only [sourced, List.mem_cons, List.not_mem_nil, or_false] at h
  unfold coreSpecial
  rcases h with h | h | h | h | h | h | h <;> rw [h]

section
variable {s : State} {i : CoreInstr} (e : Ready s i)
include e

/-- A legal instruction has a SIZE code, a count and specifiers that its opcode accepts (R236, R266, R267). -/
theorem Ready.encoding : i.hd.size.val ∈ opSizes i.op ∧ i.specs.length ∈ opCnts i.op ∧ specsLegal i.op i.hd.size.val 0 i.specs = true := by
  have hleg := e.legal
  simp only [isIllegal, Bool.or_eq_false_iff, Bool.not_eq_false', List.contains_iff_mem] at hleg
  obtain ⟨⟨⟨⟨hsize, hcount⟩, hspecs⟩, -⟩, -⟩ := hleg
  exact ⟨hsize, hcount, hspecs⟩

/-- An instruction that is ready to run goes on to its effect where its operands neither fault nor wait and the reads of its sources, which
give `xs`, change nothing. -/
theorem coreStep_effect {xs : List Nat} (hf : acsFaults i s.m.hw i.core.val (coreAcs s i) = [])
    (hall : (coreAcs s i).all (acsOpen s.m.hw (.core i.core)) = true)
    (hread : readSources i (.core i.core) s.m.mem (coreWin s i) 0 i.specs s.m = (xs, s.m)) :
    coreStep i s.m = coreEffect i (coreWin s i) (instrLen i) (coreAcs s i) xs s.m := by
  rw [coreStep_ready e, coreBody]
  dsimp only
  rw [← coreAcs, hf, hread]
  simp [hall]

/-- With operands in open memory the sources are what the memory holds. -/
theorem coreStep_effect_open (ho : i.op ≠ .repi) (hf : acsFaults i s.m.hw i.core.val (coreAcs s i) = [])
    (hopen : allOpen s.m.hw (.core i.core) (coreAcs s i)) :
    coreStep i s.m = coreEffect i (coreWin s i) (instrLen i) (coreAcs s i) (sourceVals i s.m.mem (coreWin s i) 0 i.specs) s.m :=
  coreStep_effect e hf (List.all_eq_true.2 fun x hx => acsOpen_of_memOpen (hopen x hx)) (readSources_open ho hopen)

theorem coreStep_effect_near (ho : i.op ≠ .repi) (hn : nearOps s i = true) :
    coreStep i s.m = coreEffect i (coreWin s i) (instrLen i) (coreAcs s i) (sourceVals i s.m.mem (coreWin s i) 0 i.specs) s.m :=
  coreStep_effect_open e ho (List.isEmpty_iff.1 (nearOps_iff.1 hn).1) (nearOps_open e hn _)

/-- A control instruction with near or immediate operands that is not computed from its sources. -/
theorem coreStep_special {m' : Mach} (ho : i.op ≠ .repi) (hn : nearOps s i = true)
    (h : coreSpecial i (coreWin s i) (instrLen i) (sourceVals i s.m.mem (coreWin s i) 0 i.specs) s.m = some m') : coreStep i s.m = m' :=
  (coreStep_effect_near e ho hn).trans (coreEffect_special h)

/-- Destination and flags of an effect of an instruction with near operands, written at once (R244, R268). -/
theorem writeResult_nearOps (hn : nearOps s i = true) (f : Eff) :
    (writeResult i.core.val false (dstOf i.op (coreAcs s i)) f (ptrsDone s i)).mem = memDst s i f.val ∧
      CoreMoved i.core.val (withFlags f.flags (olk s.m.hw i.core.val)) s.m.hw
        (writeResult i.core.val false (dstOf i.op (coreAcs s i)) f (ptrsDone s i)).hw := by
  have hopen := dst_open (nearOps_open e hn (ptrsDone s i).hw)
  obtain ⟨hmem, hres⟩ := writeResult_near e.settled.watched ((ptrsDone_moved (s := s) (i := i)).writeDst (far := false) (f := f) hopen)
  exact ⟨hmem.trans (mem_writeDst f hopen), hres⟩

end

/-- An instruction with near operands is not far-sourced unless it is an atomic (R245, R283). -/
theorem farSourced_nearOps {s : State} {i : CoreInstr} (ha : isAtomic i.op = false) (hn : nearOps s i = true) :
    farSourced i.core.val i (coreAcs s i) = false := by
  obtain ⟨-, hnear⟩ := nearOps_iff.1 hn
  have hany : (coreAcs s i).any (fun x => !x.wr && !isNear i.core.val x.a) = false :=
    List.any_eq_false.2 fun x hx => by rw [hnear x hx, Bool.not_true, Bool.and_false]; exact Bool.false_ne_true
  rw [farSourced, ha, hany, Bool.and_false, Bool.or_false]

/-! ### The record of the core -/

namespace CoreMoved

/-- Core `c` takes the record `r'`, with any reservation, with which the watchdog does not begin to watch it. -/
theorem setOlk {c : Nat} {r r' : Olk} {h x : Hw} (e : CoreMoved c r h x) (q : Option Nat)
    (hw : watched r' = true → watched (olk x c) = true) : CoreMoved c r' h (setOlk x c (withResv q r')) where
  blocks := e.blocks.trans (setOlk_onlyOlk ..)
  others k hk := (congrArg (withResv none) (olk_setOlk_ne _ hk)).trans (e.others k hk)
  own := (congrArg (withResv none) (olk_setOlk_same (r := withResv q r') hw)).trans rfl

section
variable {c : Nat} {r : Olk} {h : Hw} {m : Mach} (e : CoreMoved c r h m.hw) (hl : r.late = []) (hp : r.lateP = [])
include e hl hp

/-- The end of an instruction of a core of which nothing is late. -/
theorem endInstr (hw : watched r = true) : (endInstr c m).mem = m.mem ∧ CoreMoved c r h (endInstr c m).hw := by
  have hnone : (olk m.hw c).late = [] ∧ (olk m.hw c).lateP = [] := by rw [e.olk_eq]; exact ⟨hl, hp⟩
  have hend : endLate r = r := by
    cases r
    cases hl
    cases hp
    rfl
  rw [endInstr_lands_none (by simp [hnone.1]) (by simp [hnone.2])]
  refine ⟨rfl, ?_⟩
  have hmoved := e.update hw (f := endLate) fun _ _ => rfl
  rwa [hend] at hmoved

theorem coreEnd (hw : watched r = true) (next : Nat) :
    (coreEnd c next m).mem = m.mem ∧ CoreMoved c (withPc next r) h (coreEnd c next m).hw :=
  CoreMoved.endInstr (m := m.onHw fun h => Machine.setOlk h c (withPc next (olk h c))) (e.update hw fun _ _ => rfl) hl hp hw

end

end CoreMoved

/-! ### What a command answers that is an instruction -/

section
variable {i : Instr} {s : State} {f : Mach → Mach} {c : Nat} {r : Olk} (hx : exec i s = .next (s.run f)) (ha : s.alive = true)
include hx ha

theorem answers_core {mem : Mem} (h : (f s.m).mem = mem ∧ CoreMoved c r s.m.hw (f s.m).hw) :
    Answers i s (fun t => t.m.mem = mem ∧ coreAfter s t c r) := by
  obtain ⟨rfl, hmoved⟩ := h
  exact answers_coreMoved hx ha rfl hmoved

theorem answers_core_sameMem (h : (f s.m).mem = s.m.mem ∧ CoreMoved c r s.m.hw (f s.m).hw) :
    Answers i s (fun t => sameMem s t ∧ coreAfter s t c r) := by
  obtain ⟨t, ht, hmem, hafter⟩ := answers_core hx ha h
  exact ⟨t, ht, fun a => congrArg (rdByte · a) hmem, hafter⟩

end

end Sys2Proof.Machine

/-! ## Branches (R273) -/

namespace Sys2Proof.Machine

/-- A branch to a target that may be fetched ends there. -/
theorem coreJump_fetched {c t : Nat} {m : Mach} (heven : t % 2 = 0) (hfetch : fetchRegion c t = true) : coreJump c t m = coreEnd c t m := by
  have hno : ¬ (t % 2 ≠ 0 ∨ fetchRegion c t = false) := by simp [heven, hfetch]
  exact if_neg hno

/-- A branch with near or immediate operands whose effect is to go to `t`, which may be fetched, with `v` for a destination. -/
theorem coreStep_branch {s : State} {i : CoreInstr} {v : Option Nat} {t : Nat} (e : Ready s i) (hop : i.op ∈ [.br, .jmp, .call])
    (hn : nearOps s i = true) (heff : coreEff s i = { val := v, target := some t }) (heven : t % 2 = 0)
    (hfetch : fetchRegion i.core.val t = true) :
    (coreStep i s.m).mem = memDst s i v ∧ CoreMoved i.core.val (withPc t (olk s.m.hw i.core.val)) s.m.hw (coreStep i s.m).hw := by
  have hplain : i.op ∈ sourced ∧ isAtomic i.op = false ∧ i.op ≠ .probe := by
    revert hop
    cases i.op <;> decide
  obtain ⟨hsourced, hatomic, hprobe⟩ := hplain
  have hstep : coreStep i s.m = coreEnd i.core.val t
      (writeResult i.core.val false (dstOf i.op (coreAcs s i)) { val := v, target := some t } (ptrsDone s i)) := by
    rw [coreEff] at heff
    rw [coreStep_effect_near e (sourced_ne_repi hsourced) hn, coreEffect]
    dsimp only
    rw [coreSpecial_sourced hsourced, hatomic, if_neg Bool.false_ne_true, if_neg hprobe, heff, farSourced_nearOps hatomic hn]
    dsimp only
    rw [if_neg Bool.false_ne_true, coreJump_fetched heven hfetch]
    rfl
  obtain ⟨hmem, hres⟩ := writeResult_nearOps e hn { val := v, target := some t }
  obtain ⟨hkeep, hend⟩ := hres.coreEnd e.late e.lateP e.settled.watched t
  rw [hstep]
  exact ⟨hkeep.trans hmem, hend⟩

/-! ## TRAP and ERET (R262, R303) -/

/-- The entry of a core of which nothing is late, with a given address (R262). -/
theorem enterSup_moved {c : Nat} {m : Mach} (e : Settled m.hw c) (cause opnd : Nat) (wr : Bool) (epc eaddr : Word) :
    CoreMoved c (entered (olk m.hw c) cause epc eaddr (ecauseWord cause opnd wr)) m.hw (enterSup c cause opnd wr epc (some eaddr) m).hw where
  blocks := by
    rw [enterSup, landAll_settled e]
    rfl
  others k hk := congrArg (withResv none) (olk_enterSup_ne e _ _ _ _ _ hk)
  own := (congrArg (withResv none) (olk_enterSup_same e cause opnd wr epc (some eaddr))).trans rfl

/-- The record after ERET where the entry did not find the core free (R262). -/
def returned (r : Olk) : Olk :=
  { r with sup := r.pmode, ie := r.pie, flags := r.eflags, exl := false, pc := r.epc, nest := r.nest - 1 }

/-- The record of a core that is free again (R303). -/
def freed (r : Olk) : Olk := { r with phase := .free, sup := true, ie := true, exl := false, ctx := none, nest := 0, hang := none }

theorem eretCore_eq {h : Hw} {c : Nat} (hnest : (olk h c).nest ≠ 1) : eretCore c h = setOlk h c (withResv none (returned (olk h c))) := by
  rw [eretCore, if_neg hnest]
  rfl

theorem freeCore_eq {h : Hw} {c : Nat} (hrep : (olk h c).rep = none) : freeCore c h = setOlk h c (withResv none (freed (olk h c))) := by
  have hkeep : { freed (olk h c) with rep := none } = freed (olk h c) := by
    unfold freed
    rw [hrep]
  rw [← hkeep]
  rfl

section
variable {s : State} {i : CoreInstr} {core : Fin 12} {hd : Head} {specs : List Spec} (e : Ready s i)
include e

theorem coreStep_trap {v : BitVec 12} (hi : i = ⟨core, .trap, hd, [.imm v]⟩) : (coreStep i s.m).mem = s.m.mem ∧
    CoreMoved i.core.val (entered (olk s.m.hw i.core.val) 6 (BitVec.ofNat 32 (pcNext s i)) (BitVec.ofNat 32 v.toNat) 6) s.m.hw
      (coreStep i s.m).hw := by
  subst hi
  have hstep : coreStep _ s.m = enterSup core.val 6 0 false _ (some (BitVec.ofNat 32 v.toNat)) s.m := coreStep_special e nofun rfl rfl
  rw [hstep]
  exact ⟨mem_enterSup e.settled .., enterSup_moved e.settled 6 0 false _ _⟩

theorem coreStep_eret (hi : i = ⟨core, .eret, hd, specs⟩) : coreStep i s.m =
    if (olk s.m.hw i.core.val).nest = 1 then (landAll i.core.val s.m).onHw (freeCore i.core.val)
    else endInstr i.core.val (s.m.onHw (eretCore i.core.val)) := by
  subst hi
  obtain ⟨-, hcount, -⟩ := e.encoding
  obtain rfl : specs = [] := List.length_eq_zero_iff.1 (List.mem_singleton.1 hcount)
  exact coreStep_special e nofun rfl rfl

/-- ERET from an entry that did not find the core free. -/
theorem coreStep_eret_returns (hi : i = ⟨core, .eret, hd, specs⟩) (hnest : (olk s.m.hw i.core.val).nest ≠ 1) :
    (coreStep i s.m).mem = s.m.mem ∧ CoreMoved i.core.val (returned (olk s.m.hw i.core.val)) s.m.hw (coreStep i s.m).hw := by
  have hmoved : CoreMoved i.core.val (returned (olk s.m.hw i.core.val)) s.m.hw (eretCore i.core.val s.m.hw) := by
    rw [eretCore_eq hnest]
    exact (CoreMoved.refl ..).setOlk none fun hw => hw
  rw [coreStep_eret e hi, if_neg hnest]
  exact CoreMoved.endInstr (m := s.m.onHw (eretCore i.core.val)) hmoved e.late e.lateP e.settled.watched

/-- ERET from the entry that found the core free. -/
theorem coreStep_eret_frees (hi : i = ⟨core, .eret, hd, specs⟩) (hnest : (olk s.m.hw i.core.val).nest = 1) :
    (coreStep i s.m).mem = s.m.mem ∧ CoreMoved i.core.val (freed (olk s.m.hw i.core.val)) s.m.hw (coreStep i s.m).hw := by
  have hsame : olk (setOlk s.m.hw i.core.val (olk s.m.hw i.core.val)) i.core.val = olk s.m.hw i.core.val := olk_setOlk_self ..
  have hmoved : CoreMoved i.core.val (freed (olk s.m.hw i.core.val)) s.m.hw
      (freeCore i.core.val (setOlk s.m.hw i.core.val (olk s.m.hw i.core.val))) := by
    rw [freeCore_eq (by rw [hsame]; exact e.rep), hsame]
    exact ((CoreMoved.refl i.core.val s.m.hw).setOlk (r' := olk s.m.hw i.core.val) _ fun hw => hw).setOlk none
      fun hw => absurd hw Bool.false_ne_true
  rw [coreStep_eret e hi, if_pos hnest, landAll_settled e.settled]
  exact ⟨rfl, hmoved⟩

end

/-! ## CWR, REP and REPI (R258, R274 … R277) -/

/-- CWR writes no field of the record but those of the control registers. -/
theorem ctlWrite_kept (r : Olk) (k : Nat) (w : Word) : ctlWrite r k w =
    { r with
      pie := (ctlWrite r k w).pie, pmode := (ctlWrite r k w).pmode, exl := (ctlWrite r k w).exl, ie := (ctlWrite r k w).ie
      vbase := (ctlWrite r k w).vbase, swslot := (ctlWrite r k w).swslot, wslot := (ctlWrite r k w).wslot
      epc := (ctlWrite r k w).epc, eflags := (ctlWrite r k w).eflags } := by
  unfold ctlWrite
  split <;> rfl

theorem ctlWrite_withResv (o : Olk) (q : Option Nat) (k : Nat) (w : Word) : ctlWrite (withResv q o) k w = withResv q (ctlWrite o k w) := by
  unfold ctlWrite
  split <;> rfl

theorem watched_ctlWrite (r : Olk) (k : Nat) (w : Word) : watched (ctlWrite r k w) = watched r :=
  (congrArg watched (ctlWrite_kept r k w)).trans rfl

/-- The record of a core in the repeat `p` (R275, R276). -/
def withRep (p : Rep) (r : Olk) : Olk := { r with rep := some p }

section
variable {s : State} {i : CoreInstr} {core : Fin 12} {hd : Head} {specs : List Spec} (e : Ready s i)
include e

/-- CWR with near or immediate operands. -/
theorem coreStep_cwr {k x : Nat} (hn : nearOps s i = true) (hi : i = ⟨core, .cwr, hd, specs⟩)
    (hx : sourceVals i s.m.mem (coreWin s i) 0 i.specs = [k, x]) : (coreStep i s.m).mem = memPtrs s i ∧
      CoreMoved i.core.val (withPc (pcNext s i) (ctlWrite (olk s.m.hw i.core.val) k (BitVec.ofNat 32 x))) s.m.hw (coreStep i s.m).hw := by
  have hstep : coreStep i s.m = coreEnd i.core.val (pcNext s i)
      ((ptrsDone s i).onHw fun h => setOlk h i.core.val (ctlWrite (olk h i.core.val) k (BitVec.ofNat 32 x))) := by
    subst hi
    refine coreStep_special e nofun hn ?_
    rw [hx]
    rfl
  have hkept := ctlWrite_kept (olk s.m.hw i.core.val) k (BitVec.ofNat 32 x)
  have hmoved := (ptrsDone_moved (s := s) (i := i)).update e.settled.watched
    (f := fun r => ctlWrite r k (BitVec.ofNat 32 x)) fun o q => ctlWrite_withResv o q _ _
  rw [hstep]
  exact CoreMoved.coreEnd (m := (ptrsDone s i).onHw _) hmoved ((congrArg Olk.late hkept).trans e.late)
    ((congrArg Olk.lateP hkept).trans e.lateP) ((watched_ctlWrite ..).trans e.settled.watched) _

/-- An instruction that ends with the repeat `p` in progress. -/
theorem coreStep_withRep {p : Rep} (hstep : coreStep i s.m = coreEnd i.core.val (pcNext s i)
      (s.m.onHw fun h => setOlk h i.core.val (withRep p (olk h i.core.val)))) : (coreStep i s.m).mem = s.m.mem ∧
    CoreMoved i.core.val (withPc (pcNext s i) (withRep p (olk s.m.hw i.core.val))) s.m.hw (coreStep i s.m).hw := by
  rw [hstep]
  exact CoreMoved.coreEnd (m := s.m.onHw fun h => setOlk h i.core.val (withRep p (olk h i.core.val)))
    ((CoreMoved.refl ..).update e.settled.watched fun _ _ => rfl) e.late e.lateP e.settled.watched _

theorem coreStep_rep {n : Nat} (hn : nearOps s i = true) (hi : i = ⟨core, .rep, hd, specs⟩)
    (hx : sourceVals i s.m.mem (coreWin s i) 0 i.specs = [n]) : coreStep i s.m = coreEnd i.core.val (pcNext s i) (s.m.onHw fun h =>
      setOlk h i.core.val (withRep ⟨false, (olk s.m.hw i.core.val).pc, n, 0, decide (n = 0)⟩ (olk h i.core.val))) := by
  subst hi
  refine coreStep_special e nofun hn ?_
  rw [hx]
  rfl

end

/-- A word of a core's near memory lies in an open memory. -/
theorem memOpen_nearWord {h : Hw} {core : Fin 12} {a : Nat} (ha : isNear core.val a = true) (hal : a % 4 = 0) :
    MemOpen h (.core core) a 4 false := by
  have hcore := core.isLt
  have hrange := isNear_iff.1 ha
  have hdom : (addrDomain a).isSome = true := by
    unfold addrDomain
    rw [if_neg (by omega), if_pos (by omega)]
    rfl
  exact memOpen_near ha (by decide) (busKind_memory hdom (by omega) (by omega) hal)

theorem winBase_mod_four (c : Nat) (r : Olk) : winBase c r % 4 = 0 := by
  unfold winBase nearBase
  omega

/-- The one source of an instruction without a destination, in open memory. -/
theorem readSources_single {i : CoreInstr} {ini : Initiator} {m0 : Mem} {win a n : Nat} {p : Spec} {m : Mach}
    (hdst : hasDst i.op = false) (hsc : i.op ≠ .sc) (himm : immRule i.op 0 = none) (hn : specSize i.op i.hd.size.val 0 = n)
    (ha : opAddr m0 win n p = some a) (hopen : MemOpen m.hw ini a n false) : readSources i ini m0 win 0 [p] m = ([rdMem m.mem a n], m) := by
  have hsource : ((decide (0 = 0) && hasDst i.op) || (decide (i.op = .sc) && decide (0 = 0))) = false := by simp [hdst, hsc]
  rw [readSources, hsource, if_neg Bool.false_ne_true]
  simp only [himm, hn, ha, busRead_memory hopen]
  rfl

section
variable {s : State} {i : CoreInstr} {core : Fin 12} {hd : Head} {w : Fin 64} {o : Fin 16} {win len : Nat} {xs : List Nat} {m : Mach}

/-- The operand of a legal REPI is an aligned word of the window (R276). -/
theorem repi_word (e : Ready s ⟨core, .repi, hd, [.direct w o]⟩) : hd.size.val = 2 ∧ o.val % 4 = 0 := by
  obtain ⟨hsize, -, hspecs⟩ := e.encoding
  have hsize : hd.size.val = 2 := List.mem_singleton.1 hsize
  refine ⟨hsize, ?_⟩
  simpa [specsLegal, specLegal, specOk, isImm, specSize, isLane, hsize, immRule, isMul] using hspecs

theorem coreSpecial_repi (hle : rdMem m.mem (win + (16 * w.val + o.val)) 4 ≤ 65535) :
    coreSpecial ⟨core, .repi, hd, [.direct w o]⟩ win len xs m = some (coreEnd core.val (((olk m.hw core.val).pc.toNat + len) % 4294967296)
      (m.onHw fun h => setOlk h core.val (withRep ⟨true, (olk m.hw core.val).pc, 0, 16 * w.val + o.val,
        decide (rdMem m.mem (win + (16 * w.val + o.val)) 4 = 0)⟩ (olk h core.val)))) :=
  if_neg (Nat.not_lt.2 hle)

theorem coreStep_repi (e : Ready s i) (hi : i = ⟨core, .repi, hd, [.direct w o]⟩)
    (ha : isNear i.core.val (coreWin s i + (16 * w.val + o.val)) = true)
    (hle : rdMem s.m.mem (coreWin s i + (16 * w.val + o.val)) 4 ≤ 65535) : coreStep i s.m =
      coreEnd i.core.val (pcNext s i) (s.m.onHw fun h => setOlk h i.core.val (withRep ⟨true, (olk s.m.hw i.core.val).pc, 0,
        16 * w.val + o.val, decide (rdMem s.m.mem (coreWin s i + (16 * w.val + o.val)) 4 = 0)⟩ (olk h i.core.val))) := by
  subst hi
  obtain ⟨hsize, ho⟩ := repi_word e
  have hal : coreWin s ⟨core, .repi, hd, [.direct w o]⟩ % 4 = 0 := winBase_mod_four ..
  have hwidth : specSize .repi hd.size.val 0 = 4 := by rw [hsize]; rfl
  have hread := readSources_single (i := ⟨core, .repi, hd, [.direct w o]⟩) (m0 := s.m.mem) (p := .direct w o) rfl nofun rfl hwidth
    (congrArg some (Nat.add_assoc ..)) (memOpen_nearWord (h := s.m.hw) ha (by omega))
  exact (coreStep_effect e rfl rfl hread).trans (coreEffect_special (coreSpecial_repi hle))

end

/-- Settles O26: a branch is `coreStep_branch`, TRAP an entry (`enterSup_moved`); ERET, CWR, REP and REPI replace the record of the core and
end. -/
theorem coreControlFlow : Obligations.CoreControlFlow := by
  refine ⟨fun core hd specs s x => ?branches, fun core hd s => ⟨fun v hr => ?trap, fun specs hr => ?eret⟩,
    fun core hd s => ⟨fun specs k x hr hn hx => ?cwr, fun specs n hr hn hx => ?rep, fun w o hr _ ha hle => ?repi⟩⟩
  case branches =>
    intro go
    have hgo (o : Op) (c : Instr) (t : Nat) (link : Bool) (hc : exec c s = .next (s.run (coreStep ⟨core, o, hd, specs⟩)))
        (ho : o ∈ [.br, .jmp, .call])
        (heff : ∀ rel frame, opEff ⟨core, o, hd, specs⟩ (olk s.m.hw core.val) core.val (instrLen ⟨core, o, hd, specs⟩) rel frame [x] =
          { val := if link then some (pcNext s ⟨core, o, hd, specs⟩) else none, target := some t }) : go o c t link := by
      intro hr hn hx heven hfetch
      have e := ready_of_coreReady hr
      have hcore : coreEff s ⟨core, o, hd, specs⟩ = _ := (congrArg (opEff _ _ _ _ _ _) hx).trans (heff _ _)
      exact answers_core hc e.alive (coreStep_branch e ho hn hcore heven hfetch)
    exact ⟨hgo .br _ _ _ rfl (by decide) fun _ _ => rfl, hgo .jmp _ _ _ rfl (by decide) fun _ _ => rfl,
      hgo .call _ _ _ rfl (by decide) fun _ _ => rfl⟩
  all_goals have e := ready_of_coreReady hr
  case trap => exact answers_core_sameMem (i := .trap core hd [.imm v]) rfl e.alive (coreStep_trap e rfl)
  case eret =>
    exact ⟨fun hnest => answers_core_sameMem (i := .eret core hd specs) rfl e.alive (coreStep_eret_returns e rfl hnest),
      fun hnest => answers_core_sameMem (i := .eret core hd specs) rfl e.alive (coreStep_eret_frees e rfl hnest)⟩
  case cwr => exact answers_core (i := .cwr core hd specs) rfl e.alive (coreStep_cwr e hn rfl hx)
  case rep => exact answers_core_sameMem (i := .rep core hd specs) rfl e.alive (coreStep_withRep e (coreStep_rep e hn rfl hx))
  case repi =>
    exact answers_core_sameMem (i := .repi core hd [.direct w o]) rfl e.alive (coreStep_withRep e (coreStep_repi e rfl ha hle))

end Sys2Proof.Machine

/-! ## Late results of the atomics (R245, R247, R283) -/

namespace Sys2Proof.Machine

/-- What does not look at the watchdog's instant reads in the record of core `c` what was put there. -/
theorem olk_setOlk_field {β : Type} (p : Olk → β) (hp : ∀ r n, p { r with wdgAt := n } = p r) (h : Hw) (c : Nat) (r : Olk) :
    p (olk (setOlk h c r) c) = p r := by
  rw [olk, setOlk, smGet_smPut_same]
  split
  · exact hp ..
  · rfl

/-- The result of an instruction with a far source and a near destination or none leaves the reservation: it waits. -/
theorem resv_writeResult_far {c : Nat} {dst : Option Acs} (hn : dstNear c dst = true) (f : Eff) (m : Mach) :
    (olk (writeResult c true dst f m).hw c).resv = (olk m.hw c).resv := by
  have hdst : writeDst c true dst f m = m := by
    unfold writeDst
    split
    · rw [hn]
      rfl
    · rfl
  unfold writeResult
  dsimp only
  rw [hdst, if_pos rfl]
  split
  · rfl
  · exact olk_setOlk_field Olk.resv (fun _ _ => rfl) ..

/-- The end of an instruction outside a repeat. -/
theorem CoreMoved.coreNext_eq {c win len : Nat} {r : Olk} {h : Hw} {m : Mach} (e : CoreMoved c r h m.hw) (hrep : r.rep = none) :
    Machine.coreNext c win len m = Machine.coreEnd c ((r.pc.toNat + len) % 4294967296) m := by
  rw [Machine.coreNext, e.olk_eq]
  simp only [withResv, hrep]

/-- The end of an instruction leaves the reservation where nothing lands. -/
theorem resv_coreEnd {c next : Nat} {m : Mach} (hl : ∀ x ∈ (olk m.hw c).late, 1 < x.left) (hp : ∀ x ∈ (olk m.hw c).lateP, 1 < x.left) :
    (olk (coreEnd c next m).hw c).resv = (olk m.hw c).resv := by
  have hlate := olk_setOlk_field Olk.late (fun _ _ => rfl) m.hw c
  have hlateP := olk_setOlk_field Olk.lateP (fun _ _ => rfl) m.hw c
  have hresv := olk_setOlk_field Olk.resv (fun _ _ => rfl)
  rw [coreEnd, endInstr_lands_none (by rw [Mach.onHw_hw, hlate]; exact hl) (by rw [Mach.onHw_hw, hlateP]; exact hp), Mach.onHw_hw, hresv]
  exact hresv ..

section
variable {s : State} {i : CoreInstr} (e : Ready s i)
include e

/-- The end of an instruction whose only result waits, with two more instructions to end; the core's record had not changed but for its
reservation, which stays. -/
theorem coreNext_waits {m : Mach} {dst : Option Acs} {f : Eff} (hm : CoreMoved i.core.val (olk s.m.hw i.core.val) s.m.hw m.hw)
    (hn : dstNear i.core.val dst = true) (hany : ¬ ((lateDst i.core.val dst f).2 = 0 ∧ f.flags = none)) :
    let m' := coreNext i.core.val (coreWin s i) (instrLen i) (writeResult i.core.val true dst f m)
    m'.mem = m.mem ∧ (olk m'.hw i.core.val).resv = (olk m.hw i.core.val).resv ∧ CoreMoved i.core.val { olk s.m.hw i.core.val with
      pc := BitVec.ofNat 32 (pcNext s i), late := [{ lateResult i.core.val dst f with left := 2 }] } s.m.hw m'.hw := by
  intro m'
  obtain ⟨hmem, hres⟩ := writeResult_far e.settled.watched hm hn hany
  have hlate := withLate_late_left (l := lateResult i.core.val dst f) e.late (Nat.one_lt_succ_succ 1)
  have hlateP : ∀ x ∈ (withLate (lateResult i.core.val dst f) (olk s.m.hw i.core.val)).lateP, 1 < x.left :=
    fun x hx => absurd (e.lateP ▸ hx) List.not_mem_nil
  obtain ⟨hkeep, hend⟩ := hres.coreNext (win := coreWin s i) (len := instrLen i) e.settled.watched e.rep hlate hlateP
  rw [endLate_far e.late e.lateP] at hend
  have hrec := hres.olk_eq
  have hresv : (olk m'.hw i.core.val).resv = (olk (writeResult i.core.val true dst f m).hw i.core.val).resv := by
    rw [show m' = _ from hres.coreNext_eq e.rep, resv_coreEnd (by rw [hrec]; exact hlate) (by rw [hrec]; exact hlateP)]
  exact ⟨hkeep.trans hmem, hresv.trans (resv_writeResult_far hn f m), hend⟩

end

/-! ## Operands of the atomics (R283, R284) -/

theorem sourced_of_isAtomic {o : Op} (h : isAtomic o = true) : o ∈ sourced := by
  revert h
  cases o <;> decide

theorem atomicMem_of_acsFault {h : Hw} {c : Nat} {x : Acs} (hx : acsFault h c true x = none) : atomicMem x.a = true := by
  by_contra hno
  unfold acsFault at hx
  rw [Bool.eq_false_iff.2 hno] at hx
  simp only [Bool.not_false, Bool.and_self, if_true] at hx
  split_ifs at hx

theorem atomicMem_lt {a : Nat} (h : atomicMem a = true) : a < 0x40000000 := by
  simp only [atomicMem, Bool.or_eq_true, decide_eq_true_eq] at h
  omega

theorem ptrChange_isMem {p : Spec} (h : isMem p = true) (n : Nat) : ptrChange n p = none := by
  cases p
  case postInc | preDec => exact absurd h Bool.false_ne_true
  all_goals rfl

theorem CoreMoved.setResv {c : Nat} {r : Olk} {h x : Hw} (e : CoreMoved c r h x) (q : Option Nat) :
    CoreMoved c r h (Machine.setOlk x c (withResv q (olk x c))) where
  blocks := e.blocks.trans (setOlk_onlyOlk ..)
  others k hk := (olkCore_setOlk_resv ..).trans (e.others k hk)
  own := (olkCore_setOlk_resv ..).trans e.own

theorem ptrList_pair (i : CoreInstr) {p q : Spec} (hp : ∀ n, ptrChange n p = none) (hq : ∀ n, ptrChange n q = none) :
    ptrList i 0 [p, q] = [] := by
  rw [ptrList, ptrList, hp, hq]
  rfl

/-- An atomic that is ready to run, whose operands neither fault nor wait. -/
structure AtomicReady (s : State) (i : CoreInstr) : Prop extends Ready s i where
  atomic : isAtomic i.op = true
  noFault : acsFaults i s.m.hw i.core.val (coreAcs s i) = []
  opened : (coreAcs s i).all (acsOpen s.m.hw (.core i.core)) = true

section
variable {s : State} {i : CoreInstr} {l : List Acs} {xs : List Nat} (e : AtomicReady s i) (hacs : coreAcs s i = l)
  (hdst : dstNear i.core.val (dstOf i.op l) = true) (hnear : ∀ x ∈ l, x.k = atomicSpec i.op ∨ isNear i.core.val x.a = true)
include e hacs hdst hnear

/-- The operands of an atomic lie in open memory where all but the atomic one lie near. -/
theorem atomic_open : allOpen s.m.hw (.core i.core) (coreAcs s i) := by
  subst hacs
  refine farOps_open (farOps_iff.2 ⟨List.isEmpty_iff.2 e.noFault, hdst, fun x hx => ⟨?_, List.all_eq_true.1 e.opened x hx⟩⟩)
  rcases hnear x hx with hk | hn
  · have hfault := List.filterMap_eq_nil_iff.1 e.noFault x hx
    rw [e.atomic, hk, decide_eq_true rfl] at hfault
    exact atomicMem_lt (atomicMem_of_acsFault hfault)
  · have hcore := i.core.isLt
    have hrange := isNear_iff.1 hn
    omega

/-- An atomic whose operands change no pointer. -/
theorem coreStep_atomic (hxs : sourceVals i s.m.mem (coreWin s i) 0 i.specs = xs) (hptr : ptrList i 0 i.specs = []) :
    coreStep i s.m = coreNext i.core.val (coreWin s i) (instrLen i) (coreAtomic i l xs s.m) := by
  have hsourced := sourced_of_isAtomic e.atomic
  rw [coreStep_effect_open e.toReady (sourced_ne_repi hsourced) e.noFault (atomic_open e hacs hdst hnear), coreEffect]
  dsimp only
  rw [coreSpecial_sourced hsourced, e.atomic, if_pos rfl, hptr, hacs, hxs]
  rfl

end

end Sys2Proof.Machine

/-! ## TAS, LR and SC (R283, R284) -/

namespace Sys2Proof.Machine

theorem rdMem_lt (m : Mem) (a n : Nat) : rdMem m a n < 256 ^ n := by
  induction n generalizing a with
  | zero => exact Nat.one_pos
  | succ n ih =>
    have := ih (a + 1)
    have := (rdByte m a).isLt
    rw [rdMem, pow_succ]
    omega

section
variable {core : Fin 12} {hd : Head} {w : Fin 64} {o : Fin 16} {x : Spec} {a win : Nat} {m : Mem}

theorem operands_tas (hsize : hd.size.val = 2) (ha : opAddr m win 4 x = some a) :
    let i : CoreInstr := ⟨core, .tas, hd, [.direct w o, x]⟩
    acsFrom i m win 0 i.specs = [⟨1, win + 16 * w.val + o.val, 4, true⟩, ⟨2, a, 4, false⟩, ⟨2, a, 4, true⟩] ∧
      sourceVals i m win 0 i.specs = [rdMem m a 4] := by
  have hwidth (k : Nat) : specSize .tas hd.size.val k = 4 := by rw [hsize]; rfl
  simp only [acsFrom, sourceVals, hwidth, ha]
  exact ⟨rfl, rfl⟩

theorem operands_lr (hsize : hd.size.val = 4) (ha : opAddr m win 16 x = some a) :
    let i : CoreInstr := ⟨core, .lr, hd, [.direct w o, x]⟩
    acsFrom i m win 0 i.specs = [⟨1, win + 16 * w.val + o.val, 16, true⟩, ⟨2, a, 16, false⟩] ∧
      sourceVals i m win 0 i.specs = [rdMem m a 16] := by
  have hwidth (k : Nat) : specSize .lr hd.size.val k = 16 := by rw [hsize]; rfl
  simp only [acsFrom, sourceVals, hwidth, ha]
  exact ⟨rfl, rfl⟩

theorem operands_sc (hsize : hd.size.val = 4) (ha : opAddr m win 16 x = some a) :
    let i : CoreInstr := ⟨core, .sc, hd, [x, .direct w o]⟩
    acsFrom i m win 0 i.specs = [⟨1, a, 16, true⟩, ⟨2, win + 16 * w.val + o.val, 16, false⟩] ∧
      sourceVals i m win 0 i.specs = [rdMem m (win + 16 * w.val + o.val) 16] := by
  have hwidth (k : Nat) : specSize .sc hd.size.val k = 16 := by rw [hsize]; rfl
  simp only [acsFrom, sourceVals, hwidth, ha]
  exact ⟨rfl, rfl⟩

end

/-- The machine after the store of SC, which is done where the reservation holds (R284). -/
def scStored (s : State) (c a v : Nat) : Mach := if decide ((olk s.m.hw c).resv = some a) then store a 16 v s.m else s.m

theorem scStored_moved (s : State) (c a v : Nat) : CoreMoved c (olk s.m.hw c) s.m.hw (scStored s c a v).hw := by
  unfold scStored
  split
  · exact (CoreMoved.refl ..).store ..
  · exact CoreMoved.refl ..

section
variable {s : State} {i : CoreInstr} {core : Fin 12} {hd : Head} {w : Fin 64} {o : Fin 16} {x : Spec} {a d : Nat} (e : AtomicReady s i)
  (hx : isMem x = true) (hwd : coreWin s i + 16 * w.val + o.val = d) (hnear : isNear i.core.val d = true)
include e hx hwd hnear

/-- TAS writes 1 to the word, whose old value waits with its Z flag. -/
theorem coreStep_tas (hi : i = ⟨core, .tas, hd, [.direct w o, x]⟩) (ha : opAddr s.m.mem (coreWin s i) 4 x = some a) :
    (coreStep i s.m).mem = wrMem s.m.mem a 4 1 ∧ CoreMoved i.core.val { olk s.m.hw i.core.val with
      pc := BitVec.ofNat 32 (pcNext s i)
      late := [⟨2, d, 4, rdMem s.m.mem a 4 % 2 ^ 32, some ⟨false, decide (rdMem s.m.mem a 4 = 0), false, false⟩⟩] } s.m.hw
        (coreStep i s.m).hw := by
  subst hi
  obtain ⟨hsize, -⟩ := e.encoding
  obtain ⟨hacs, hvals⟩ := operands_tas (core := core) (w := w) (o := o) (List.mem_singleton.1 hsize) ha
  rw [hwd] at hacs
  have hdst : dstNear core.val (some ⟨1, d, 4, true⟩) = true := hnear
  have hstep := coreStep_atomic e hacs hdst (List.forall_mem_cons.2 ⟨.inr hnear, by simp [atomicSpec]⟩) hvals
    (ptrList_pair _ (fun _ => rfl) (ptrChange_isMem hx))
  obtain ⟨hmem, -, hmoved⟩ := coreNext_waits e.toReady
    (f := { val := some (rdMem s.m.mem a 4), flags := some ⟨false, decide (rdMem s.m.mem a 4 = 0), false, false⟩ })
    ((CoreMoved.refl core.val s.m.hw).store a 4 1) hdst (fun h => nomatch h.2)
  rw [lateResult_some hdst rfl] at hmoved
  rw [hstep]
  exact ⟨hmem, hmoved⟩

/-- LR takes the reservation, and the quadword waits. -/
theorem coreStep_lr (hi : i = ⟨core, .lr, hd, [.direct w o, x]⟩) (ha : opAddr s.m.mem (coreWin s i) 16 x = some a) :
    (coreStep i s.m).mem = s.m.mem ∧ (olk (coreStep i s.m).hw i.core.val).resv = some a ∧ CoreMoved i.core.val { olk s.m.hw i.core.val with
      pc := BitVec.ofNat 32 (pcNext s i), late := [⟨2, d, 16, rdMem s.m.mem a 16 % 2 ^ 128, none⟩] } s.m.hw (coreStep i s.m).hw := by
  subst hi
  obtain ⟨hsize, -⟩ := e.encoding
  obtain ⟨hacs, hvals⟩ := operands_lr (core := core) (w := w) (o := o) (List.mem_singleton.1 hsize) ha
  rw [hwd] at hacs
  have hdst : dstNear core.val (some ⟨1, d, 16, true⟩) = true := hnear
  have hstep := coreStep_atomic e hacs hdst (List.forall_mem_cons.2 ⟨.inr hnear, by simp [atomicSpec]⟩) hvals
    (ptrList_pair _ (fun _ => rfl) (ptrChange_isMem hx))
  have hwaits : (lateDst core.val (some ⟨1, d, 16, true⟩) { val := some (rdMem s.m.mem a 16) }).2 ≠ 0 := by
    simp only [lateDst, hdst, if_true]
    decide
  obtain ⟨hmem, hresv, hmoved⟩ := coreNext_waits e.toReady (m := s.m.onHw fun h => setOlk h core.val (withResv (some a) (olk h core.val)))
    ((CoreMoved.refl core.val s.m.hw).setResv (some a)) hdst (fun h => hwaits h.1)
  rw [lateResult_some hdst rfl] at hmoved
  rw [hstep]
  exact ⟨hmem, hresv.trans (olk_setOlk_field Olk.resv (fun _ _ => rfl) ..), hmoved⟩

/-- SC stores where the reservation holds and clears it; the Z flag waits. -/
theorem coreStep_sc (hi : i = ⟨core, .sc, hd, [x, .direct w o]⟩) (ha : opAddr s.m.mem (coreWin s i) 16 x = some a) :
    (coreStep i s.m).mem = (scStored s i.core.val a (rdMem s.m.mem d 16)).mem ∧ (olk (coreStep i s.m).hw i.core.val).resv = none ∧
      CoreMoved i.core.val { olk s.m.hw i.core.val with
        pc := BitVec.ofNat 32 (pcNext s i)
        late := [⟨2, 0, 0, 0, some ⟨false, decide ((olk s.m.hw i.core.val).resv = some a), false, false⟩⟩] } s.m.hw (coreStep i s.m).hw := by
  subst hi
  obtain ⟨hsize, -⟩ := e.encoding
  obtain ⟨hacs, hvals⟩ := operands_sc (core := core) (w := w) (o := o) (List.mem_singleton.1 hsize) ha
  rw [hwd] at hacs hvals
  have hstep := coreStep_atomic e hacs rfl (List.forall_mem_cons.2 ⟨.inl rfl, List.forall_mem_singleton.2 (.inr hnear)⟩) hvals
    (ptrList_pair _ (ptrChange_isMem hx) fun _ => rfl)
  obtain ⟨hmem, hresv, hmoved⟩ := coreNext_waits e.toReady (dst := none)
    (m := (scStored s core.val a (rdMem s.m.mem d 16)).onHw fun h => setOlk h core.val (withResv none (olk h core.val)))
    (f := { flags := some ⟨false, decide ((olk s.m.hw core.val).resv = some a), false, false⟩ })
    ((scStored_moved ..).setResv none) rfl (fun h => nomatch h.2)
  rw [lateResult_none (.inl rfl)] at hmoved
  rw [hstep]
  exact ⟨hmem, hresv.trans (olk_setOlk_field Olk.resv (fun _ _ => rfl) ..), hmoved⟩

end

/-! ## PROBE (R285, R286) -/

section
variable {s : State} {i : CoreInstr} {v : Nat} {f : Flags} (e : Ready s i) (hn : nearOps s i = true)
include e hn

/-- An instruction with near operands that gives `v` and the flags `f` goes on behind itself. -/
theorem coreNext_gives {m : Mach} (hm : m = coreNext i.core.val (coreWin s i) (instrLen i)
      (writeResult i.core.val false (dstOf i.op (coreAcs s i)) { val := some v, flags := some f } (ptrsDone s i))) :
    m.mem = memDst s i (some v) ∧
      CoreMoved i.core.val { olk s.m.hw i.core.val with pc := BitVec.ofNat 32 (pcNext s i), flags := f } s.m.hw m.hw := by
  obtain ⟨hmem, hres⟩ := writeResult_nearOps e hn { val := some v, flags := some f }
  obtain ⟨hkeep, hend⟩ := hres.coreEnd e.late e.lateP e.settled.watched (pcNext s i)
  rw [hm, hres.coreNext_eq e.rep]
  exact ⟨hkeep.trans hmem, hend⟩

/-- A search in near memory that gives `v` and the flags `f` (R286): the key found, or the DEFAULT of the header `q`. -/
theorem coreStep_probe {ha q k : Nat} (hop : i.op = .probe) (hx : sourceVals i s.m.mem (coreWin s i) 0 i.specs = [q, k])
    (hha : (((coreAcs s i).find? fun x => decide (x.k = 2)).map fun x => x.a).getD 0 = ha)
    (hout : (probe i.core.val ha q k s.m = .found v false s.m ∧ f = ⟨false, false, false, false⟩) ∨
      ∃ full, probe i.core.val ha q k s.m = .missing full false s.m ∧ v = q / 2 ^ 96 ∧ f = ⟨false, true, false, full⟩) :
    (coreStep i s.m).mem = memDst s i (some v) ∧
      CoreMoved i.core.val { olk s.m.hw i.core.val with pc := BitVec.ofNat 32 (pcNext s i), flags := f } s.m.hw (coreStep i s.m).hw := by
  have hatomic : isAtomic i.op = false := by rw [hop]; rfl
  have hsourced : i.op ∈ sourced := by rw [hop]; decide
  refine coreNext_gives e hn ?_
  rw [coreStep_effect_near e (sourced_ne_repi hsourced) hn, coreEffect]
  dsimp only
  rw [coreSpecial_sourced hsourced, hatomic, if_neg Bool.false_ne_true, if_pos hop, hx, hha, farSourced_nearOps hatomic hn]
  rcases hout with ⟨hfound, rfl⟩ | ⟨full, hmissing, rfl, rfl⟩
  · simp only [List.getD_cons_zero, List.getD_cons_succ, hfound]
    rfl
  · simp only [List.getD_cons_zero, List.getD_cons_succ, hmissing]
    rfl

end

/-- Settles O27: the result of an atomic waits (`coreStep_tas`, `coreStep_lr`, `coreStep_sc`); a PROBE in near memory ends as its search does
(`coreStep_probe`). -/
theorem coreAtomicsAndProbe : Obligations.CoreAtomicsAndProbe := by
  refine ⟨fun core hd s w o x a hx hnear => ⟨?tas, ?lr, ?sc⟩, ?probe⟩
  case tas =>
    intro i ⟨hr, hf, hall⟩ ha
    have hready : AtomicReady s i := ⟨ready_of_coreReady hr, rfl, hf, hall⟩
    obtain ⟨hmem, hmoved⟩ := coreStep_tas hready hx rfl hnear rfl ha
    refine answers_run (c := .tas core hd [.direct w o, x]) rfl hready.alive rfl (by rw [hmoved.blocks])
      ⟨?_, fun b hb => ?_, hmoved.coreAfter rfl⟩
    · exact (congrArg (rdMem · a 4) hmem).trans (rdMem_wrMem ..)
    · exact (congrArg (rdByte · b) hmem).trans (rdByte_wrMem_out _ _ _ _ b hb)
  case lr =>
    intro i ⟨hr, hf, hall⟩ ha
    have hready : AtomicReady s i := ⟨ready_of_coreReady hr, rfl, hf, hall⟩
    obtain ⟨hmem, hresv, hmoved⟩ := coreStep_lr hready hx rfl hnear rfl ha
    exact answers_run (c := .lr core hd [.direct w o, x]) rfl hready.alive rfl (by rw [hmoved.blocks])
      ⟨fun b => congrArg (rdByte · b) hmem, hresv, hmoved.coreAfter rfl⟩
  case sc =>
    intro i ⟨hr, hf, hall⟩ ha
    have hready : AtomicReady s i := ⟨ready_of_coreReady hr, rfl, hf, hall⟩
    obtain ⟨hmem, hresv, hmoved⟩ := coreStep_sc hready hx rfl hnear rfl ha
    refine answers_run (c := .sc core hd [x, .direct w o]) rfl hready.alive rfl (by rw [hmoved.blocks])
      ⟨hresv, ?_, hmoved.coreAfter rfl⟩
    rw [scStored] at hmem
    split
    case isTrue hholds =>
      rw [if_pos (decide_eq_true hholds), store_mem] at hmem
      exact ⟨(congrArg (rdMem · a 16) hmem).trans ((rdMem_wrMem ..).trans (Nat.mod_eq_of_lt (rdMem_lt ..))),
        fun b hb => (congrArg (rdByte · b) hmem).trans (rdByte_wrMem_out _ _ _ _ b hb)⟩
    case isFalse hno =>
      rw [if_neg fun h => hno (of_decide_eq_true h)] at hmem
      exact fun b => congrArg (rdByte · b) hmem
  case probe =>
    intro core hd specs s q k i hr hn hxs ha done
    have hready := ready_of_coreReady hr
    exact ⟨fun v hfound => answers_core (i := .probe core hd specs) rfl hready.alive
        (coreStep_probe hready hn rfl hxs rfl (.inl ⟨hfound, rfl⟩)),
      fun full hmissing => answers_core (i := .probe core hd specs) rfl hready.alive
        (coreStep_probe hready hn rfl hxs rfl (.inr ⟨full, hmissing, rfl, rfl⟩))⟩

end Sys2Proof.Machine

/-! ## Contexts: their records and what updates of them leave alone (R292 … R305) -/

namespace Sys2Proof.Machine

@[simp] theorem ctx_setCtx_same (h : Hw) (n : Nat) (r : Ctx) : ctx (setCtx h n r) n = r := by simp [ctx, setCtx, stopLevel]

theorem ctx_setCtx_ne {h : Hw} {n k : Nat} (r : Ctx) (hk : k ≠ n) : ctx (setCtx h n r) k = ctx h k := by
  simp [ctx, setCtx, stopLevel, smGet_smPut_ne _ _ _ hk]

@[simp] theorem olk_setCtx (h : Hw) (n : Nat) (r : Ctx) (c : Nat) : olk (setCtx h n r) c = olk h c := by simp [olk, setCtx, stopLevel]

theorem ctx_onlyOlk {h x : Hw} (e : OnlyOlk h x) (k : Nat) : ctx x k = ctx h k := by rw [e]; rfl

/-- ENTRY is the low word of DESC (R291). -/
theorem entry_desc (r : Ctx) : BitVec.ofNat 32 (descF r 0 32) = BitVec.ofNat 32 r.desc :=
  BitVec.eq_of_toNat_eq (by simp [descF])

theorem descF_bit (r : Ctx) (i : Nat) : descF r i 1 = 1 ↔ r.desc.testBit i = true := by
  simp [descF, Nat.testBit_eq_decide_div_mod_eq]

/-- From `h` to `h'` only the records of contexts and of cores change, and the level source STOP of the KEY page (R326). -/
structure TaskMoved (h h' : Hw) : Prop where
  blocks : h' = { h with regs := h'.regs, olk := h'.olk, ctxs := h'.ctxs }
  regs : ∀ a, a ≠ pg 0x30 0 + oRAW → a ≠ pg 0x30 0 + oSTAT → rdA h' a = rdA h a
  seen : ∀ m, m < 32 → evSeen h 0x30 0 m → evSeen h' 0x30 0 m

namespace TaskMoved

theorem refl (h : Hw) : TaskMoved h h := ⟨rfl, fun _ _ _ => rfl, fun _ _ hs => hs⟩

theorem ofCores {h x : Hw} (e : OnlyOlk h x) : TaskMoved h x := by
  rw [e]
  exact ⟨rfl, fun _ _ _ => rfl, fun _ _ hs => hs⟩

section
variable {h x y : Hw}

theorem trans (e : TaskMoved h x) (e' : TaskMoved x y) : TaskMoved h y where
  blocks := by rw [e'.blocks, e.blocks]
  regs a hraw hstat := (e'.regs a hraw hstat).trans (e.regs a hraw hstat)
  seen m hm hs := e'.seen m hm (e.seen m hm hs)

theorem setCtx (e : TaskMoved h x) (n : Nat) (r : Ctx) : TaskMoved h (setCtx x n r) := by
  refine e.trans ⟨?blocks, fun a hraw hstat => rdA_level_ne hraw hstat, fun m hm hs => evSeen_level_keeps hm hs⟩
  rw [Machine.setCtx, stopLevel_onlyRegs]

theorem setOlk (e : TaskMoved h x) (c : Nat) (r : Olk) : TaskMoved h (setOlk x c r) := e.trans (ofCores (setOlk_onlyOlk ..))

theorem ite {c : Prop} [Decidable c] (ex : TaskMoved h x) (ey : TaskMoved h y) : TaskMoved h (if c then x else y) := by
  split
  · exact ex
  · exact ey

theorem forN {f : Nat → Hw → Hw} {n : Nat} (e : TaskMoved h x) (hf : ∀ i y, TaskMoved y (f i y)) : TaskMoved h (forN n f x) :=
  forL_preserves (fun i _ y hy => hy.trans (hf i y)) e

theorem releaseWaits (e : TaskMoved h x) (n : Nat) : TaskMoved h (releaseWaits n x) :=
  e.forN fun _ y => ((refl y).setCtx ..).ite (refl y)

theorem endAct (e : TaskMoved h x) (n : Nat) (st : CtxSt) : TaskMoved h (endAct n st x) := (e.setCtx ..).releaseWaits n

theorem activate (e : TaskMoved h x) (n kind line : Nat) (waits : List Nat) : TaskMoved h (activate n kind line waits x) := e.setCtx ..

theorem nextAct (e : TaskMoved h x) (n : Nat) (kept : Option (Nat × Nat)) (more : Bool) : TaskMoved h (nextAct n kept more x) := by
  unfold Machine.nextAct
  dsimp only
  split
  · exact e.activate ..
  · exact e

theorem idleCauses (e : TaskMoved h x) (n : Nat) : TaskMoved h (idleCauses n x) := (e.nextAct ..).ite e

theorem freeCore (e : TaskMoved h x) (c : Nat) : TaskMoved h (freeCore c x) := e.setOlk ..

theorem cause (e : TaskMoved h x) (n kind line : Nat) (atB : Bool) : TaskMoved h (cause n kind line atB x) := by
  refine e.ite ?_
  split
  · exact e.activate ..
  · exact e
  · exact e
  · exact e.setCtx ..

theorem queueFed (e : TaskMoved h x) (q : Nat) : TaskMoved h (queueFed q x) := (e.cause ..).ite e

theorem tookPage (e : TaskMoved h x) (n p : Nat) : TaskMoved h (tookPage n p x) := (e.setCtx ..).ite e

theorem pwr (e : TaskMoved h x) : x.pwr = h.pwr := by rw [e.blocks]

theorem cfg (e : TaskMoved h x) (ty i off : Nat) : cfg x ty i off = Machine.cfg h ty i off := by rw [e.blocks]; rfl

theorem domOn (e : TaskMoved h x) (d : Nat) : domOn x d = Machine.domOn h d := by rw [e.blocks]; rfl

theorem recBase (e : TaskMoved h x) (n : Nat) : recBase x n = Machine.recBase h n := by rw [e.blocks]; rfl

theorem linesOfCtx (e : TaskMoved h x) (n : Nat) : linesOfCtx x n = Machine.linesOfCtx h n := by rw [e.blocks]; rfl

theorem queuesOf (e : TaskMoved h x) (n : Nat) : queuesOf x n = Machine.queuesOf h n := by rw [e.blocks]; rfl

theorem rd (e : TaskMoved h x) {off : Nat} (hraw : off ≠ oRAW) (hstat : off ≠ oSTAT) : rd x 0x30 0 off = Machine.rd h 0x30 0 off :=
  e.regs _ (by omega) (by omega)

end

end TaskMoved

/-! ### Successors, and the end of an activation (R298, R304, R305) -/

/-- The record of a context after the end of the activation of context `n`, which it may have waited for (R298). -/
def released (n : Nat) (r : Ctx) : Ctx :=
  if r.waits.contains n then
    let w := r.waits.filter (fun p => decide (p ≠ n))
    { r with waits := w, st := if r.st = .held ∧ w.isEmpty = true then .ready else r.st }
  else r

theorem waits_released (n : Nat) (r : Ctx) : (released n r).waits = r.waits.filter (fun p => decide (p ≠ n)) := by
  unfold released
  split
  case isTrue => rfl
  case isFalse hno =>
    refine (List.filter_eq_self.2 fun p hp => ?_).symm
    have hne : p ≠ n := fun he => hno (he ▸ List.contains_iff_mem.2 hp)
    exact decide_eq_true hne

/-- Context `k` no longer waits for context `n`. -/
def releaseOne (n k : Nat) (x : Hw) : Hw := if (ctx x k).waits.contains n then setCtx x k (released n (ctx x k)) else x

theorem releaseWaits_eq (n : Nat) (h : Hw) : releaseWaits n h = forN 256 (releaseOne n) h := by
  have hstep : releaseOne n = fun k x =>
      if (ctx x k).waits.contains n then
        let w := (ctx x k).waits.filter (fun p => decide (p ≠ n))
        setCtx x k { ctx x k with waits := w, st := if (ctx x k).st = .held ∧ w.isEmpty = true then .ready else (ctx x k).st }
      else x := by
    funext k x
    unfold releaseOne released
    split <;> rfl
  rw [hstep]
  rfl

theorem ctx_releaseOne_same (n k : Nat) (x : Hw) : ctx (releaseOne n k x) k = released n (ctx x k) := by
  unfold releaseOne
  split
  case isTrue => exact ctx_setCtx_same ..
  case isFalse hno => exact (if_neg hno).symm

theorem ctx_releaseOne_ne {n j k : Nat} (hk : k ≠ j) (x : Hw) : ctx (releaseOne n j x) k = ctx x k := by
  unfold releaseOne
  split
  · exact ctx_setCtx_ne _ hk
  · rfl

theorem ctx_releaseWaits {k : Nat} (hk : k < 256) (n : Nat) (h : Hw) : ctx (releaseWaits n h) k = released n (ctx h k) := by
  rw [releaseWaits_eq]
  obtain ⟨x, -, hx, hlast⟩ := forN_reaches (p := (ctx · k)) (q := fun _ => True) (f := releaseOne n) (h := h) hk (fun _ _ hq => hq)
    (fun j _ hj x => ctx_releaseOne_ne (Ne.symm hj) x) trivial
  exact hlast.trans ((ctx_releaseOne_same n k x).trans (congrArg (released n) hx))

theorem ctx_releaseWaits_keeps {n k : Nat} {h : Hw} (hno : n ∉ (ctx h k).waits) : ctx (releaseWaits n h) k = ctx h k := by
  rw [releaseWaits_eq]
  refine forL_preserves (p := fun x => ctx x k = ctx h k) (fun j _ x hx => ?_) rfl
  by_cases hk : k = j
  · subst hk
    rw [ctx_releaseOne_same, hx, released, if_neg fun hmem => hno (List.contains_iff_mem.1 hmem)]
  · exact (ctx_releaseOne_ne hk x).trans hx

/-- The record of a context whose activation ended in state `st`. -/
def ended (st : CtxSt) (r : Ctx) : Ctx := { r with st := st, pc := BitVec.ofNat 32 r.desc, waits := [], kept := none }

theorem endAct_eq (n : Nat) (st : CtxSt) (h : Hw) : endAct n st h = releaseWaits n (setCtx h n (ended st (ctx h n))) := by
  rw [endAct, entry_desc]
  rfl

theorem ctx_endAct_same (n : Nat) (st : CtxSt) (h : Hw) : ctx (endAct n st h) n = ended st (ctx h n) := by
  rw [endAct_eq, ctx_releaseWaits_keeps (by rw [ctx_setCtx_same]; exact List.not_mem_nil), ctx_setCtx_same]

theorem waits_endAct {n k : Nat} (hk : k < 256) (hne : k ≠ n) (st : CtxSt) (h : Hw) :
    (ctx (endAct n st h) k).waits = (ctx h k).waits.filter (fun p => decide (p ≠ n)) := by
  rw [endAct_eq, ctx_releaseWaits hk, waits_released, ctx_setCtx_ne _ hne]

/-- A context that no line targets and that consumes no queue has no cause but one that was kept (R296). -/
theorem nextAct_quiet {n : Nat} {h : Hw} (hl : linesOfCtx h n = []) (hq : queuesOf h n = []) : nextAct n none false h = h := by
  have hline : lineCause h n = none := by rw [lineCause, hl]; rfl
  have hqueue : queueCause h n h.frame = false := by simp [queueCause, hq]
  simp [nextAct, hline, hqueue]

theorem idleCauses_quiet {n : Nat} {h : Hw} (hl : linesOfCtx h n = []) (hq : queuesOf h n = []) : idleCauses n h = h := by
  rw [idleCauses, nextAct_quiet hl hq, ite_self]

/-! ### A task leaves its core (R294, R303) -/

@[simp] theorem storeBytes_hw (a : Nat) (l : List Byte) (m : Mach) : (storeBytes a l m).hw = clearResv a l.length m.hw := by rw [storeBytes]
@[simp] theorem storeBytes_mem (a : Nat) (l : List Byte) (m : Mach) : (storeBytes a l m).mem = wrBytes m.mem a l := by rw [storeBytes]

theorem store_onlyOlk (a n v : Nat) (m : Mach) : OnlyOlk m.hw (store a n v m).hw := by
  rw [store_hw]
  exact clearResv_onlyOlk ..

theorem storeBytes_onlyOlk (a : Nat) (l : List Byte) (m : Mach) : OnlyOlk m.hw (storeBytes a l m).hw := by
  rw [storeBytes_hw]
  exact clearResv_onlyOlk ..

theorem landAll_onlyOlk (c : Nat) (m : Mach) : OnlyOlk m.hw (landAll c m).hw := by
  have hone (e : Late) (x : Mach) : OnlyOlk x.hw (landOne c e x).hw := by
    have hbytes : OnlyOlk x.hw (if e.size = 0 then x else store e.addr e.size e.data x).hw := by
      split
      · rfl
      · exact store_onlyOlk ..
    unfold landOne
    dsimp only
    split
    · exact hbytes.trans (setOlk_onlyOlk ..)
    · exact hbytes
  have hlist (l : List Late) (x : Mach) : OnlyOlk x.hw (landList c l x).hw := by
    induction l generalizing x with
    | nil => rfl
    | cons e l ih => exact (hone e x).trans (ih _)
  exact OnlyOlk.trans (setOlk_onlyOlk m.hw c _) (hlist _ (m.onHw fun h => setOlk h c _))

theorem storeProds_onlyOlk (base : Nat) (p : List (Nat × BitVec 256)) (l : List Nat) (m : Mach) : OnlyOlk m.hw (storeProds base p l m).hw := by
  induction l generalizing m with
  | nil => rfl
  | cons k l ih => exact (store_onlyOlk ..).trans (ih _)

theorem storeOut_onlyOlk (n c : Nat) (pc : Word) (fl : Flags) (m : Mach) : OnlyOlk m.hw (storeOut n c pc fl m).hw :=
  (storeBytes_onlyOlk ..).trans ((storeProds_onlyOlk ..).trans ((store_onlyOlk ..).trans (store_onlyOlk ..)))

/-- The state of context `n` after core `c` held it: what was pending landed and the record is stored (R294). -/
def removal (n c : Nat) (m : Mach) : Mach :=
  let m1 := landAll c m
  storeOut n c (taskPoint (olk m1.hw c)).1 (taskPoint (olk m1.hw c)).2 m1

/-- The pc at which a removed task stopped. -/
def stopPc (c : Nat) (m : Mach) : Word := (taskPoint (olk (landAll c m).hw c)).1

/-- A core loses its context: it becomes free unless supervisor code runs on it (R294). -/
def leaveCore (c : Nat) (sup : Bool) (h : Hw) : Hw := if sup then setOlk h c { olk h c with ctx := none, resv := none } else freeCore c h

theorem leaveCore_onlyOlk (c : Nat) (sup : Bool) (h : Hw) : OnlyOlk h (leaveCore c sup h) := by
  unfold leaveCore
  split <;> exact setOlk_onlyOlk ..

section
variable {n c : Nat} {m : Mach}

theorem removal_onlyOlk : OnlyOlk m.hw (removal n c m).hw := (landAll_onlyOlk c m).trans (storeOut_onlyOlk ..)

theorem removeFrom_eq : removeFrom n c m = (removal n c m).onHw (fun h =>
    leaveCore c (olk (landAll c m).hw c).sup (setCtx h n { ctx h n with pc := stopPc c m })) := rfl

theorem removeFrom_moved : TaskMoved m.hw (removeFrom n c m).hw :=
  ((TaskMoved.ofCores removal_onlyOlk).setCtx ..).trans (.ofCores (leaveCore_onlyOlk ..))

theorem ctx_removeFrom_same : ctx (removeFrom n c m).hw n = { ctx m.hw n with pc := stopPc c m } := by
  rw [removeFrom_eq, Mach.onHw_hw, ctx_onlyOlk (leaveCore_onlyOlk ..), ctx_setCtx_same, ctx_onlyOlk removal_onlyOlk]

theorem ctx_removeFrom_ne {k : Nat} (hk : k ≠ n) : ctx (removeFrom n c m).hw k = ctx m.hw k := by
  rw [removeFrom_eq, Mach.onHw_hw, ctx_onlyOlk (leaveCore_onlyOlk ..), ctx_setCtx_ne _ hk, ctx_onlyOlk removal_onlyOlk]

end

/-- A context that is taken off its core keeps its record but for the pc. -/
theorem removeCtx_moved (n : Nat) (m : Mach) : TaskMoved m.hw (removeCtx n m).hw := by
  unfold removeCtx
  split
  · exact removeFrom_moved
  · exact .refl _

theorem ctx_removeCtx (n : Nat) (m : Mach) : ∃ pc, ctx (removeCtx n m).hw n = { ctx m.hw n with pc := pc } := by
  unfold removeCtx
  split
  · exact ⟨_, ctx_removeFrom_same⟩
  · exact ⟨(ctx m.hw n).pc, rfl⟩

theorem removeCtx_of_not_running {n : Nat} {m : Mach} (hst : (ctx m.hw n).st ≠ .running) : removeCtx n m = m := by
  simp [removeCtx, onCore, hst]

end Sys2Proof.Machine

/-! ## The byte memory: reads within a write (R228) -/

namespace Sys2Proof.Machine

/-- A write is a write of its first bytes and one of the others. -/
theorem wrMem_add (m : Mem) (a j n v : Nat) : wrMem m a (j + n) v = wrMem (wrMem m a j v) (a + j) n (v / 256 ^ j) := by
  induction j generalizing m a v with
  | zero => simp [wrMem]
  | succ j ih =>
    rw [Nat.add_right_comm, wrMem, ih, wrMem, pow_succ, mul_comm, Nat.div_div_eq_div_mul, Nat.add_right_comm, Nat.add_assoc a]

/-- A read of bytes within a write gives their part of the value. -/
theorem rdMem_wrMem_part (m : Mem) (a v : Nat) {n j k : Nat} (h : j + k ≤ n) : rdMem (wrMem m a n v) (a + j) k = v / 256 ^ j % 256 ^ k := by
  obtain ⟨r, rfl⟩ := Nat.exists_eq_add_of_le h
  rw [Nat.add_assoc, wrMem_add, wrMem_add, rdMem_wrMem_out _ _ _ _ _ _ (.inl le_rfl), rdMem_wrMem]

theorem rdByte_wrBytes {m : Mem} {a i : Nat} {l : List Byte} (hi : i < l.length) : rdByte (wrBytes m a l) (a + i) = l[i] := by
  induction l generalizing m a i with
  | nil => exact absurd hi (Nat.not_lt_zero i)
  | cons b l ih =>
    cases i with
    | zero => rw [wrBytes, rdByte_wrBytes_out _ _ _ _ (.inl (by omega))]; exact rdByte_wrByte_same ..
    | succ i => rw [wrBytes, ← Nat.add_assoc, Nat.add_right_comm, ih (Nat.lt_of_succ_lt_succ hi)]; rfl

@[simp] theorem length_rdBytes (m : Mem) (a n : Nat) : (rdBytes m a n).length = n := by simp [rdBytes]

/-- A copy of `n` bytes reads as its source did. -/
theorem rdByte_copy {m m' : Mem} {a b n i : Nat} (hi : i < n) : rdByte (wrBytes m a (rdBytes m' b n)) (a + i) = rdByte m' (b + i) := by
  rw [rdByte_wrBytes (by simpa using hi)]
  simp [rdBytes]

end Sys2Proof.Machine

/-! ## CTX_CMD (R291 … R293, R296, R305, R326) -/

namespace Sys2Proof.Machine

/-! ### The command word -/

/-- The word of CTX_CMD with operation `op` for context `n`. -/
def ctxWord (op : Nat) (n : Byte) : Word := BitVec.ofNat 32 (op * 0x10000000 + n.toNat)

theorem fld_ctxWord_op {op : Nat} (hop : op < 16) (n : Byte) : fld (ctxWord op n) 28 4 = op := by
  have := n.isLt
  rw [fld, ctxWord, BitVec.toNat_ofNat, Nat.shiftRight_eq_div_pow]
  omega

theorem fld_ctxWord_ctx (op : Nat) (n : Byte) : fld (ctxWord op n) 0 8 = n.toNat := by
  have := n.isLt
  rw [fld, ctxWord, BitVec.toNat_ofNat, Nat.shiftRight_eq_div_pow]
  omega

/-- A command that writes a register whose write changes the module, but not the sequencer, makes that change. -/
theorem exec_write {c : Instr} {s : State} {ini : Initiator} {ty i off : Nat} {w : Word} {m : Mach}
    (hx : exec c s = .next (s.run (pageCmd ini ty i off w))) (hw : s.writes ini ty i off = true)
    (ha : pageAct ini ty i off w s.m = some m) (hp : m.hw.pwr = s.m.hw.pwr)
    (ht : ty < 0x100 := by decide) (hi : i < 0x100 := by decide) (ho : off < 0x1000 := by decide) (h4 : off % 4 = 0 := by decide)
    (hf : (findReg ty i off).isSome = true := by rfl) : exec c s = .next { s with m := m } := by
  rw [hx, run_write_act hw ht hi ho h4 hf ha, proceed_same (congrArg Pwr.cur hp)]

section
variable {c : Instr} {s : State} {ini : Initiator} {op : Nat} {n : Byte}

theorem exec_ctxCmd {m : Mach} (hx : exec c s = .next (s.run (pageCmd ini 0x30 0 0x040 (ctxWord op n)))) (hw : s.writes ini 0x30 0 0x040 = true)
    (hc : ctxCmd ini (ctxWord op n) s.m = m) (hp : m.hw.pwr = s.m.hw.pwr) : exec c s = .next { s with m := m } :=
  exec_write hx hw (congrArg some hc) hp

theorem gives_ctxCmd {f : Hw → Hw} (hx : exec c s = .next (s.run (pageCmd ini 0x30 0 0x040 (ctxWord op n))))
    (hw : s.writes ini 0x30 0 0x040 = true) (hc : ctxCmd ini (ctxWord op n) s.m = s.m.onHw f) (hp : (f s.m.hw).pwr = s.m.hw.pwr) :
    Gives c s f := exec_ctxCmd hx hw hc hp

end

section
variable {ini : Initiator} {m : Mach} (n : Byte)

/-- From task mode only ACTIVATE is taken; reserved operations are refused (R326). -/
theorem ctxCmd_refused {op : Nat} (hop : op < 16) (hbad : op = 0 ∨ 4 < op ∨ ((taskCtx m.hw ini).isSome = true ∧ op ≠ 3)) :
    ctxCmd ini (ctxWord op n) m = m.onHw (fun h => err h 0x30 0 16) := by
  rw [ctxCmd, fld_ctxWord_op hop]
  exact if_pos hbad

theorem ctxCmd_activate : ctxCmd ini (ctxWord 3 n) m = m.onHw (ctxActivate n.toNat) := by
  simp [ctxCmd, fld_ctxWord_op, fld_ctxWord_ctx]

variable (hsup : taskCtx m.hw ini = none)
include hsup

theorem ctxCmd_enable : ctxCmd ini (ctxWord 1 n) m = ctxEnable n.toNat m := by simp [ctxCmd, fld_ctxWord_op, fld_ctxWord_ctx, hsup]
theorem ctxCmd_disable : ctxCmd ini (ctxWord 2 n) m = ctxDisable n.toNat m := by simp [ctxCmd, fld_ctxWord_op, fld_ctxWord_ctx, hsup]
theorem ctxCmd_abort : ctxCmd ini (ctxWord 4 n) m = ctxAbort n.toNat m := by simp [ctxCmd, fld_ctxWord_op, fld_ctxWord_ctx, hsup]

end

/-! ### ENABLE (R293) -/

/-- A DESC `d` with the GRANTs `g` that ENABLE accepts (R291, R293). -/
def RecordSound (d : Nat) (g : Nat → Nat) : Prop :=
  d / 2 ^ 64 % 2 ^ 6 ≤ 59 ∧ d / 2 ^ 40 % 2 ^ 12 ≠ 0 ∧ d % 2 = 0 ∧ d / 2 ^ 60 % 2 ^ 4 = 0 ∧ d / 2 ^ 70 % 2 ^ 2 = 0 ∧ d / 2 ^ 122 % 2 ^ 6 = 0 ∧
    ∀ j, j < 8 → ¬ (1 ≤ g j / 2 ^ 32 % 64 ∧ g j / 2 ^ 32 % 64 ≤ 3) ∧ g j / 2 ^ 38 % 4 = 0 ∧ g j / 2 ^ 43 = 0

/-- The record of a context that ENABLE loads over `r`: DESC `d`, RELFRAME `rel` and the GRANTs `g`. -/
def enabled (r : Ctx) (d rel : Nat) (g : Nat → Nat) : Ctx :=
  { desc := d, pc := BitVec.ofNat 32 d, st := .idle, act := r.act, ovrAt := r.ovrAt, deadline := r.deadline, dlFrame := r.dlFrame, rel := rel
    grants := (List.range 8).map fun j => grantOf (g j) }

theorem grantBad_eq_false {w : Nat} : grantBad w = false ↔
    ¬ (1 ≤ w / 2 ^ 32 % 64 ∧ w / 2 ^ 32 % 64 ≤ 3) ∧ w / 2 ^ 38 % 4 = 0 ∧ w / 2 ^ 43 = 0 := by
  simp only [grantBad, Bool.or_eq_false_iff, decide_eq_false_iff_not, not_not, and_assoc]

/-- What ENABLE refuses a record for (R293). -/
theorem not_recordSound (r : Ctx) (g : Nat → Nat) : ¬ RecordSound r.desc g ↔
    59 < descF r 64 6 ∨ descF r 40 12 = 0 ∨ r.desc.testBit 0 = true ∨ ((List.range 8).map g).any grantBad = true ∨ descF r 60 4 ≠ 0 ∨
      descF r 70 2 ≠ 0 ∨ descF r 122 6 ≠ 0 := by
  have hgrants : ((List.range 8).map g).any grantBad = true ↔ ¬ ∀ j, j < 8 → grantBad (g j) = false := by simp
  have hbit : r.desc.testBit 0 = true ↔ ¬ r.desc % 2 = 0 := by
    rw [Nat.testBit_zero, decide_eq_true_eq]
    exact Nat.mod_two_ne_zero.symm
  rw [RecordSound, hgrants, hbit, ← Nat.not_le]
  simp only [← grantBad_eq_false]
  simp only [not_and_or, not_not, descF, ne_eq]
  tauto

/-- DESC, RELFRAME and the GRANTs as the record of context `n` holds them. -/
def recDesc (n : Nat) (m : Mach) : Nat := rdMem m.mem (recBase m.hw n + 0x4A0) 16
def recRel (n : Nat) (m : Mach) : Nat := rdMem m.mem (recBase m.hw n + 0x490) 8
def recGrant (n : Nat) (m : Mach) (j : Nat) : Nat := rdMem m.mem (recBase m.hw n + 0x4C0 + 8 * j) 8

/-- The record of context `n` as ENABLE loads it. -/
def recLoaded (n : Nat) (m : Mach) : Ctx := enabled (ctx m.hw n) (recDesc n m) (recRel n m) (recGrant n m)

section
variable {n : Nat} {m : Mach}

theorem ctxEnable_taken (hst : (ctx m.hw n).st ≠ .disabled) : ctxEnable n m = m.onHw (fun h => err h 0x30 0 16) := if_pos hst

variable (hdis : (ctx m.hw n).st = .disabled)
include hdis

theorem ctxEnable_outside (hout : ¬ (0x20000000 ≤ recBase m.hw n ∧ recBase m.hw n + 0x500 ≤ 0x20200000)) :
    ctxEnable n m = m.onHw (fun h => err h 0x30 0 18) := by
  unfold ctxEnable
  dsimp only
  rw [if_neg (not_not.2 hdis), if_pos (by omega)]

variable (hin : 0x20000000 ≤ recBase m.hw n ∧ recBase m.hw n + 0x500 ≤ 0x20200000)
include hin

/-- ENABLE of a disabled context whose record lies in shared SRAM: the checks of R293 in their order. -/
theorem ctxEnable_inside : ctxEnable n m =
    if 59 < descF (recLoaded n m) 64 6 ∨ descF (recLoaded n m) 40 12 = 0 ∨ (recLoaded n m).desc.testBit 0 = true ∨
        ((List.range 8).map (recGrant n m)).any grantBad = true ∨ descF (recLoaded n m) 60 4 ≠ 0 ∨ descF (recLoaded n m) 70 2 ≠ 0 ∨
        descF (recLoaded n m) 122 6 ≠ 0 then m.onHw (fun h => err h 0x30 0 19)
    else if slotClash m.hw n (descF (recLoaded n m) 52 8) (descF (recLoaded n m) 40 12) then m.onHw (fun h => err h 0x30 0 17)
    else m.onHw (fun h => idleCauses n (setCtx h n (recLoaded n m))) := by
  have hgrants : ((List.range 8).map (recGrant n m)).map grantOf = (recLoaded n m).grants := List.map_map
  have hload : recLoaded n m = { enabled (ctx m.hw n) (recDesc n m) (recRel n m) (recGrant n m) with
      grants := ((List.range 8).map (recGrant n m)).map grantOf } := by rw [hgrants]; rfl
  rw [hload]
  unfold ctxEnable
  dsimp only
  rw [if_neg (not_not.2 hdis), if_neg (by omega)]
  rfl

theorem ctxEnable_unsound (hbad : ¬ RecordSound (recDesc n m) (recGrant n m)) : ctxEnable n m = m.onHw (fun h => err h 0x30 0 19) := by
  rw [ctxEnable_inside hdis hin, if_pos ((not_recordSound (recLoaded n m) _).1 hbad)]

theorem ctxEnable_sound (hok : RecordSound (recDesc n m) (recGrant n m)) : ctxEnable n m =
    if slotClash m.hw n (recDesc n m / 2 ^ 52 % 2 ^ 8) (recDesc n m / 2 ^ 40 % 2 ^ 12) then m.onHw (fun h => err h 0x30 0 17)
    else m.onHw (fun h => idleCauses n (setCtx h n (recLoaded n m))) := by
  rw [ctxEnable_inside hdis hin, if_neg fun hbad => (not_recordSound (recLoaded n m) _).2 hbad hok]
  rfl

end

/-! ### ACTIVATE (R296, R297, R306) -/

/-- A cause begins an activation of a context that is IDLE (R296). -/
theorem cause_idle {n kind line : Nat} {h : Hw} (hon : domOn h 18 = true) (hdet : detOn h (ctx h n) = false) (hst : (ctx h n).st = .idle) :
    cause n kind line false h = activate n kind line [] h := by simp [cause, hon, hdet, hst]

/-- A cause of a context in its activation is kept (R299). -/
theorem cause_active {n kind line : Nat} {h : Hw} (hon : domOn h 18 = true) (hdet : detOn h (ctx h n) = false)
    (hact : active (ctx h n) = true) :
    cause n kind line false h = setCtx h n { ctx h n with kept := some (keepCause (ctx h n).kept (kind, line)) } := by
  simp only [active, Bool.or_eq_true, decide_eq_true_eq] at hact
  rcases hact with (hst | hst) | hst <;> simp [cause, hon, hdet, hst]

theorem ctx_activate_ne {n k : Nat} (kind line : Nat) (waits : List Nat) {h : Hw} (hk : k ≠ n) : ctx (activate n kind line waits h) k = ctx h k :=
  ctx_setCtx_ne _ hk

/-- The record of a context whose activation begins and waits for no other (R296, R297, R306). -/
def begun (kind line : Nat) (h : Hw) (r : Ctx) : Ctx :=
  { r with
    st := .ready, act := (r.act + 1) % 256, pc := BitVec.ofNat 32 r.desc, rel := h.frame, kind := kind, line := line, waits := []
    begun := false, got := [], more := false, deadline := deadlineOf h r kind, dlFrame := h.frame + 1, late := false }

theorem ctx_activate_same (n kind line : Nat) (h : Hw) : ctx (activate n kind line [] h) n = begun kind line h (ctx h n) := by
  refine (ctx_setCtx_same ..).trans ?_
  rw [entry_desc]
  rfl

theorem deadlineOf_now {h : Hw} {r : Ctx} {kind : Nat} (hk : kind ≠ 0) (hnew : r.dlFrame ≠ h.frame + 1) :
    deadlineOf h r kind = if r.desc / 2 ^ 88 % 2 ^ 16 = 0 then none else some (h.timebase + r.desc / 2 ^ 88 % 2 ^ 16) := by
  rw [deadlineOf, if_neg hnew, if_neg hk]
  rfl

/-! ### ABORT and DISABLE of a context that is on no core (R292, R305, R322) -/

theorem ctxAbort_idle {n : Nat} {m : Mach} (hact : active (ctx m.hw n) = false) : ctxAbort n m = m := by simp [ctxAbort, hact]

theorem ctxAbort_waiting {n : Nat} {m : Mach} (hact : active (ctx m.hw n) = true) (hst : (ctx m.hw n).st ≠ .running) :
    ctxAbort n m = m.onHw (fun h => idleCauses n (endAct n .idle h)) := by
  rw [ctxAbort, hact, if_pos rfl, removeCtx_of_not_running hst]

/-- The record of a context that is disabled: what R307 and CTX_STAT count of the frame stays. -/
def disabled (r : Ctx) : Ctx := { act := r.act, ovrAt := r.ovrAt, deadline := r.deadline, dlFrame := r.dlFrame }

/-- The blocks after DISABLE of context `n` (R305, R322). -/
def disableCtx (n : Nat) (h : Hw) : Hw := freeOwned (.ctx n) (setCtx (endAct n .disabled h) n (disabled (ctx h n)))

theorem ctxDisable_waiting {n : Nat} {m : Mach} (hdis : (ctx m.hw n).st ≠ .disabled) (hst : (ctx m.hw n).st ≠ .running) :
    ctxDisable n m = (storeIdle n m).onHw (disableCtx n) := by
  have hno : onCore m.hw n = false := by simp [onCore, hst]
  rw [ctxDisable, if_neg hdis, hno, if_neg Bool.false_ne_true]
  rfl

theorem storeIdle_onlyOlk (n : Nat) (m : Mach) : OnlyOlk m.hw (storeIdle n m).hw := (store_onlyOlk ..).trans (store_onlyOlk ..)

theorem mem_storeIdle (n : Nat) (m : Mach) : (storeIdle n m).mem = wrMem (wrMem m.mem (recBase m.hw n + 0x480) 16
    (rdMem m.mem (recBase m.hw n + 0x484) 1 % 16 * 2 ^ 32 + (ctx m.hw n).pc.toNat)) (recBase m.hw n + 0x490) 16 (ctx m.hw n).rel := by
  rw [storeIdle, store_mem, store_mem]

section
variable (n : Nat) (h : Hw)

theorem ctx_freeOwned (own : Owner) (k : Nat) : ctx (freeOwned own h) k = ctx h k := by simp [ctx, freeOwned, msgLevels]
theorem pages_freeOwned (own : Owner) : (freeOwned own h).pages = h.pages.filter (fun e => decide (e.2.own ≠ own)) := by
  simp [freeOwned, msgLevels]

theorem disabling_moved : TaskMoved h (setCtx (endAct n .disabled h) n (disabled (ctx h n))) := ((TaskMoved.refl h).endAct ..).setCtx ..

theorem pages_disableCtx : (disableCtx n h).pages = h.pages.filter (fun e => decide (e.2.own ≠ .ctx n)) := by
  rw [disableCtx, pages_freeOwned, (disabling_moved n h).blocks]

theorem pwr_disableCtx : (disableCtx n h).pwr = h.pwr := by
  have hkeep : (disableCtx n h).pwr = (setCtx (endAct n .disabled h) n (disabled (ctx h n))).pwr := by simp [disableCtx, freeOwned, msgLevels]
  exact hkeep.trans (disabling_moved n h).pwr

theorem ctx_disableCtx_same : ctx (disableCtx n h) n = disabled (ctx h n) := by rw [disableCtx, ctx_freeOwned, ctx_setCtx_same]

theorem waits_disableCtx {k : Nat} (hk : k < 256) (hne : k ≠ n) :
    (ctx (disableCtx n h) k).waits = (ctx h k).waits.filter (fun p => decide (p ≠ n)) := by
  rw [disableCtx, ctx_freeOwned, ctx_setCtx_ne _ hne, waits_endAct hk hne]

end

end Sys2Proof.Machine

/-! ## Deadlines (R306, R307, R312) -/

namespace Sys2Proof.Machine

/-- The record `r` of a context that ran past its deadline (R307). -/
def overdue (h : Hw) (r : Ctx) : Ctx := { r with late := true, ovrAt := some h.frame }

/-- The overrun of context `n` is counted and source 0 pulses (R307). -/
def overrunCount (n : Nat) (h : Hw) : Hw :=
  pulse (incSat (setCtx h n (overdue h (ctx h n))) 0x30 0 0x060 0 16 1) 0x30 0 0

/-- The marks of the frame after an overrun of context `n`, which is deterministic where `det` (R312). -/
def overrunKey (n : Nat) (det : Bool) (k : KeyG) : KeyG :=
  if det then { k with ovr := true, first := match k.first with | some j => some j | none => some n } else k

/-- The blocks once the overrun of context `n` is counted and marked. -/
def overrunMark (n : Nat) (h : Hw) : Hw := { overrunCount n h with key := overrunKey n (detOn h (ctx h n)) h.key }

section
variable (n : Nat) (h : Hw)

theorem overrunSet_moved : TaskMoved h (setCtx h n (overdue h (ctx h n))) := (TaskMoved.refl h).setCtx ..

theorem overrunCount_onlyRegs : OnlyRegs (setCtx h n (overdue h (ctx h n))) (overrunCount n h) :=
  OnlyRegs.pulse (OnlyRegs.wr (OnlyRegs.refl _))

/-- Beside the marks of the frame, the count and the pulse change registers and the context's record alone. -/
theorem overrunMark_blocks : overrunMark n h =
    { h with regs := (overrunMark n h).regs, olk := (overrunMark n h).olk, ctxs := (overrunMark n h).ctxs, key := (overrunMark n h).key } := by
  have hcount := overrunCount_onlyRegs n h
  rw [(overrunSet_moved n h).blocks] at hcount
  rw [overrunMark, hcount]

theorem ctx_overrunMark : ctx (overrunMark n h) n = overdue h (ctx h n) := by
  have hcount : ctx (overrunMark n h) n = ctx (overrunCount n h) n := rfl
  rw [hcount, overrunCount_onlyRegs]
  exact ctx_setCtx_same ..

theorem fld_ovrCnt_overrunMark : fld (rd (overrunMark n h) 0x30 0 0x060) 0 16 = min 0xFFFF (fld (rd h 0x30 0 0x060) 0 16 + 1) := by
  have hcnt : rd (overrunMark n h) 0x30 0 0x060 = rd (overrunCount n h) 0x30 0 0x060 := rfl
  rw [hcnt, overrunCount, rd_pulse_off _ _ _ _ (by decide), incSat, rd_wrF_same, fld_setFld_same _ _ (by decide),
    (overrunSet_moved n h).rd (by decide) (by decide)]
  omega

theorem evSeen_overrunMark : evSeen (overrunMark n h) 0x30 0 0 := by
  have hcount : evSeen (overrunCount n h) 0x30 0 0 := evSeen_pulse (by decide)
  exact hcount

theorem ovr_overrunMark : (overrunMark n h).key.ovr = (h.key.ovr || detOn h (ctx h n)) := by
  simp only [overrunMark, overrunKey]
  split
  case isTrue hdet => rw [hdet, Bool.or_true]
  case isFalse hdet => rw [Bool.eq_false_iff.2 hdet, Bool.or_false]

end

section
variable {n : Nat} {m : Mach} (hact : active (ctx m.hw n) = true) (hdl : (ctx m.hw n).deadline.isSome = true) (hlate : (ctx m.hw n).late = false)
include hact hdl hlate

/-- An overrun is counted and marked, and the context goes on, is aborted, or stops (R307). -/
theorem overrun_eq : overrun n m = match descF (ctx m.hw n) 38 2 with
    | 0 => m.onHw (overrunMark n)
    | 1 => ctxAbort n (m.onHw (overrunMark n))
    | _ => (removeCtx n (m.onHw (overrunMark n))).onHw (fun h => setCtx h n { ctx h n with st := .stopped, kept := none }) := by
  have hdet : detOn (overrunCount n m.hw) (ctx m.hw n) = detOn m.hw (ctx m.hw n) := by
    rw [overrunCount_onlyRegs, (overrunSet_moved n m.hw).blocks]
    rfl
  have hkey : (overrunCount n m.hw).key = m.hw.key := by rw [overrunCount_onlyRegs, (overrunSet_moved n m.hw).blocks]
  have hmark : overrunMark n m.hw = if detOn (overrunCount n m.hw) (ctx m.hw n) then
      { overrunCount n m.hw with key := { (overrunCount n m.hw).key with ovr := true, first :=
          match (overrunCount n m.hw).key.first with | some k => some k | none => some n } }
      else overrunCount n m.hw := by
    rw [overrunMark, hdet, ← hkey, overrunKey]
    split <;> rfl
  have hm : m.onHw (overrunMark n) = m.onHw (fun _ => overrunMark n m.hw) := rfl
  rw [overrun, hact, hdl, hlate, hm, hmark]
  rfl

theorem overrun_moved : TaskMoved (overrunMark n m.hw) (overrun n m).hw := by
  have hremoved : TaskMoved (overrunMark n m.hw) (removeCtx n (m.onHw (overrunMark n))).hw := removeCtx_moved n (m.onHw (overrunMark n))
  rw [overrun_eq hact hdl hlate]
  split
  · exact .refl _
  · unfold ctxAbort
    split
    · rw [Mach.onHw_hw]
      exact (hremoved.endAct ..).idleCauses n
    · exact .refl _
  · rw [Mach.onHw_hw]
    exact hremoved.setCtx ..

theorem ctx_overrun (hquiet : descF (ctx m.hw n) 38 2 = 1 → linesOfCtx m.hw n = [] ∧ queuesOf m.hw n = []) :
    (ctx (overrun n m).hw n).st = (if descF (ctx m.hw n) 38 2 = 0 then (ctx m.hw n).st
      else if descF (ctx m.hw n) 38 2 = 1 then .idle else .stopped) ∧ (ctx (overrun n m).hw n).late = true := by
  have hmark := ctx_overrunMark n m.hw
  obtain ⟨pc, hremoved⟩ := ctx_removeCtx n (m.onHw (overrunMark n))
  rw [overrun_eq hact hdl hlate]
  split
  case h_1 ha =>
    rw [ha, if_pos rfl, Mach.onHw_hw, hmark]
    exact ⟨rfl, rfl⟩
  case h_2 ha =>
    have hmoved := (removeCtx_moved n (m.onHw (overrunMark n))).endAct n .idle
    obtain ⟨hl, hq⟩ := hquiet ha
    have hl' : linesOfCtx (endAct n .idle (removeCtx n (m.onHw (overrunMark n))).hw) n = [] := by
      rw [hmoved.linesOfCtx, Mach.onHw_hw, overrunMark_blocks]
      exact hl
    have hq' : queuesOf (endAct n .idle (removeCtx n (m.onHw (overrunMark n))).hw) n = [] := by
      rw [hmoved.queuesOf, Mach.onHw_hw, overrunMark_blocks]
      exact hq
    have hstill : active (ctx (overrunMark n m.hw) n) = true := by rw [hmark]; exact hact
    rw [ha, if_neg one_ne_zero, if_pos rfl, ctxAbort, Mach.onHw_hw, hstill, if_pos rfl, Mach.onHw_hw, idleCauses_quiet hl' hq',
      ctx_endAct_same, hremoved, Mach.onHw_hw, hmark]
    exact ⟨rfl, rfl⟩
  case h_3 h0 h1 =>
    rw [if_neg h0, if_neg h1, Mach.onHw_hw, ctx_setCtx_same, hremoved, Mach.onHw_hw, hmark]
    exact ⟨rfl, rfl⟩

end

/-! ## Event lines (R308 … R310) -/

/-- EVL_WR refuses a reserved target (R310). -/
theorem evlWrite_reserved {w : Word} {h : Hw} (hbad : fld w 30 2 = 3 ∨ (fld w 30 2 = 2 ∧ 11 < fld w 0 8)) : evlWrite w h = err h 0x30 0 16 :=
  if_pos hbad

theorem evlWrite_sets {w : Word} {h : Hw} (hok : ¬ (fld w 30 2 = 3 ∨ (fld w 30 2 = 2 ∧ 11 < fld w 0 8))) : evlWrite w h =
    { h with lines := smPut {} (fld w 16 10) { evLine h (fld w 16 10) with tk := fld w 30 2, tgt := fld w 0 8 } h.lines } := if_neg hok

theorem fld_eq (w : Word) (lo n : Nat) : fld w lo n = w.toNat / 2 ^ lo % 2 ^ n := by rw [fld, Nat.shiftRight_eq_div_pow]

theorem fld_top (w : Word) : fld w 30 2 = w.toNat / 2 ^ 30 := by
  have := w.isLt
  rw [fld_eq]
  omega

theorem bit_top (w : Word) : bit w 31 = decide (2 ^ 31 ≤ w.toNat) := by
  rw [bit, ← BitVec.msb_eq_getLsbD_last, BitVec.msb_eq_decide]

theorem lineEvent_idle {l : Nat} {h : Hw} (htk : (evLine h l).tk = 1) (hlevel : lineLevel h l = true) (hon : domOn h 18 = true)
    (hdet : detOn h (ctx h (evLine h l).tgt) = false) (hst : (ctx h (evLine h l).tgt).st = .idle) :
    lineEvent l h = activate (evLine h l).tgt 1 ((lineCause h (evLine h l).tgt).getD l) [] h := by
  rw [lineEvent, htk, hlevel]
  exact (if_pos rfl).trans (cause_idle hon hdet hst)

end Sys2Proof.Machine

/-! ## The commands of contexts and event lines (R291 … R310) -/

namespace Sys2Proof.Machine

section
variable {ini : Initiator} {n : Byte} {s : State} (hw : s.writes ini 0x30 0 0x040 = true)
include hw

section
variable (hsup : taskCtx s.m.hw ini = none)
include hsup

theorem gives_ctxEnable {f : Hw → Hw} (he : ctxEnable n.toNat s.m = s.m.onHw f) (hp : (f s.m.hw).pwr = s.m.hw.pwr) : Gives (.ctxEnable ini n) s f :=
  gives_ctxCmd (op := 1) rfl hw ((ctxCmd_enable n hsup).trans he) hp

theorem gives_ctxAbort {f : Hw → Hw} (he : ctxAbort n.toNat s.m = s.m.onHw f) (hp : (f s.m.hw).pwr = s.m.hw.pwr) : Gives (.ctxAbort ini n) s f :=
  gives_ctxCmd (op := 4) rfl hw ((ctxCmd_abort n hsup).trans he) hp

/-- ABORT of a context that no line or queue can activate. -/
theorem answers_ctxAbort (hact : active (ctx s.m.hw n.toNat) = true) (hst : (ctx s.m.hw n.toNat).st ≠ .running)
    (hl : linesOfCtx s.m.hw n.toNat = []) (hq : queuesOf s.m.hw n.toNat = []) : Answers (.ctxAbort ini n) s (fun t =>
      ctx t.m.hw n.toNat = ended .idle (ctx s.m.hw n.toNat) ∧ sameMem s t ∧
      ∀ j, j < 256 → j ≠ n.toNat → (ctx t.m.hw j).waits = (ctx s.m.hw j).waits.filter (fun p => decide (p ≠ n.toNat))) := by
  have hmoved := (TaskMoved.refl s.m.hw).endAct n.toNat .idle
  have hquiet : idleCauses n.toNat (endAct n.toNat .idle s.m.hw) = endAct n.toNat .idle s.m.hw :=
    idleCauses_quiet ((hmoved.linesOfCtx _).trans hl) ((hmoved.queuesOf _).trans hq)
  have hown := ctx_endAct_same n.toNat .idle s.m.hw
  have hwaits (j : Nat) (hj : j < 256) (hne : j ≠ n.toNat) := waits_endAct hj hne .idle s.m.hw
  have habort := ctxAbort_waiting hact hst
  rw [Mach.onHw, hquiet] at habort
  generalize endAct n.toNat .idle s.m.hw = y at hmoved hown hwaits habort
  exact ⟨_, gives_ctxAbort hw hsup (f := fun _ => y) habort hmoved.pwr, hown, fun _ => rfl, hwaits⟩

/-- DISABLE of a context that is on no core (R292, R305, R322). -/
theorem answers_ctxDisable (hdis : (ctx s.m.hw n.toNat).st ≠ .disabled) (hst : (ctx s.m.hw n.toNat).st ≠ .running) :
    Answers (.ctxDisable ini n) s (fun t =>
      t.m.mem = (storeIdle n.toNat s.m).mem ∧ ctx t.m.hw n.toNat = disabled (ctx s.m.hw n.toNat) ∧
      (∀ j, j < 256 → j ≠ n.toNat → (ctx t.m.hw j).waits = (ctx s.m.hw j).waits.filter (fun p => decide (p ≠ n.toNat))) ∧
      t.m.hw.pages = s.m.hw.pages.filter (fun e => decide (e.2.own ≠ .ctx n.toNat))) := by
  have hstored := storeIdle_onlyOlk n.toNat s.m
  have hctx := ctx_onlyOlk hstored
  have hpages : (storeIdle n.toNat s.m).hw.pages = s.m.hw.pages := by rw [hstored]
  have hpwr : (disableCtx n.toNat (storeIdle n.toNat s.m).hw).pwr = s.m.hw.pwr := by rw [pwr_disableCtx, hstored]
  refine ⟨_, exec_ctxCmd (op := 2) rfl hw ((ctxCmd_disable n hsup).trans (ctxDisable_waiting hdis hst)) hpwr, rfl, ?own, fun j hj hne => ?waits, ?pages⟩
  case own => rw [Mach.onHw_hw, ctx_disableCtx_same, hctx]
  case waits => rw [Mach.onHw_hw, waits_disableCtx _ _ hj hne, hctx]
  case pages => rw [Mach.onHw_hw, pages_disableCtx, hpages]

end

theorem gives_ctxActivate {f : Hw → Hw} (he : ctxActivate n.toNat s.m.hw = f s.m.hw) (hp : (f s.m.hw).pwr = s.m.hw.pwr) :
    Gives (.ctxActivate ini n) s f :=
  gives_ctxCmd (op := 3) rfl hw ((ctxCmd_activate n).trans (congrArg (Mach.mk s.m.mem) he)) hp

end

/-- What STATE and RELFRAME of the record of a disabled context hold (R292). -/
theorem storeIdle_reads (n : Nat) (m : Mach) :
    rdMem (storeIdle n m).mem (recBase m.hw n + 0x480) 4 = (ctx m.hw n).pc.toNat ∧
    rdMem (storeIdle n m).mem (recBase m.hw n + 0x484) 1 = rdMem m.mem (recBase m.hw n + 0x484) 1 % 16 ∧
    rdMem (storeIdle n m).mem (recBase m.hw n + 0x490) 8 = (ctx m.hw n).rel % 2 ^ 64 ∧
    ∀ b, b < recBase m.hw n + 0x480 ∨ recBase m.hw n + 0x480 + 32 ≤ b → rdByte (storeIdle n m).mem b = rdByte m.mem b := by
  have hpc := (ctx m.hw n).pc.isLt
  rw [mem_storeIdle]
  refine ⟨?pc, ?flags, ?rel, fun b hb => ?others⟩
  case pc =>
    rw [rdMem_wrMem_out _ _ _ _ _ _ (.inl (by omega))]
    refine (rdMem_wrMem_part _ _ _ (j := 0) (by decide)).trans ?_
    omega
  case flags =>
    rw [rdMem_wrMem_out _ _ _ _ _ _ (.inl (by omega))]
    refine (rdMem_wrMem_part _ _ _ (j := 4) (by decide)).trans ?_
    omega
  case rel => exact rdMem_wrMem_part _ _ _ (j := 0) (by decide) |>.trans (by omega)
  case others => rw [rdByte_wrMem_out _ _ _ _ _ (by omega), rdByte_wrMem_out _ _ _ _ _ (by omega)]

theorem answers_deadline {n : Byte} {d : Nat} {s : State} (ha : s.alive = true) (hd : (ctx s.m.hw n.toNat).deadline = some d)
    (hdue : d ≤ s.m.hw.timebase) (hact : active (ctx s.m.hw n.toNat) = true) (hlate : (ctx s.m.hw n.toNat).late = false) :
    Answers (.deadline n) s (fun t => t.m = overrun n.toNat s.m) := by
  have hsome : (ctx s.m.hw n.toNat).deadline.isSome = true := by rw [hd]; rfl
  have hpass : deadlinePass n.toNat s.m = overrun n.toNat s.m := by
    rw [deadlinePass, hd]
    exact if_pos hdue
  have hpwr : (overrun n.toNat s.m).hw.pwr = s.m.hw.pwr := by
    rw [(overrun_moved hact hsome hlate).pwr, overrunMark_blocks]
  exact answers_run rfl ha hpass hpwr rfl

/-- Settles O31: the commands by the cases of `ctxEnable`, `ctxActivate`, `ctxAbort` and `ctxDisable`; an activation by `begun`; a deadline by
`overrun_eq`; event lines by `lineEvent_idle`. -/
theorem keystoneCommands : Obligations.KeystoneCommands := by
  refine ⟨fun ini n s hw hsup => ?enable, fun ini n s hw => ?commands, fun k kind line h => ?activation,
    fun n d s ha => ?deadline, fun s => ⟨fun ini w hw hsup => ?evl, fun ini w hw => ?evsw, fun l ha hon htk hlevel => ?line⟩⟩
  case enable =>
    intro k b d f g inSram sound dis
    have hexec {f : Hw → Hw} := gives_ctxEnable (n := n) (f := f) hw hsup
    have herr (k : Nat) : (err s.m.hw 0x30 0 k).pwr = s.m.hw.pwr := err_pwr ..
    refine ⟨fun hdis hin hok hclash => hexec ?_ (((TaskMoved.refl _).setCtx ..).idleCauses _).pwr,
      fun hdis hin hok hclash => hexec ?_ (herr _), fun hdis hin hbad => hexec (ctxEnable_unsound hdis hin hbad) (herr _),
      fun hdis hout => hexec (ctxEnable_outside hdis hout) (herr _), fun hno => hexec (ctxEnable_taken hno) (herr _)⟩
    · exact (ctxEnable_sound hdis hin hok).trans (if_neg (by rw [Bool.not_eq_true]; exact hclash))
    · exact (ctxEnable_sound hdis hin hok).trans (if_pos hclash)
  case commands =>
    intro k r b
    refine ⟨fun hon hdet hst => ?activate, fun hon hdet hact => ?keep, fun hdet => ?deterministic,
      fun hsup hact hst => ⟨?abort, answers_ctxAbort hw hsup hact hst⟩, fun hsup hact => gives_ctxAbort hw hsup (ctxAbort_idle hact) rfl,
      fun hsup hdis => ?disabled, fun hsup hdis hst => ?disable, fun op hbad => ?refused⟩
    case activate =>
      exact gives_ctxActivate hw ((if_neg (Bool.eq_false_iff.1 hdet)).trans (cause_idle hon hdet hst)) ((TaskMoved.refl _).activate ..).pwr
    case keep =>
      exact gives_ctxActivate hw ((if_neg (Bool.eq_false_iff.1 hdet)).trans (cause_active hon hdet hact)) ((TaskMoved.refl _).setCtx ..).pwr
    case deterministic => exact gives_ctxActivate hw (if_pos hdet) (err_pwr ..)
    case abort => exact gives_ctxAbort hw hsup (ctxAbort_waiting hact hst) (((TaskMoved.refl _).endAct ..).idleCauses _).pwr
    case disabled => exact gives_ctxCmd (op := 2) rfl hw ((ctxCmd_disable n hsup).trans (if_pos hdis)) rfl
    case disable =>
      obtain ⟨t, ht, hmem, hown, hwaits, hpages⟩ := answers_ctxDisable hw hsup hdis hst
      obtain ⟨hpc, hflags, hrel, hothers⟩ := storeIdle_reads n.toNat s.m
      rw [← hmem] at hpc hflags hrel hothers
      exact ⟨t, ht, hown, hpc, hflags, hrel, hothers, hwaits, hpages⟩
    case refused =>
      exact gives_ctxCmd (op := op.toNat) rfl hw (ctxCmd_refused n op.isLt (hbad.imp (congrArg BitVec.toNat)
        (Or.imp id (And.imp_right fun hne he => hne (BitVec.eq_of_toNat_eq he))))) (err_pwr ..)
  case activation =>
    intro r r'
    have hbegun : r' = begun kind line h r := ctx_activate_same ..
    rw [hbegun]
    exact ⟨rfl, rfl, rfl, rfl, rfl, rfl, rfl, rfl, fun hk hnew => deadlineOf_now hk hnew, fun j hj => ctx_activate_ne _ _ _ hj⟩
  case deadline =>
    intro r hd hdue hact hlate a hquiet
    have hsome : r.deadline.isSome = true := by rw [hd]; rfl
    have hmoved := overrun_moved hact hsome hlate
    obtain ⟨hst, hlate'⟩ := ctx_overrun hact hsome hlate hquiet
    obtain ⟨t, ht, hm⟩ := answers_deadline ha hd hdue hact hlate
    refine ⟨t, ht, ?_⟩
    dsimp only
    rw [hm]
    refine ⟨hst, hlate', ?count, hmoved.seen 0 (by decide) (evSeen_overrunMark n.toNat s.m.hw), ?mark⟩
    case count => rw [hmoved.rd (by decide) (by decide), fld_ovrCnt_overrunMark]
    case mark => rw [hmoved.blocks, ← ovr_overrunMark]
  case evl =>
    have hsup' : (taskCtx s.m.hw ini).isSome = false := by rw [hsup]; rfl
    have hrun {f : Hw → Hw} (he : evlWrite w s.m.hw = f s.m.hw) (hp : (f s.m.hw).pwr = s.m.hw.pwr) : Gives (.evlWr ini w) s f := by
      have hact : (if (taskCtx s.m.hw ini).isSome = true then err s.m.hw 0x30 0 16 else evlWrite w s.m.hw) = f s.m.hw := by
        rw [hsup', if_neg Bool.false_ne_true, he]
      exact gives_write rfl hw rfl (congrArg Pwr.cur ((congrArg Hw.pwr hact).trans hp)) hact
    intro tk bad
    have hbad : bad ↔ fld w 30 2 = 3 ∨ (fld w 30 2 = 2 ∧ 11 < fld w 0 8) := by
      rw [fld_top, fld_eq, pow_zero, Nat.div_one]
      exact Iff.rfl
    refine ⟨fun h => hrun (evlWrite_reserved (hbad.1 h)) (err_pwr ..), fun h => hrun ?_ rfl⟩
    rw [evlWrite_sets (mt hbad.2 h), fld_top, fld_eq, fld_eq, pow_zero, Nat.div_one]
    rfl
  case evsw =>
    refine gives_write rfl hw rfl rfl ?_
    rw [evswWrite, bit_top, fld_eq, pow_zero, Nat.div_one]
    rfl
  case line =>
    intro n hdet hst
    exact gives_hw rfl ha (lineEvent_idle htk hlevel hon hdet hst)

end Sys2Proof.Machine

/-! ## Pages and queues: their records (R313 … R318) -/

namespace Sys2Proof.Machine

theorem smGet_of_no_key {α : Type} (d : α) {k : Nat} {m : List (Nat × α)} (h : ∀ e ∈ m, e.1 ≠ k) : smGet d m k = d := by
  induction m with
  | nil => rfl
  | cons e m ih =>
    obtain ⟨j, v⟩ := e
    exact (if_neg (h _ List.mem_cons_self)).trans (ih fun f hf => h f (List.mem_cons_of_mem _ hf))

theorem length_smIns_new {α : Type} {k : Nat} (v : α) {m : List (Nat × α)} (h : ∀ e ∈ m, e.1 ≠ k) : (smIns k v m).length = m.length + 1 := by
  induction m with
  | nil => rfl
  | cons e m ih =>
    obtain ⟨j, w⟩ := e
    rw [smIns]
    split
    · rfl
    · rw [if_neg (h _ List.mem_cons_self), List.length_cons, ih fun f hf => h f (List.mem_cons_of_mem _ hf), List.length_cons]

section
variable {h : Hw} {p k : Nat} {r : Page}

theorem apage_setPage_same (hown : r.own ≠ .free) : apage (setPage h p r) p = r := by rw [apage, setPage, if_neg hown, smGet_smPut_same]

theorem apage_setPage_ne (hk : k ≠ p) : apage (setPage h p r) k = apage h k := smGet_smPut_ne _ _ _ hk _

theorem freeCount_setPage_new (hnew : ∀ e ∈ h.pages, e.1 ≠ p) (hown : r.own ≠ .free) : freeCount (setPage h p r) = freeCount h - 1 := by
  have hne : r ≠ {} := fun he => hown (congrArg Page.own he)
  rw [freeCount, setPage, if_neg hown, smPut, if_neg hne, length_smIns_new _ hnew, freeCount, Nat.sub_sub]

theorem queue_setQueue_same (q : Nat) (l : List QItem) : queue (setQueue h q l) q = l := smGet_smPut_same ..

theorem queue_setQueue_ne {q : Nat} (hk : k ≠ q) (l : List QItem) : queue (setQueue h q l) k = queue h k := smGet_smPut_ne _ _ _ hk _

theorem apage_setQueue (q : Nat) (l : List QItem) : apage (setQueue h q l) k = apage h k := rfl

end

/-! ## Claims of pages (R313, R315, R316) -/

/-- The search from `c` ends at a page that is not listed, no further on than there are pages listed. -/
theorem nthFree_spec {l : List (Nat × Page)} (hl : l.Pairwise (fun a b => a.1 < b.1)) (c : Nat) :
    (∀ e ∈ l, e.1 ≠ nthFree l c) ∧ c ≤ nthFree l c ∧ nthFree l c ≤ c + l.length := by
  induction l generalizing c with
  | nil => exact ⟨fun _ he => absurd he List.not_mem_nil, le_rfl, le_rfl⟩
  | cons e l ih =>
    obtain ⟨k, v⟩ := e
    obtain ⟨hk, hl⟩ := List.pairwise_cons.1 hl
    rw [nthFree, List.length_cons]
    split
    case isTrue hle =>
      obtain ⟨hnew, hlo, hhi⟩ := ih hl (c + 1)
      exact ⟨List.forall_mem_cons.2 ⟨by dsimp only; omega, hnew⟩, by omega, by omega⟩
    case isFalse hlt =>
      refine ⟨List.forall_mem_cons.2 ⟨by dsimp only; omega, fun e he => ?_⟩, le_rfl, by omega⟩
      have hke := hk e he
      dsimp only at hke
      omega

/-- From `h` to `h'` page `p` of the free pool passes to `own`. -/
structure Claimed (own : Owner) (p : Nat) (h h' : Hw) : Prop where
  lt : p < 4096
  wasFree : apage h p = {}
  owned : apage h' p = ⟨own, none⟩
  others : ∀ k, k ≠ p → apage h' k = apage h k
  count : freeCount h' = freeCount h - 1

theorem claimPage_claimed {own : Owner} {h : Hw} (hwf : smWf (fun _ => ({} : Page)) h.pages = true) (hfree : freeCount h ≠ 0)
    (hown : own ≠ .free) : Claimed own (claimPage own h).1 h (claimPage own h).2 := by
  obtain ⟨hsorted, -⟩ := (smWf_iff _ _).1 hwf
  have hpick : Config.pagePick h.freeCnt % freeCount h < 4096 - h.pages.length := Nat.mod_lt _ (Nat.pos_of_ne_zero hfree)
  obtain ⟨hnew, -, hhi⟩ := nthFree_spec hsorted (Config.pagePick h.freeCnt % freeCount h)
  exact ⟨show nthFree h.pages _ < 4096 by omega, smGet_of_no_key _ hnew, apage_setPage_same hown, fun k hk => apage_setPage_ne hk,
    freeCount_setPage_new (h := { h with freeCnt := h.freeCnt + 1 }) hnew hown⟩

/-! ### TAKE (R316) -/

/-- The owner of a page that core `c` takes (R315). -/
def coreTaker (c : Nat) (task : Option Nat) : Owner := match task with | some n => .ctx n | none => .sup c

theorem coreTaker_ne_free (c : Nat) (task : Option Nat) : coreTaker c task ≠ .free := by cases task <;> nofun

section
variable {c : Fin 12} {task : Option Nat} {h : Hw}

theorem msgTake_none (hshort : freeCount h = 0 ∨ (freeCount h ≤ rsvOf h ∧ task.isSome = true)) : msgTake (.core c) task h = (0, pulse h 0x32 0 0) :=
  if_pos hshort

theorem msgTake_page (hnot : ¬ (freeCount h = 0 ∨ (freeCount h ≤ rsvOf h ∧ task.isSome = true))) : msgTake (.core c) task h =
    (pageAddr (claimPage (coreTaker c.val task) h).1, msgLevels (claimPage (coreTaker c.val task) h).2) := by
  cases task <;> exact if_neg hnot

end

/-- A failed TAKE or PUT marks the frame and does nothing else (R312). -/
theorem pageFail_eq (task : Option Nat) (h : Hw) : ∃ k, pageFail task h = { h with key := k } := by
  unfold pageFail
  split
  · split
    · exact ⟨_, rfl⟩
    · exact ⟨h.key, rfl⟩
  · exact ⟨h.key, rfl⟩

theorem takePage_none {c : Fin 12} {h : Hw} (hshort : freeCount h = 0 ∨ (freeCount h ≤ rsvOf h ∧ (taskCtx h (.core c)).isSome = true)) :
    ∃ k, takePage (.core c) h = (0, { pulse h 0x32 0 0 with key := k }) := by
  obtain ⟨k, hk⟩ := pageFail_eq (taskCtx h (.core c)) (pulse h 0x32 0 0)
  refine ⟨k, ?_⟩
  rw [takePage, msgTake_none hshort, ← hk]
  rfl

/-- A TAKE that answers a page: what is said of the claim holds after it, and the taker's list of delivered pages is brought up to date. -/
theorem takePage_page {c : Fin 12} {h : Hw} (hnot : ¬ (freeCount h = 0 ∨ (freeCount h ≤ rsvOf h ∧ (taskCtx h (.core c)).isSome = true))) :
    ∃ y, takePage (.core c) h = (pageAddr (claimPage (coreTaker c.val (taskCtx h (.core c))) h).1, y) ∧
      TaskMoved (msgLevels (claimPage (coreTaker c.val (taskCtx h (.core c))) h).2) y := by
  have hne : ∀ p, pageAddr p ≠ 0 := fun p => by unfold pageAddr; omega
  rw [takePage, msgTake_page hnot]
  dsimp only
  rw [if_neg (hne _)]
  refine ⟨_, rfl, ?_⟩
  split
  · exact (TaskMoved.refl _).tookPage ..
  · exact .refl _

theorem Claimed.taskMoved {own : Owner} {p : Nat} {h x y : Hw} (e : Claimed own p h x) (ht : TaskMoved (msgLevels x) y) : Claimed own p h y := by
  have hpages : y.pages = x.pages := by rw [ht.blocks]; simp [msgLevels]
  obtain ⟨hlt, hfree, howned, hothers, hcount⟩ := e
  unfold apage freeCount at *
  rw [← hpages] at howned hothers hcount
  exact ⟨hlt, hfree, howned, hothers, hcount⟩

theorem pageRead_take (ini : Initiator) (m : Mach) : pageRead ini 0x32 0 0x044 m = ((takePage ini m.hw).1, { m with hw := (takePage ini m.hw).2 }) :=
  rfl

/-- A TAKE whose access finds its way answers what `takePage` gives. -/
theorem answers_take {ini : Initiator} {s : State} {y : Hw} {v : Nat} (hr : s.reads ini 0x32 0 0x044 = true) (ht : takePage ini s.m.hw = (v, y))
    (hp : y.pwr = s.m.hw.pwr) : Answers (.take ini) s (fun t => t.m = ⟨s.m.mem, { y with reply := v }⟩) := by
  have hx : exec (.take ini) s = .next (s.run (pageGet ini 0x32 0 0x044)) := rfl
  refine ⟨_, hx.trans (congrArg _ (run_read hr (by decide) (by decide) (by decide) (by decide))), ?_⟩
  dsimp only
  rw [pageRead_take, ht]
  exact proceed_same (congrArg Pwr.cur hp)

/-! ### GIVE, PUT and PQ_LINK (R315, R317, R318, R323) -/

theorem refPage_page {p x : Nat} (hp : p < 4096) (hx : x < 256) : refPage (0x21000000 + 256 * p + x) = some p := by
  rw [refPage, if_pos (by omega)]
  congr 1
  omega

/-- The reference of page `p` with the low byte `x`. -/
theorem toNat_refWord {p x : Nat} (hp : p < 4096) (hx : x < 256) :
    (BitVec.ofNat 32 (0x21000000 + 256 * p + x)).toNat = 0x21000000 + 256 * p + x := by
  rw [BitVec.toNat_ofNat]
  omega

/-- The queue that a PUT names. -/
theorem fld_refWord_queue {p q : Nat} (hp : p < 4096) (hq : q < 64) : fld (BitVec.ofNat 32 (0x21000000 + 256 * p + 4 * q)) 2 6 = q := by
  rw [fld_eq, toNat_refWord hp (by omega)]
  omega

theorem pwr_freeChain (p : Nat) (h : Hw) : (freeChain p h).pwr = h.pwr := by
  have hlevels (x : Hw) : (msgLevels x).pwr = x.pwr := (msgLevels_onlyRegs x).pwr
  exact (hlevels _).trans (forL_keeps Hw.pwr (f := fun k x => setPage x k {}) (fun _ _ => rfl) (chainOf h p) h)

theorem pwr_msgErr (ini : Initiator) (task : Option Nat) (ref kind : Nat) (h : Hw) : (msgErr ini task ref kind h).pwr = h.pwr := by
  unfold msgErr
  split
  · rfl
  · simp

theorem pwr_pageFail (task : Option Nat) (h : Hw) : (pageFail task h).pwr = h.pwr := by
  obtain ⟨k, hk⟩ := pageFail_eq task h
  rw [hk]

/-- A page without a link is a chain of its own. -/
theorem chainOf_single {h : Hw} {p : Nat} (hnext : (apage h p).next = none) : chainOf h p = [p] := by
  rw [chainOf, show (4096 : Nat) = 4095 + 1 from rfl, chainFrom, hnext]
  exact if_pos ⟨rfl, rfl⟩

section
variable {h : Hw} {q p who rel : Nat} (hnext : (apage h p).next = none)
include hnext

/-- A page without a link joins the tail of a queue (R318). -/
theorem joinQueue_single : joinQueue q p who rel h =
    setQueue (setPage h p { own := .queue q, next := none }) q (queue h q ++ [⟨p, h.frame, who, rel⟩]) := by
  rw [joinQueue, moveChain, chainOf_single hnext, ← hnext]
  rfl

end

section
variable {ini : Initiator} {p : Nat} {h : Hw} {w : Word}

theorem msgGive_owned (hp : refPage w.toNat = some p) {task : Option Nat} (hmine : owns h ini task p = true) :
    msgGive ini task w h = freeChain p h := by
  rw [msgGive, hp]
  exact if_pos hmine

theorem msgGive_foreign (hp : refPage w.toNat = some p) {task : Option Nat} (hmine : ¬ owns h ini task p = true) :
    msgGive ini task w h = msgErr ini task w.toNat 1 h := by
  rw [msgGive, hp]
  exact if_neg hmine

theorem msgGive_bad {task : Option Nat} (hbad : w.toNat / 0x100000 ≠ 0x210) : msgGive ini task w h = msgErr ini task w.toNat 3 h := by
  rw [msgGive, refPage, if_neg hbad]

theorem msgLink_owned {task : Option Nat} (hsel : fld (rd h 0x32 0 0x058) 0 12 = p) (hmine : owns h ini task p = true) :
    msgLink ini task w h = setPage h p { apage h p with next := if bit w 12 then some (fld w 0 12) else none } := by
  subst hsel
  exact if_pos hmine

theorem msgLink_foreign {task : Option Nat} (hsel : fld (rd h 0x32 0 0x058) 0 12 = p) (hmine : ¬ owns h ini task p = true) :
    msgLink ini task w h = msgErr ini task (pageAddr p) 5 h := by
  subst hsel
  exact if_neg hmine

variable (hp : refPage w.toNat = some p)
include hp

theorem msgPut_foreign (hmine : ¬ owns h ini (taskCtx h ini) p = true) :
    msgPut ini w h = pageFail (taskCtx h ini) (msgErr ini (taskCtx h ini) (w.toNat / 256 * 256) 2 h) := by
  rw [msgPut, hp]
  exact if_pos (Bool.eq_false_iff.2 hmine)

variable (hmine : owns h ini (taskCtx h ini) p = true)
include hmine

theorem msgPut_refused (hq : qEn h (fld w 2 6) = false ∨ qFull h (fld w 2 6) 0 = true) :
    msgPut ini w h = pageFail (taskCtx h ini) (msgErr ini (taskCtx h ini) (w.toNat / 256 * 256) 4 h) := by
  rw [msgPut, hp]
  dsimp only
  rw [hmine, if_neg (Bool.noConfusion), if_pos hq]

theorem msgPut_joins (hen : qEn h (fld w 2 6) = true) (hroom : qFull h (fld w 2 6) 0 = false) : msgPut ini w h =
    queueFed (fld w 2 6) (joinQueue (fld w 2 6) p ((taskCtx h ini).getD 256) (((taskCtx h ini).map fun n => (ctx h n).rel).getD 0) h) := by
  rw [msgPut, hp]
  dsimp only
  rw [hmine, if_neg (Bool.noConfusion), hen, hroom, if_neg (by simp)]
  cases taskCtx h ini <;> rfl

end

/-- What a PUT leaves: page `p` at the tail of queue `q`, and every other page and queue as before. -/
theorem queueFed_joinQueue {h : Hw} {q p who rel : Nat} (hnext : (apage h p).next = none) :
    let t := queueFed q (joinQueue q p who rel h)
    queue t q = queue h q ++ [⟨p, h.frame, who, rel⟩] ∧ apage t p = { own := .queue q, next := none } ∧
      (∀ k, k ≠ p → apage t k = apage h k) ∧ (∀ k, k ≠ q → queue t k = queue h k) ∧ t.pwr = h.pwr := by
  have hfed := (TaskMoved.refl (joinQueue q p who rel h)).queueFed q
  rw [joinQueue_single hnext] at hfed ⊢
  generalize hx : setQueue (setPage h p { own := .queue q, next := none }) q _ = x at hfed
  have hq (k : Nat) : queue (queueFed q x) k = queue x k := by rw [hfed.blocks]; rfl
  have ha (k : Nat) : apage (queueFed q x) k = apage x k := by rw [hfed.blocks]; rfl
  refine ⟨?tail, ?page, fun k hk => ?pages, fun k hk => ?queues, hfed.pwr.trans (by rw [← hx]; rfl)⟩
  case tail => rw [hq, ← hx, queue_setQueue_same]
  case page =>
    rw [ha, ← hx, apage_setQueue]
    exact apage_setPage_same (r := { own := .queue q, next := none }) nofun
  case pages =>
    rw [ha, ← hx, apage_setQueue, apage_setPage_ne hk]
  case queues =>
    rw [hq, ← hx, queue_setQueue_ne hk]
    rfl

/-- Settles O33: TAKE by `takePage_page` and `takePage_none`, GIVE, PUT and PQ_LINK by the cases of `msgGive`, `msgPut` and `msgLink`. -/
theorem messagePages : Obligations.MessagePages := by
  refine ⟨fun c s hr hwf _ => ?take, fun ini p s => ?put⟩
  case take =>
    intro free task short
    refine ⟨fun hnot => ?page, fun hshort => ?none⟩
    case page =>
      obtain ⟨y, htake, hmoved⟩ := takePage_page hnot
      have hclaim := (claimPage_claimed hwf (fun h0 => hnot (.inl h0)) (coreTaker_ne_free c.val task)).taskMoved hmoved
      obtain ⟨t, ht, hm⟩ := answers_take hr htake (hmoved.pwr.trans (msgLevels_onlyRegs _).pwr)
      refine ⟨t, ht, fun a => by rw [hm], _, hclaim.lt, hclaim.wasFree, by rw [hm]; rfl, ?owned, fun k hk => ?others, ?count⟩
      case owned =>
        rw [hm]
        exact hclaim.owned.trans (by cases task <;> rfl)
      case others =>
        rw [hm]
        exact hclaim.others k hk
      case count =>
        rw [hm]
        exact hclaim.count
    case none =>
      obtain ⟨k, hk⟩ := takePage_none hshort
      obtain ⟨t, ht, hm⟩ := answers_take hr hk (pulse_pwr ..)
      refine ⟨t, ht, fun a => by rw [hm], by rw [hm], ?pages, ?seen⟩
      case pages =>
        rw [hm]
        exact pulse_pages ..
      case seen =>
        rw [hm]
        have hseen : evSeen (pulse s.m.hw 0x32 0 0) 0x32 0 0 := evSeen_pulse (by decide)
        exact hseen
  case put =>
    have hpage := p.isLt
    intro ref task mine
    refine ⟨fun low hw => ?give, fun w hw hbad => ?bad, fun q hw => ?join, fun w hw hsel => ?link⟩
    case give =>
      have hlow := low.isLt
      have hword := toNat_refWord hpage hlow
      have href : refPage (BitVec.ofNat 32 (ref + low.toNat)).toNat = some p.val := by rw [hword]; exact refPage_page hpage hlow
      intro w
      refine ⟨fun hmine => gives_write rfl hw rfl ?_ (msgGive_owned href hmine), fun hmine => gives_write rfl hw rfl ?_ ?_⟩
      · rw [msgGive_owned href hmine, pwr_freeChain]
      · rw [msgGive_foreign href hmine, pwr_msgErr]
      · rw [msgGive_foreign href hmine, hword]
    case bad => exact gives_write rfl hw rfl (by rw [msgGive_bad hbad, pwr_msgErr]) (msgGive_bad hbad)
    case join =>
      have hq := q.isLt
      have hword : (BitVec.ofNat 32 (ref + 4 * q.val)).toNat = ref + 4 * q.val := toNat_refWord hpage (by omega)
      have href : refPage (BitVec.ofNat 32 (ref + 4 * q.val)).toNat = some p.val := by rw [hword]; exact refPage_page hpage (by omega)
      have hqueue : fld (BitVec.ofNat 32 (ref + 4 * q.val)) 2 6 = q.val := fld_refWord_queue hpage hq
      have hbase : (BitVec.ofNat 32 (ref + 4 * q.val)).toNat / 256 * 256 = ref := by rw [hword]; omega
      intro w
      refine ⟨fun hmine hnext hen hroom => ?joins, fun hmine => ?foreign, fun hmine hno => ?refused⟩
      case joins =>
        have hput := msgPut_joins (h := s.m.hw) href hmine (by rwa [hqueue]) (by rwa [hqueue])
        obtain ⟨htail, hown, hpages, hqueues, hpwr⟩ := queueFed_joinQueue (q := q.val) (who := task.getD 256)
          (rel := (task.map fun n => (ctx s.m.hw n).rel).getD 0) hnext
        rw [hqueue] at hput
        exact ⟨_, gives_write rfl hw rfl (congrArg Pwr.cur ((congrArg Hw.pwr hput).trans hpwr)) (g := fun _ => _) hput, htail, hown, hpages, hqueues,
          fun _ => rfl⟩
      case foreign =>
        have hput := msgPut_foreign (h := s.m.hw) href hmine
        rw [hbase] at hput
        exact gives_write rfl hw rfl (by rw [hput, pwr_pageFail, pwr_msgErr]) hput
      case refused =>
        have hput := msgPut_refused (h := s.m.hw) href hmine (by rwa [hqueue])
        rw [hbase] at hput
        exact gives_write rfl hw rfl (by rw [hput, pwr_pageFail, pwr_msgErr]) hput
    case link =>
      exact ⟨fun hmine => gives_write rfl hw rfl (by rw [msgLink_owned hsel hmine]; rfl) (msgLink_owned hsel hmine),
        fun hmine => gives_write rfl hw rfl (by rw [msgLink_foreign hsel hmine, pwr_msgErr]) (msgLink_foreign hsel hmine)⟩

end Sys2Proof.Machine

/-! ## The choice of a context and of a core (R301, R302) -/

namespace Sys2Proof.Machine

/-- One step of the search for the best of a list: `k` takes the place of the best so far when it may and beats that. -/
def pick (may : Nat → Bool) (beats : Nat → Nat → Bool) (best : Option Nat) (k : Nat) : Option Nat :=
  if may k then match best with | some b => if beats k b then some k else best | none => some k else best

section
variable {may : Nat → Bool} {beats : Nat → Nat → Bool} {n : Nat} {l : List Nat}

theorem foldl_pick_none (hno : ∀ k ∈ l, may k = false) (best : Option Nat) : l.foldl (pick may beats) best = best := by
  induction l with
  | nil => rfl
  | cons k l ih =>
    have hstep : pick may beats best k = best := if_neg (Bool.eq_false_iff.1 (hno k List.mem_cons_self))
    rw [List.foldl_cons, hstep]
    exact ih fun j hj => hno j (List.mem_cons_of_mem k hj)

/-- What nobody beats stays the best. -/
theorem foldl_pick_stays (hno : ∀ k ∈ l, may k = true → beats k n = false) : l.foldl (pick may beats) (some n) = some n := by
  induction l with
  | nil => rfl
  | cons k l ih =>
    have hstep : pick may beats (some n) k = some n := by
      unfold pick
      split
      case isTrue hk => exact if_neg (Bool.eq_false_iff.1 (hno k List.mem_cons_self hk))
      case isFalse => rfl
    rw [List.foldl_cons, hstep]
    exact ih fun j hj => hno j (List.mem_cons_of_mem k hj)

/-- While all that come are beaten by `n`, so is the best of them. -/
theorem foldl_pick_beaten {best : Option Nat} (hbest : ∀ b ∈ best, beats n b = true) (hall : ∀ k ∈ l, may k = true → beats n k = true) :
    ∀ b ∈ l.foldl (pick may beats) best, beats n b = true := by
  induction l generalizing best with
  | nil => exact hbest
  | cons k l ih =>
    refine ih (fun b hb => ?_) fun j hj => hall j (List.mem_cons_of_mem k hj)
    by_cases hk : may k = true
    · have hbeaten := hall k List.mem_cons_self hk
      unfold pick at hb
      rw [if_pos hk] at hb
      cases best with
      | none => rwa [← Option.mem_some.1 hb]
      | some a =>
        dsimp only at hb
        split at hb
        · rwa [← Option.mem_some.1 hb]
        · exact hbest b hb
    · unfold pick at hb
      rw [if_neg hk] at hb
      exact hbest b hb

/-- The search of a rising list ends at the one that beats all before it and that none after it beats. -/
theorem foldl_pick_eq (hl : l.Pairwise (· < ·)) (hn : n ∈ l) (hmay : may n = true) (hbefore : ∀ k ∈ l, k < n → may k = true → beats n k = true)
    (hafter : ∀ k ∈ l, n < k → may k = true → beats k n = false) : l.foldl (pick may beats) none = some n := by
  obtain ⟨l₁, l₂, rfl⟩ := List.append_of_mem hn
  obtain ⟨-, hl₂, hcross⟩ := List.pairwise_append.1 hl
  have hlow := foldl_pick_beaten (l := l₁) (best := none) (beats := beats) (may := may) (n := n) nofun fun k hk =>
    hbefore k (List.mem_append_left _ hk) (hcross k hk n List.mem_cons_self)
  have hstep : pick may beats (l₁.foldl (pick may beats) none) n = some n := by
    unfold pick
    rw [if_pos hmay]
    split
    case h_1 b hb => exact if_pos (hlow b hb)
    case h_2 => rfl
  rw [List.foldl_append, List.foldl_cons, hstep]
  exact foldl_pick_stays fun k hk =>
    hafter k (List.mem_append_right _ (List.mem_cons_of_mem n hk)) ((List.pairwise_cons.1 hl₂).1 k hk)

end

/-- Context `k` is READY and its mask names core `c`. -/
def readyFor (h : Hw) (c k : Nat) : Bool := decide ((ctx h k).st = .ready ∧ descF (ctx h k) (40 + c) 1 = 1)

theorem readyFor_iff {h : Hw} {c k : Nat} : readyFor h c k = true ↔ (ctx h k).st = .ready ∧ (ctx h k).desc.testBit (40 + c) = true := by
  rw [readyFor, decide_eq_true_eq, descF_bit]

theorem bestReady_eq (h : Hw) (c : Nat) :
    bestReady h c = (List.range 256).foldl (pick (readyFor h c) (fun k b => decide (prio (ctx h b) < prio (ctx h k)))) none := by
  have hstep : pick (readyFor h c) (fun k b => decide (prio (ctx h b) < prio (ctx h k))) = fun best n =>
      if (ctx h n).st = .ready ∧ descF (ctx h n) (40 + c) 1 = 1 then
        match best with | some b => if prio (ctx h b) < prio (ctx h n) then some n else best | none => some n
      else best := by
    funext best n
    simp only [pick, readyFor, decide_eq_true_eq]
  rw [hstep]
  rfl

theorem bestReady_none {h : Hw} {c : Nat} (hno : ∀ k, k < 256 → readyFor h c k = false) : bestReady h c = none := by
  rw [bestReady_eq, foldl_pick_none fun k hk => hno k (List.mem_range.1 hk)]

/-- The READY context of highest PRIO, the lowest number on a tie (R301). -/
theorem bestReady_some {h : Hw} {c n : Nat} (hn : n < 256) (hmay : readyFor h c n = true)
    (hbest : ∀ k, k < 256 → k ≠ n → readyFor h c k = true →
      prio (ctx h k) < prio (ctx h n) ∨ (prio (ctx h k) = prio (ctx h n) ∧ n < k)) : bestReady h c = some n := by
  rw [bestReady_eq]
  refine foldl_pick_eq List.pairwise_lt_range (List.mem_range.2 hn) hmay (fun k hk hlt hk' => ?_) fun k hk hlt hk' => ?_
  · have := hbest k (List.mem_range.1 hk) hlt.ne hk'
    exact decide_eq_true (by omega)
  · have := hbest k (List.mem_range.1 hk) hlt.ne' hk'
    exact decide_eq_false (by omega)

/-- The task of core `c` has no higher PRIO than that of core `b`. -/
def notAbove (h : Hw) (c b : Nat) : Bool :=
  match (olk h c).ctx, (olk h b).ctx with
  | some n, some k => decide (prio (ctx h n) ≤ prio (ctx h k))
  | _, _ => true

/-- The core that PREEMPT takes where no core of the mask is free (R302). -/
theorem victim_eq {h : Hw} {aff p : Nat} (hbusy : ∀ d, d < 12 → aff.testBit d = true → coreOpen h d = false) :
    victim h aff p = ((List.range 12).filter fun c => aff.testBit c).foldl (pick (runsBelow h p) (notAbove h)) none := by
  have hno : ((List.range 12).filter fun c => aff.testBit c).any (fun c => coreOpen h c) = false :=
    List.any_eq_false.2 fun d hd => by
      obtain ⟨hlt, hbit⟩ := List.mem_filter.1 hd
      exact Bool.eq_false_iff.1 (hbusy d (List.mem_range.1 hlt) hbit)
  have hstep : pick (runsBelow h p) (notAbove h) = fun best c =>
      if runsBelow h p c then
        match best, (olk h c).ctx with
        | some b, some n =>
          match (olk h b).ctx with
          | some k => if prio (ctx h n) ≤ prio (ctx h k) then some c else best
          | none => some c
        | _, _ => some c
      else best := by
    funext best c
    unfold pick
    split
    case isFalse => rfl
    case isTrue =>
      cases best with
      | none => rfl
      | some b =>
        unfold notAbove
        cases hc : (olk h c).ctx with
        | none => rfl
        | some n =>
          cases hb : (olk h b).ctx with
          | none => simp only [hb, if_true]
          | some k => simp only [decide_eq_true_eq, hb]
  rw [hstep]
  exact if_neg (Bool.eq_false_iff.1 hno)

/-- PREEMPT takes the core of the lowest-priority task, the higher number on a tie (R302). -/
theorem victim_some {h : Hw} {aff p c k : Nat} (hbusy : ∀ d, d < 12 → aff.testBit d = true → coreOpen h d = false) (hc : c < 12)
    (hmask : aff.testBit c = true) (hk : (olk h c).ctx = some k) (hruns : runsBelow h p c = true)
    (hlowest : ∀ d j, d < 12 → d ≠ c → aff.testBit d = true → runsBelow h p d = true → (olk h d).ctx = some j →
      prio (ctx h k) < prio (ctx h j) ∨ (prio (ctx h k) = prio (ctx h j) ∧ d < c)) : victim h aff p = some c := by
  have htask {d : Nat} (hd : runsBelow h p d = true) : ∃ j, (olk h d).ctx = some j := by
    rw [runsBelow] at hd
    cases hj : (olk h d).ctx with
    | none => rw [hj] at hd; exact absurd hd Bool.false_ne_true
    | some j => exact ⟨j, rfl⟩
  rw [victim_eq hbusy]
  refine foldl_pick_eq (List.pairwise_lt_range.filter _) (List.mem_filter.2 ⟨List.mem_range.2 hc, hmask⟩) hruns
    (fun d hd hlt hd' => ?_) fun d hd hlt hd' => ?_
  all_goals
    obtain ⟨hd12, hbit⟩ := List.mem_filter.1 hd
    obtain ⟨j, hj⟩ := htask hd'
    have hlow := hlowest d j (List.mem_range.1 hd12) (by omega) hbit hd' hj
    rw [notAbove, hk, hj]
  · exact decide_eq_true (by omega)
  · exact decide_eq_false (by omega)

end Sys2Proof.Machine

/-! ## A context reaches a core (R294, R297) -/

namespace Sys2Proof.Machine

/-- What holds no reservation is untouched by a write (R284). -/
theorem olk_clearResv_none {h : Hw} {c : Nat} (hno : (olk h c).resv = none) (a n : Nat) : olk (clearResv a n h) c = olk h c := by
  refine forL_preserves (p := fun x => olk x c = olk h c) (fun k _ x hx => ?_) rfl
  by_cases hk : c = k
  · subst hk
    have hx' : (olk x c).resv = none := by rw [hx, hno]
    rw [hx']
    exact hx
  · split
    · split
      · exact (olk_setOlk_ne _ hk).trans hx
      · exact hx
    · exact hx

theorem storeWords_onlyOlk (a : Nat) (l : List Nat) (m : Mach) : OnlyOlk m.hw (storeWords a l m).hw := by
  induction l generalizing a m with
  | nil => rfl
  | cons w l ih => exact (store_onlyOlk a 4 w m).trans (ih ..)

theorem olk_store_none {c : Nat} {m : Mach} (hno : (olk m.hw c).resv = none) (a n v : Nat) : olk (store a n v m).hw c = olk m.hw c := by
  rw [store_hw, olk_clearResv_none hno]

theorem olk_storeWords_none {c : Nat} {m : Mach} (hno : (olk m.hw c).resv = none) (a : Nat) (l : List Nat) :
    olk (storeWords a l m).hw c = olk m.hw c := by
  induction l generalizing a m with
  | nil => rfl
  | cons w l ih =>
    have hone := olk_store_none hno a 4 w
    exact (ih (by rw [hone, hno]) _).trans hone

/-- From `h` to `h'` only pages and queues change. -/
def OnlyPages (h h' : Hw) : Prop := h' = { h with pages := h'.pages, queues := h'.queues }

theorem OnlyPages.trans {h x y : Hw} (e : OnlyPages h x) (e' : OnlyPages x y) : OnlyPages h y := by
  unfold OnlyPages at *
  rw [e', e]

theorem setPage_onlyPages (h : Hw) (p : Nat) (r : Page) : OnlyPages h (setPage h p r) := rfl

theorem setQueue_onlyPages (h : Hw) (q : Nat) (l : List QItem) : OnlyPages h (setQueue h q l) := rfl

theorem moveChain_onlyPages (p : Nat) (own : Owner) (h : Hw) : OnlyPages h (moveChain p own h) :=
  forL_preserves (p := OnlyPages h) (fun _ _ x hx => hx.trans (setPage_onlyPages x ..)) rfl

theorem deliver_onlyPages (n : Nat) (l : List (Nat × QItem)) (h : Hw) : OnlyPages h (deliver n l h) := by
  induction l generalizing h with
  | nil => rfl
  | cons e l ih =>
    obtain ⟨q, i⟩ := e
    exact ((moveChain_onlyPages i.page (.ctx n) h).trans (setQueue_onlyPages ..)).trans (ih _)

/-- The record `r` of a core that takes context `n` (R294). -/
def taskCore (n : Nat) (m : Mach) (r : Olk) : Olk :=
  { r with
    phase := .run, pc := (ctx m.hw n).pc, flags := natFlags (rdMem m.mem (recBase m.hw n + 0x484) 1), sup := false
    wslot := descF (ctx m.hw n) 52 8
    prods := [0, 1, 2, 3].foldl
      (fun a k => smPut 0 k (BitVec.ofNat 256 (rdMem m.mem (recBase m.hw n + 0x400 + 0x20 * k) 32)) a) []
    late := [], lateP := [], resv := none, rep := none, ctx := some n, nest := 0 }

/-- The address of the window of context `n` in the near memory of core `c` (R291). -/
def taskWin (n c : Nat) (m : Mach) : Nat := nearBase c + descF (ctx m.hw n) 52 8 * 0x400

/-- The record of context `n` is loaded into core `c` (R294). -/
def loadTask (n c : Nat) (m : Mach) : Mach :=
  (storeBytes (taskWin n c m) (rdBytes m.mem (recBase m.hw n) 1024) m).onHw fun h =>
    setCtx (setOlk h c (taskCore n m (olk h c))) n { ctx m.hw n with st := .running, core := c, begun := true }

/-- The first dispatch of an activation, of kind and line as in `x` (R297): pages are delivered and the activation words written at `w`. -/
def firstDispatch (n w : Nat) (x : Ctx) (m : Mach) : Mach :=
  let l := toDeliver m.hw n
  let m1 := m.onHw (deliver n l)
  let more := !(toDeliver m1.hw n).isEmpty
  let m2 := m1.onHw fun h => setCtx h n { ctx h n with got := l.map (fun e => e.2.page), more := more }
  storeWords (w + 16) ((List.range 16).map fun k => (l[k]?.map (fun e => pageAddr e.2.page)).getD 0) (store w 16 (actWords x l.length more) m2)

theorem dispatchTo_eq (n c : Nat) (m : Mach) : dispatchTo n c m = if (ctx m.hw n).begun then loadTask n c m
    else firstDispatch n (taskWin n c m + 16 * descF (ctx m.hw n) 64 6) (ctx m.hw n) (loadTask n c m) := rfl

/-- Core `c` runs context `n`, which was `x`, in task mode from its saved pc (R294, R297). -/
structure Runs (n c : Nat) (x : Ctx) (h : Hw) : Prop where
  phase : (olk h c).phase = .run
  sup : (olk h c).sup = false
  task : (olk h c).ctx = some n
  pc : (olk h c).pc = x.pc
  late : (olk h c).late = []
  rep : (olk h c).rep = none
  resv : (olk h c).resv = none
  st : (ctx h n).st = .running
  core : (ctx h n).core = c
  begun : (ctx h n).begun = true

section
variable (n c : Nat) (m : Mach)

/-- What a load does to the units: with `x` the units after the window was written, the core and the context are set. -/
theorem hw_loadTask : ∃ x, OnlyOlk m.hw x ∧ (loadTask n c m).hw =
    setCtx (setOlk x c (taskCore n m (olk x c))) n { ctx m.hw n with st := .running, core := c, begun := true } :=
  ⟨_, storeBytes_onlyOlk (taskWin n c m) (rdBytes m.mem (recBase m.hw n) 1024) m, by rw [loadTask, Mach.onHw_hw]⟩

theorem runs_loadTask : Runs n c (ctx m.hw n) (loadTask n c m).hw := by
  obtain ⟨x, -, hx⟩ := hw_loadTask n c m
  rw [hx]
  have hcore {β : Type} (p : Olk → β) (hp : ∀ r w, p { r with wdgAt := w } = p r) :=
    (congrArg p (olk_setCtx (setOlk x c (taskCore n m (olk x c))) n
      { ctx m.hw n with st := .running, core := c, begun := true } c)).trans (olk_setOlk_field p hp x c (taskCore n m (olk x c)))
  have hctx := ctx_setCtx_same (setOlk x c (taskCore n m (olk x c))) n { ctx m.hw n with st := .running, core := c, begun := true }
  exact ⟨hcore Olk.phase fun _ _ => rfl, hcore Olk.sup fun _ _ => rfl, hcore Olk.ctx fun _ _ => rfl, hcore Olk.pc fun _ _ => rfl,
    hcore Olk.late fun _ _ => rfl, hcore Olk.rep fun _ _ => rfl, hcore Olk.resv fun _ _ => rfl,
    congrArg Ctx.st hctx, congrArg Ctx.core hctx, congrArg Ctx.begun hctx⟩

theorem loadTask_moved : TaskMoved m.hw (loadTask n c m).hw := by
  obtain ⟨x, hcores, hx⟩ := hw_loadTask n c m
  rw [hx]
  exact ((TaskMoved.ofCores hcores).setOlk ..).setCtx ..

theorem ctx_loadTask_ne {k : Nat} (hk : k ≠ n) : ctx (loadTask n c m).hw k = ctx m.hw k := by
  obtain ⟨x, hcores, hx⟩ := hw_loadTask n c m
  rw [hx, ctx_setCtx_ne _ hk]
  exact ctx_onlyOlk hcores k

theorem mem_loadTask : (loadTask n c m).mem = wrBytes m.mem (taskWin n c m) (rdBytes m.mem (recBase m.hw n) 1024) := by
  rw [loadTask, Mach.onHw_mem, storeBytes_mem]

end

section
variable (n w : Nat) (x : Ctx) (m : Mach)

/-- The pages that the first dispatch delivers, and MORE. -/
def deliveredCtx : Ctx :=
  { ctx m.hw n with
    got := (toDeliver m.hw n).map fun e => e.2.page, more := !(toDeliver (deliver n (toDeliver m.hw n) m.hw) n).isEmpty }

theorem st_deliveredCtx : (deliveredCtx n m).st = (ctx m.hw n).st := rfl

theorem core_deliveredCtx : (deliveredCtx n m).core = (ctx m.hw n).core := rfl

theorem begun_deliveredCtx : (deliveredCtx n m).begun = (ctx m.hw n).begun := rfl

/-- After the pages and the record, the first dispatch only writes memory. -/
theorem firstDispatch_onlyOlk : OnlyOlk (setCtx (deliver n (toDeliver m.hw n) m.hw) n (deliveredCtx n m)) (firstDispatch n w x m).hw := by
  have hctx : ctx (deliver n (toDeliver m.hw n) m.hw) n = ctx m.hw n := by rw [deliver_onlyPages]; rfl
  rw [deliveredCtx, ← hctx]
  exact (store_onlyOlk ..).trans (storeWords_onlyOlk ..)

theorem ctx_firstDispatch_same : ctx (firstDispatch n w x m).hw n = deliveredCtx n m := by
  rw [ctx_onlyOlk (firstDispatch_onlyOlk ..), ctx_setCtx_same]

theorem ctx_firstDispatch_ne {k : Nat} (hk : k ≠ n) : ctx (firstDispatch n w x m).hw k = ctx m.hw k := by
  rw [ctx_onlyOlk (firstDispatch_onlyOlk ..), ctx_setCtx_ne _ hk, deliver_onlyPages]
  rfl

theorem olk_firstDispatch {c : Nat} (hno : (olk m.hw c).resv = none) : olk (firstDispatch n w x m).hw c = olk m.hw c := by
  have hset (r : Ctx) : olk (setCtx (deliver n (toDeliver m.hw n) m.hw) n r) c = olk m.hw c := by
    rw [olk_setCtx, deliver_onlyPages]
    rfl
  unfold firstDispatch
  dsimp only
  rw [olk_storeWords_none, olk_store_none]
  · exact hset _
  · exact (congrArg Olk.resv (hset _)).trans hno
  · rw [olk_store_none]
    · exact (congrArg Olk.resv (hset _)).trans hno
    · exact (congrArg Olk.resv (hset _)).trans hno

theorem pwr_firstDispatch : (firstDispatch n w x m).hw.pwr = m.hw.pwr := by
  rw [firstDispatch_onlyOlk, ((TaskMoved.refl (deliver n (toDeliver m.hw n) m.hw)).setCtx n (deliveredCtx n m)).blocks, deliver_onlyPages]

end

section
variable (n c : Nat) (m : Mach)

theorem runs_dispatchTo : Runs n c (ctx m.hw n) (dispatchTo n c m).hw := by
  have hload := runs_loadTask n c m
  rw [dispatchTo_eq]
  split
  case isTrue => exact hload
  case isFalse =>
    obtain ⟨hphase, hsup, htask, hpc, hlate, hrep, hresv, hst, hcore, hbegun⟩ := hload
    have holk := olk_firstDispatch n (taskWin n c m + 16 * descF (ctx m.hw n) 64 6) (ctx m.hw n) (loadTask n c m) hresv
    have hctx := ctx_firstDispatch_same n (taskWin n c m + 16 * descF (ctx m.hw n) 64 6) (ctx m.hw n) (loadTask n c m)
    rw [← holk] at hphase hsup htask hpc hlate hrep hresv
    rw [← st_deliveredCtx, ← hctx] at hst
    rw [← core_deliveredCtx, ← hctx] at hcore
    rw [← begun_deliveredCtx, ← hctx] at hbegun
    exact ⟨hphase, hsup, htask, hpc, hlate, hrep, hresv, hst, hcore, hbegun⟩

theorem ctx_dispatchTo_ne {k : Nat} (hk : k ≠ n) : ctx (dispatchTo n c m).hw k = ctx m.hw k := by
  rw [dispatchTo_eq]
  split
  · exact ctx_loadTask_ne n c m hk
  · rw [ctx_firstDispatch_ne _ _ _ _ hk, ctx_loadTask_ne n c m hk]

theorem pwr_dispatchTo : (dispatchTo n c m).hw.pwr = m.hw.pwr := by
  rw [dispatchTo_eq]
  split
  · exact (loadTask_moved n c m).pwr
  · rw [pwr_firstDispatch, (loadTask_moved n c m).pwr]

/-- A context that continues finds its window as its record holds it (R294). -/
theorem mem_dispatchTo_begun (hbegun : (ctx m.hw n).begun = true) :
    (dispatchTo n c m).mem = wrBytes m.mem (taskWin n c m) (rdBytes m.mem (recBase m.hw n) 1024) := by
  rw [dispatchTo_eq, if_pos hbegun, mem_loadTask]

end

/-- A free core takes the best READY context where no lower core that is free has one (R301). -/
theorem dispatch_takes {c n : Nat} {m : Mach} (hfree : coreOpen m.hw c = true) (hon : domOpen m.hw 18 = true)
    (hlower : ∀ e, e < c → coreOpen m.hw e = true → bestReady m.hw e = none) (hbest : bestReady m.hw c = some n) :
    dispatch c m = dispatchTo n c m := by
  have hearlier : (List.range c).any (fun k => coreOpen m.hw k && (bestReady m.hw k).isSome) = false := by
    refine List.any_eq_false.2 fun e he hboth => ?_
    obtain ⟨hopen, hsome⟩ := (Bool.and_eq_true _ _).mp hboth
    rw [hlower e (List.mem_range.1 he) hopen] at hsome
    exact Bool.false_ne_true hsome
  rw [dispatch, hearlier]
  rw [if_pos ⟨hfree, hon, rfl⟩, hbest]

theorem coreOpen_iff {h : Hw} {c : Nat} : coreOpen h c = true ↔ (olk h c).phase = .free ∧ domOpen h (1 + c) = true := by
  rw [coreOpen, Bool.and_eq_true, decide_eq_true_eq]

/-- PREEMPT where the removal need not wait (R302). -/
theorem preempt_takes {n c k : Nat} {m : Mach} (hready : (ctx m.hw n).st = .ready) (hon : domOn m.hw 18 = true)
    (hvictim : victim m.hw (descF (ctx m.hw n) 40 12) (prio (ctx m.hw n)) = some c) (hk : (olk m.hw c).ctx = some k) :
    preempt n m = if removable m.hw c then
      dispatchTo n c ((removeFrom k c m).onHw fun h => setCtx h k { ctx h k with st := .ready }) else m := by
  rw [preempt]
  rw [if_pos ⟨hready, hon⟩, hvictim]
  dsimp only
  rw [hk]

/-- A bit of the mask of cores in DESC. -/
theorem testBit_mask (r : Ctx) {d : Nat} (hd : d < 12) : (descF r 40 12).testBit d = r.desc.testBit (40 + d) := by
  rw [descF, Nat.testBit_mod_two_pow, Nat.testBit_div_two_pow, decide_eq_true hd, Bool.true_and, Nat.add_comm]

end Sys2Proof.Machine

/-! ## A task leaves its core: what its record then holds (R294, R303, R304) -/

namespace Sys2Proof.Machine

/-- The products of a core in a record: each lies at its place, and no byte outside those places changes. -/
theorem rdByte_storeProds_out (base : Nat) (p : List (Nat × BitVec 256)) {l : List Nat} {b : Nat}
    (hb : ∀ k ∈ l, b < base + 0x400 + 0x20 * k ∨ base + 0x400 + 0x20 * k + 32 ≤ b) (m : Mach) :
    rdByte (storeProds base p l m).mem b = rdByte m.mem b := by
  induction l generalizing m with
  | nil => rfl
  | cons k l ih =>
    rw [storeProds, ih (fun j hj => hb j (List.mem_cons_of_mem k hj)), store_mem, rdByte_wrMem_out _ _ _ _ _ (hb k List.mem_cons_self)]

theorem rdMem_congr {m m' : Mem} {a n : Nat} (h : ∀ i, i < n → rdByte m' (a + i) = rdByte m (a + i)) : rdMem m' a n = rdMem m a n := by
  induction n generalizing a with
  | zero => rfl
  | succ n ih =>
    have hfirst : rdByte m' a = rdByte m a := h 0 (Nat.succ_pos n)
    rw [rdMem, rdMem, hfirst, ih fun i hi => by rw [Nat.add_assoc, Nat.add_comm 1]; exact h (i + 1) (Nat.succ_lt_succ hi)]

theorem rdMem_storeProds (base : Nat) (p : List (Nat × BitVec 256)) {l : List Nat} (hl : l.Nodup) {k : Nat} (hk : k ∈ l) (m : Mach) :
    rdMem (storeProds base p l m).mem (base + 0x400 + 0x20 * k) 32 = (smGet 0 p k).toNat := by
  induction l generalizing m with
  | nil => exact absurd hk List.not_mem_nil
  | cons j l ih =>
    obtain ⟨hj, hl⟩ := List.nodup_cons.1 hl
    rw [storeProds]
    by_cases hkj : k = j
    · subst hkj
      have hlt := (smGet 0 p k).isLt
      have hkeep := rdMem_congr (m := (store (base + 0x400 + 0x20 * k) 32 (smGet 0 p k).toNat m).mem) (a := base + 0x400 + 0x20 * k) (n := 32)
        fun i hi => rdByte_storeProds_out base p (l := l) (b := base + 0x400 + 0x20 * k + i) (fun e he => by
          have hne : e ≠ k := fun h => hj (h ▸ he)
          omega) _
      rw [hkeep, store_mem, rdMem_wrMem]
      exact Nat.mod_eq_of_lt (hlt.trans_le (by decide))
    · exact ih hl ((List.mem_cons.1 hk).resolve_left hkj) _

theorem mem_storeProds_congr (base : Nat) (p : List (Nat × BitVec 256)) (l : List Nat) {m m' : Mach} (hm : m'.mem = m.mem) :
    (storeProds base p l m').mem = (storeProds base p l m).mem := by
  induction l generalizing m m' with
  | nil => exact hm
  | cons k l ih => exact ih (by rw [store_mem, store_mem, hm])

theorem mem_storeOut (n c : Nat) (pc : Word) (fl : Flags) (m : Mach) : (storeOut n c pc fl m).mem =
    wrMem (wrMem (storeProds (recBase m.hw n) (olk m.hw c).prods [0, 1, 2, 3]
      (storeBytes (recBase m.hw n) (rdBytes m.mem (taskWin n c m) 1024) m)).mem (recBase m.hw n + 0x480) 16
        (flagsNat fl * 2 ^ 32 + pc.toNat)) (recBase m.hw n + 0x490) 16 (ctx m.hw n).rel := by
  rw [storeOut, store_mem, store_mem]
  rfl

/-- What is stored is a matter of the core's record, the context, the place of its record and the memory. -/
theorem mem_storeOut_congr {n c : Nat} (pc : Word) (fl : Flags) {m m' : Mach} (hm : m'.mem = m.mem) (hcore : olk m'.hw c = olk m.hw c)
    (hctx : ctx m'.hw n = ctx m.hw n) (hbase : recBase m'.hw n = recBase m.hw n) :
    (storeOut n c pc fl m').mem = (storeOut n c pc fl m).mem := by
  have hwin : taskWin n c m' = taskWin n c m := by rw [taskWin, taskWin, hctx]
  rw [mem_storeOut, mem_storeOut, hbase, hcore, hctx, hwin, hm,
    mem_storeProds_congr _ _ _ (m := storeBytes (recBase m.hw n) (rdBytes m.mem (taskWin n c m) 1024) m)]
  rw [storeBytes_mem, storeBytes_mem, hm]

theorem flagsNat_lt (f : Flags) : flagsNat f < 2 ^ 32 := by
  have hn := f.n.toNat_lt
  have hz := f.z.toNat_lt
  have hv := f.v.toNat_lt
  have hc := f.c.toNat_lt
  unfold flagsNat
  omega

/-- What the record of a context holds after it was stored from core `c` (R291, R294). -/
theorem recStored_storeOut (n c : Nat) (pc : Word) (fl : Flags) (s : State) {t : State} (ht : t.m.mem = (storeOut n c pc fl s.m).mem) :
    recStored s t n c pc fl := by
  have hpc := pc.isLt
  have hfl := flagsNat_lt fl
  have hplace : ∀ k ∈ [0, 1, 2, 3], k < 4 := by decide
  unfold recStored
  intro b
  rw [sameMemBut, ht, mem_storeOut]
  refine ⟨fun a ha => ?window, fun k hk => ?products, ?point, ?flags, ?rel, fun a ha => ?others⟩
  case window =>
    rw [rdByte_wrMem_out _ _ _ _ _ (by omega), rdByte_wrMem_out _ _ _ _ _ (by omega), rdByte_storeProds_out _ _ (fun k hk => by omega),
      storeBytes_mem]
    exact rdByte_copy ha
  case products =>
    rw [rdMem_wrMem_out _ _ _ _ _ _ (by omega), rdMem_wrMem_out _ _ _ _ _ _ (by omega)]
    exact rdMem_storeProds _ _ (by decide) (by simp; omega) _
  case point =>
    rw [rdMem_wrMem_out _ _ _ _ _ _ (by omega)]
    refine (rdMem_wrMem_part _ _ _ (j := 0) (by decide)).trans ?_
    omega
  case flags =>
    rw [rdMem_wrMem_out _ _ _ _ _ _ (by omega)]
    refine (rdMem_wrMem_part _ _ _ (j := 4) (by decide)).trans ?_
    omega
  case rel => exact (rdMem_wrMem_part _ _ _ (j := 0) (by decide)).trans (by omega)
  case others =>
    rw [rdByte_wrMem_out _ _ _ _ _ (by omega), rdByte_wrMem_out _ _ _ _ _ (by omega),
      rdByte_storeProds_out _ _ (fun k hk => by have := hplace k hk; omega), storeBytes_mem,
      rdByte_wrBytes_out _ _ _ _ (by rw [length_rdBytes]; omega)]

section
variable {n c : Nat} {m : Mach} (e : Settled m.hw c)
include e

theorem olk_landAll_settled : olk (landAll c m).hw c = olk m.hw c := by rw [landAll_settled e, Mach.onHw_hw, olk_setOlk_self]

theorem stopPc_settled : stopPc c m = (taskPoint (olk m.hw c)).1 := by rw [stopPc, olk_landAll_settled e]

/-- With nothing late a removal only stores the record. -/
theorem mem_removeFrom_settled : (removeFrom n c m).mem =
    (storeOut n c (taskPoint (olk m.hw c)).1 (taskPoint (olk m.hw c)).2 m).mem := by
  have hmem : (removeFrom n c m).mem =
      (storeOut n c (taskPoint (olk (landAll c m).hw c)).1 (taskPoint (olk (landAll c m).hw c)).2 (landAll c m)).mem := rfl
  have hland : (landAll c m).mem = m.mem := by rw [landAll_settled e, Mach.onHw_mem]
  have hbase : recBase (landAll c m).hw n = recBase m.hw n := (TaskMoved.ofCores (landAll_onlyOlk c m)).recBase n
  have hctx : ctx (landAll c m).hw n = ctx m.hw n := ctx_onlyOlk (landAll_onlyOlk c m) n
  rw [hmem, olk_landAll_settled e, mem_storeOut_congr _ _ hland (olk_landAll_settled e) hctx hbase]

end

/-- Core `c` is free, as YIELD and DONE leave it (R303). -/
def CoreFreed (h : Hw) (c : Nat) : Prop :=
  (olk h c).phase = .free ∧ (olk h c).ctx = none ∧ (olk h c).sup = true ∧ (olk h c).ie = true ∧ (olk h c).exl = false

theorem coreFreed_freeCore (c : Nat) (h : Hw) : CoreFreed (freeCore c h) c := by
  have hcore {β : Type} (p : Olk → β) (hp : ∀ r w, p { r with wdgAt := w } = p r) := olk_setOlk_field p hp h c
    { olk h c with phase := .free, sup := true, ie := true, exl := false, ctx := none, nest := 0, rep := none, hang := none, resv := none }
  exact ⟨hcore Olk.phase fun _ _ => rfl, hcore Olk.ctx fun _ _ => rfl, hcore Olk.sup fun _ _ => rfl, hcore Olk.ie fun _ _ => rfl,
    hcore Olk.exl fun _ _ => rfl⟩

theorem CoreFreed.of_olk_eq {h x : Hw} {c : Nat} (e : CoreFreed h c) (hx : olk x c = olk h c) : CoreFreed x c := by
  unfold CoreFreed
  rwa [hx]

theorem olk_endAct (n : Nat) (st : CtxSt) (h : Hw) (c : Nat) : olk (endAct n st h) c = olk h c := by
  have hrelease (x : Hw) : olk (releaseWaits n x) c = olk x c := by
    refine forN_keeps (olk · c) (fun k y => ?_) 256 x
    dsimp only
    split
    · exact olk_setCtx ..
    · rfl
  exact (hrelease _).trans (olk_setCtx ..)

end Sys2Proof.Machine

/-! ## DISPATCH, PREEMPT, YIELD and DONE (R301 … R304) -/

namespace Sys2Proof.Machine

section
variable {c n : Nat} {s : State}

/-- DISPATCH of a free core with its best context. -/
theorem answers_dispatch {core : Fin 12} (ha : s.alive = true) (hm : dispatch core.val s.m = dispatchTo n core.val s.m) {P : State → Prop}
    (hp : P { s with m := dispatchTo n core.val s.m }) : Answers (.dispatch core) s P :=
  answers_run rfl ha hm (pwr_dispatchTo ..) hp

/-- The window of a context that continues holds what its record held, and nothing else changes (R294). -/
theorem window_dispatchTo_begun (hbegun : (ctx s.m.hw n).begun = true) :
    (∀ a, a < 1024 → rdByte (dispatchTo n c s.m).mem (taskWin n c s.m + a) = rdByte s.m.mem (recBase s.m.hw n + a)) ∧
      sameMemBut s { s with m := dispatchTo n c s.m } (taskWin n c s.m) 1024 := by
  unfold sameMemBut
  rw [mem_dispatchTo_begun n c s.m hbegun]
  exact ⟨fun a ha => rdByte_copy ha, fun b hb => rdByte_wrBytes_out _ _ _ _ (by rwa [length_rdBytes])⟩

/-- Context `n` takes the place of `k` on core `c` (R302). -/
def displace (n c k : Nat) (m : Mach) : Mach :=
  dispatchTo n c ((removeFrom k c m).onHw fun h => setCtx h k { ctx h k with st := .ready })

theorem pwr_displace (n c k : Nat) (m : Mach) : (displace n c k m).hw.pwr = m.hw.pwr :=
  (pwr_dispatchTo ..).trans ((removeFrom_moved (n := k) (c := c) (m := m)).setCtx ..).pwr

/-- The context that displaces runs from its saved pc. -/
theorem runs_displace {k : Nat} (hk : k ≠ n) (m : Mach) : Runs n c (ctx m.hw n) (displace n c k m).hw := by
  have hctx : ctx ((removeFrom k c m).onHw fun h => setCtx h k { ctx h k with st := .ready }).hw n = ctx m.hw n := by
    rw [Mach.onHw_hw, ctx_setCtx_ne _ hk.symm, ctx_removeFrom_ne hk.symm]
  rw [← hctx]
  exact runs_dispatchTo ..

/-- The displaced one is READY again. -/
theorem st_displace {k : Nat} (hk : k ≠ n) (m : Mach) : (ctx (displace n c k m).hw k).st = .ready := by
  rw [displace, ctx_dispatchTo_ne _ _ _ hk, Mach.onHw_hw, ctx_setCtx_same]

end

/-- A core whose write finds its way to a page runs (R32). -/
theorem phase_run_of_writes {s : State} {c : Fin 12} {ty i off : Nat} (hw : s.writes (.core c) ty i off = true) :
    (olk s.m.hw c.val).phase = .run := by
  simp only [State.writes, State.arrives, Bool.and_eq_true] at hw
  obtain ⟨⟨-, hreach⟩, -⟩ := hw
  obtain ⟨-, hlive, -⟩ := reach_iff.1 hreach
  exact phase_run_of_iniLive hlive

/-- Context `n` leaves core `c` at a YIELD (R303). -/
def yieldTask (n c : Nat) (m : Mach) : Mach := (removeFrom n c m).onHw fun h => freeCore c (setCtx h n { ctx h n with st := .ready })

theorem mem_yieldTask (n c : Nat) (m : Mach) : (yieldTask n c m).mem = (removeFrom n c m).mem := by rw [yieldTask, Mach.onHw_mem]

theorem pwr_yieldTask (n c : Nat) (m : Mach) : (yieldTask n c m).hw.pwr = m.hw.pwr := by
  rw [yieldTask, Mach.onHw_hw]
  exact ((removeFrom_moved.setCtx n _).freeCore c).pwr

theorem coreFreed_yieldTask (n c : Nat) (m : Mach) : CoreFreed (yieldTask n c m).hw c := by
  rw [yieldTask, Mach.onHw_hw]
  exact coreFreed_freeCore ..

theorem ctx_yieldTask (n c : Nat) (m : Mach) : ctx (yieldTask n c m).hw n = { ctx m.hw n with pc := stopPc c m, st := .ready } := by
  rw [yieldTask, Mach.onHw_hw, freeCore, ctx_onlyOlk (setOlk_onlyOlk ..), ctx_setCtx_same, ctx_removeFrom_same]

/-- YIELD from supervisor code takes the task off the writing core (R303). -/
theorem yieldWrite_sup {c : Fin 12} {n : Nat} {m : Mach} (hsup : (olk m.hw c.val).sup = true) (hn : (olk m.hw c.val).ctx = some n) :
    yieldWrite (.core c) 1 m = yieldTask n c.val m := by
  have htask : taskCtx m.hw (.core c) = none := by rw [taskCtx, hsup, if_pos rfl]
  have hcore : yieldCore c.val m = yieldTask n c.val m := by rw [yieldCore, hn, yieldTask]
  rw [yieldWrite, htask, ← hcore]
  rfl

/-- YIELD from task mode is refused (R326). -/
theorem yieldWrite_task {c : Fin 12} {n : Nat} {m : Mach} (hsup : (olk m.hw c.val).sup = false) (hn : (olk m.hw c.val).ctx = some n) :
    yieldWrite (.core c) 1 m = m.onHw fun h => err h 0x30 0 16 := by
  have htask : taskCtx m.hw (.core c) = some n := by rw [taskCtx, hsup, if_neg Bool.false_ne_true, hn]
  rw [yieldWrite, htask]
  rfl

/-- A context leaves core `c` and its activation ends (R304). -/
def endTask (n c : Nat) (m : Mach) : Mach := (removeFrom n c m).onHw (endAct n .idle)

theorem endTask_moved (n c : Nat) (m : Mach) : TaskMoved m.hw (endTask n c m).hw := by
  rw [endTask, Mach.onHw_hw]
  exact removeFrom_moved.endAct n .idle

theorem mem_endTask (n c : Nat) (m : Mach) : (endTask n c m).mem = (removeFrom n c m).mem := by rw [endTask, Mach.onHw_mem]

theorem ctx_endTask (n c : Nat) (m : Mach) : ctx (endTask n c m).hw n = ended .idle { ctx m.hw n with pc := stopPc c m } := by
  rw [endTask, Mach.onHw_hw, ctx_endAct_same, ctx_removeFrom_same]

/-- From task mode the core that loses its task is free (R294, R304). -/
theorem coreFreed_endTask {n c : Nat} {m : Mach} (e : Settled m.hw c) (hsup : (olk m.hw c).sup = false) : CoreFreed (endTask n c m).hw c := by
  refine .of_olk_eq (coreFreed_freeCore c (setCtx (removal n c m).hw n { ctx (removal n c m).hw n with pc := stopPc c m })) ?_
  rw [endTask, Mach.onHw_hw, olk_endAct, removeFrom_eq, Mach.onHw_hw, olk_landAll_settled e, hsup, leaveCore, if_neg Bool.false_ne_true]

/-- DONE with nothing pending and without AGIVE: the context leaves the core and its activation ends (R304). -/
theorem doneTask_quiet {c n : Nat} {m : Mach} (hn : (olk m.hw c).ctx = some n) (hagive : (ctx m.hw n).desc / 2 ^ 37 % 2 = 0)
    (hkept : (ctx m.hw n).kept = none) (hmore : (ctx m.hw n).more = false) (hlines : linesOfCtx m.hw n = []) (hqueues : queuesOf m.hw n = []) :
    doneTask c m = endTask n c m := by
  have hno : ¬ descF (ctx m.hw n) 37 1 = 1 := by
    rw [descF, Nat.pow_one, hagive]
    exact Nat.zero_ne_one
  have hmoved := (removeFrom_moved (n := n) (c := c) (m := m)).endAct n .idle
  have hquiet := nextAct_quiet ((hmoved.linesOfCtx n).trans hlines) ((hmoved.queuesOf n).trans hqueues)
  rw [doneTask, hn]
  dsimp only
  rw [hkept, hmore]
  simp only [if_neg hno]
  rw [endTask, Mach.onHw, hquiet, Mach.onHw]

theorem coreStep_done {s : State} {c : Fin 12} {hd : Head} {specs : List Spec} (e : Ready s ⟨c, .done, hd, specs⟩) :
    coreStep ⟨c, .done, hd, specs⟩ s.m = doneTask c.val s.m := by
  obtain ⟨-, hcount, -⟩ := e.encoding
  obtain rfl : specs = [] := List.length_eq_zero_iff.1 (List.mem_singleton.1 hcount)
  exact coreStep_special e nofun rfl rfl

/-- YIELD from supervisor code with nothing late (R294, R303). -/
theorem answers_yield {c : Fin 12} {n : Nat} {s : State} (hw : s.writes (.core c) 0x30 0 0x044 = true) (hsup : (olk s.m.hw c.val).sup = true)
    (hn : (olk s.m.hw c.val).ctx = some n) (hlate : (olk s.m.hw c.val).late = []) (hlateP : (olk s.m.hw c.val).lateP = []) :
    Answers (.yield (.core c)) s (fun t => CoreFreed t.m.hw c.val ∧ (ctx t.m.hw n).st = .ready ∧
      (ctx t.m.hw n).pc = (olk s.m.hw c.val).epc ∧ recStored s t n c.val (olk s.m.hw c.val).epc (olk s.m.hw c.val).eflags) := by
  have e : Settled s.m.hw c.val := ⟨phase_run_of_writes hw, hlate, hlateP⟩
  have hpoint : taskPoint (olk s.m.hw c.val) = ((olk s.m.hw c.val).epc, (olk s.m.hw c.val).eflags) := by rw [taskPoint, hsup, if_pos rfl]
  have hctx := ctx_yieldTask n c.val s.m
  have hmem := (mem_yieldTask n c.val s.m).trans (mem_removeFrom_settled e)
  rw [stopPc_settled e, hpoint] at hctx
  rw [hpoint] at hmem
  exact ⟨_, exec_write rfl hw (congrArg some (yieldWrite_sup hsup hn)) (pwr_yieldTask ..), coreFreed_yieldTask .., congrArg Ctx.st hctx,
    congrArg Ctx.pc hctx, recStored_storeOut _ _ _ _ _ hmem⟩

/-- DONE of a task with nothing pending (R294, R304). -/
theorem answers_done {c : Fin 12} {n : Nat} {hd : Head} {specs : List Spec} {s : State} (hr : Ready s ⟨c, .done, hd, specs⟩)
    (hsup : (olk s.m.hw c.val).sup = false) (hdone : doneTask c.val s.m = endTask n c.val s.m) :
    Answers (.done c hd specs) s (fun t => CoreFreed t.m.hw c.val ∧ (ctx t.m.hw n).st = .idle ∧
      (ctx t.m.hw n).pc = BitVec.ofNat 32 (ctx s.m.hw n).desc ∧ recStored s t n c.val (olk s.m.hw c.val).pc (olk s.m.hw c.val).flags) := by
  have e : Settled s.m.hw c.val := hr.settled
  have hpoint : taskPoint (olk s.m.hw c.val) = ((olk s.m.hw c.val).pc, (olk s.m.hw c.val).flags) := by
    rw [taskPoint, hsup, if_neg Bool.false_ne_true, faultPc, hr.rep]
  have hmem := (mem_endTask n c.val s.m).trans (mem_removeFrom_settled e)
  rw [hpoint] at hmem
  have hst : (ctx (endTask n c.val s.m).hw n).st = .idle := by rw [ctx_endTask, ended]
  have hpc : (ctx (endTask n c.val s.m).hw n).pc = BitVec.ofNat 32 (ctx s.m.hw n).desc := by rw [ctx_endTask, ended]
  exact answers_run (f := coreStep ⟨c, .done, hd, specs⟩) rfl hr.alive ((coreStep_done hr).trans hdone) (endTask_moved n c.val s.m).pwr
    ⟨coreFreed_endTask e hsup, hst, hpc, recStored_storeOut _ _ _ _ _ hmem⟩

end Sys2Proof.Machine

namespace Sys2Proof

open Machine in
/-- Settles O32: DISPATCH and PREEMPT choose by the searches `bestReady_some` and `victim_some` and end in `dispatchTo`, whose result is
`runs_dispatchTo`; YIELD and DONE are `answers_yield` and `answers_done`. -/
theorem dispatch : Obligations.Dispatch := by
  refine ⟨?dispatch, ?preempt, fun c n s => ?leave⟩
  case dispatch =>
    intro c n s ha hfree h18 hopen hn may hlower hmay hbest
    have hnone : ∀ e, e < c.val → coreOpen s.m.hw e = true → bestReady s.m.hw e = none := fun e he heopen => by
      obtain ⟨hefree, hedom⟩ := coreOpen_iff.1 heopen
      refine bestReady_none fun k hk => Bool.eq_false_iff.2 fun hready => ?_
      obtain ⟨hst, hmask⟩ := readyFor_iff.1 hready
      exact Bool.eq_false_iff.1 (hlower e k he hefree hedom hk hst) hmask
    have hsome : bestReady s.m.hw c.val = some n :=
      bestReady_some hn (readyFor_iff.2 hmay) fun k hk hne hready => hbest k hk hne (readyFor_iff.1 hready)
    have hm := dispatch_takes (coreOpen_iff.2 ⟨hfree, hopen⟩) h18 hnone hsome
    obtain ⟨hphase, hsup, htask, hpc, hlate, hrep, hresv, hst, hcore, hbegun⟩ := runs_dispatchTo n c.val s.m
    exact answers_dispatch ha hm ⟨hphase, hsup, htask, hpc, hlate, hrep, hresv, hst, hcore, hbegun,
      fun k hk => ctx_dispatchTo_ne n c.val s.m hk, window_dispatchTo_begun⟩
  case preempt =>
    intro n c k s ha h18 hc h r mask hready hmask hk hne hruns hbusy hlowest
    have hvictim : victim s.m.hw (descF r 40 12) (prio r) = some c := by
      refine victim_some (fun d hd hbit => hbusy d hd ?_) hc ?_ hk hruns fun d j hd hdc hbit => hlowest d j hd hdc ?_
      · exact (testBit_mask r hd).symm.trans hbit
      · exact (testBit_mask r hc).trans hmask
      · exact (testBit_mask r hd).symm.trans hbit
    have hm := preempt_takes hready h18 hvictim hk
    refine ⟨fun hrem => ?taken, fun hrem => ?waits⟩
    case taken =>
      rw [hrem] at hm
      obtain ⟨-, -, htask, hpc, -, -, -, hst, hcore, -⟩ := runs_displace (c := c) hne s.m
      exact answers_run (m := displace n.toNat c k s.m) rfl ha hm (pwr_displace ..) ⟨hst, hcore, htask, hpc, st_displace hne s.m⟩
    case waits =>
      rw [hrem] at hm
      obtain ⟨t, ht, rfl⟩ := answers_run (c := .preempt n) (m := s.m) (P := (· = s)) rfl ha hm rfl rfl
      exact ht
  case leave =>
    intro r freed
    refine ⟨fun hw hsup hn hlate hlateP => answers_yield hw hsup hn hlate hlateP, fun hw hsup hn => ?refused,
      fun hd specs hr hsup hn hagive hkept hmore hl hq => ?done⟩
    case refused => exact exec_write rfl hw (congrArg some (yieldWrite_task hsup hn)) (err_pwr ..)
    case done => exact answers_done (ready_of_coreReady hr) hsup (doneTask_quiet hn hagive hkept hmore hl hq)

end Sys2Proof
